-- ==== Sys2Proof/Word.lean ====
section
/-!
DEFINITION. The words of the block and the small closed types its commands carry: masters of the register
interface, queues, severities, read kinds, and the like. No arithmetic beyond the widths lives here.
-/
namespace Sys2Proof

/-- A byte. -/
abbrev Byte := BitVec 8

/-- A 32-bit register word (R35). -/
abbrev Word := BitVec 32

/-- One 64 B sector, the unit of a CXL.mem transfer. Byte 0 is bits 7:0. -/
abbrev Sector := BitVec 512

/-- The four severities of an event record (R576). -/
inductive Severity where
  | info | warning | error | fatal
deriving DecidableEq, Repr

/-- The masters of the register interface, in the order of the master item of R621. -/
inductive Master where
  | hp0 | hp1 | mboxHp0 | mboxHp1 | mctp | spdm | debug | barge | mgtA | mgtB | sec | loader | hwBlock
deriving DecidableEq, Repr

/-- The queues of the module built on the primitive of R54: the host record queue of EVQ (R584), the sample queue of
CEN (R601), descriptor and completion queues of the barge channels (R489) and SEC's service queues (R301). -/
inductive QueueId where
  | records | samples
  | descriptors (ch : Fin 4) | completions (ch : Fin 4)
  | secRequest | secResponse
deriving DecidableEq, Repr

/-- The kinds of media read, in the order of the read-kind item of R623. -/
inductive ReadKind where
  | host | altRef | reconstruct | merge | lockFill | barge | maintenance
deriving DecidableEq, Repr

/-- The two timetable references (R101). -/
inductive Osc where
  | main | backup
deriving DecidableEq, Repr

/-- Why an oscillator counts as failed, in the order of R623 (R101, R107). -/
inductive OscCause where
  | noEdge | frequency | lostLock | forced
deriving DecidableEq, Repr

/-- What is offered to TT for a crossing: a landing entry (slice, entry), a stripe copy by its source PSN, a blank stripe of
the repaver by LPN, or a stripe of the internal area by PSN. -/
inductive XWorkRef where
  | landing (slice entry : Nat)
  | copy (src : Nat)
  | blank (lpn : Nat)
  | internal (psn : Nat)
deriving DecidableEq, Repr

/-- What one step of a cold start finds, for steps 2 to 8 of R555. A failed SRAM is a block index, an SRAM number and a word
address. -/
inductive StartIn where
  /-- Step 2: management SRAM that fails (SRAM 0 of pair A, 1 of pair B), and whether SEC's two pre-operational tests pass. -/
  | rom (bist : List (Nat × Nat × Nat)) (kat : Bool)
  /-- Step 3: eight samples of DUALPORTEN# (true is high), which oscillators are sound, whether the signature of each image
  copy verifies, and the POLLs that time out (copy, record index). -/
  | loader (dualPort : List Bool) (mainOk backupOk sigA sigB : Bool) (polls : List (Nat × Nat)) (storeOk : Bool)
  /-- Step 4: firmware slots whose check fails, the first cold-start test that fails (its row of R342 and engine), whether the
  entropy test passes, and SRAM that fails. -/
  | firmware (bad : List Nat) (fail : Option (Nat × Nat)) (entropy : Bool) (bist : List (Nat × Nat × Nat))
  /-- Step 5: subchannels that fail training (channel, subchannel, step, lane), and for each channel and speed the worst
  window and the time in ms. -/
  | training (fails : List (Nat × Nat × Nat × Nat)) (windows : List (Nat × Nat × Nat × Nat))
  /-- Step 6: keys drawn and DRAM zero-filled. -/
  | keys
  /-- Step 7: channels whose PHY does not train, copies of the key record whose unwrap fails, the first stripe of the save slot
  that does not decode, positions of interrupted stripes that do not decode (PSN, position), home tags that cannot be read
  (district, slot), and the off time each die measures in frames (8 × channel + die; the last of the list for the rest). -/
  | media (phyBad unwrapBad : List Nat) (saveBad : Option Nat) (torn tags : List (Nat × Nat)) (off : List (Nat × Nat))
  /-- Step 8: the slices are enabled. -/
  | enable
deriving DecidableEq, Repr

/-- What one step of a pair join finds (R375); step 3 is FENCE. -/
inductive JoinIn where
  /-- Step 1: the link trains at a rate (1 low, 2 high) and a width, and D in ps. On a joined pair it is a retrain only. -/
  | train (rate width delay : Nat)
  /-- Step 2: whether the SPDM session forms and the peer's chain ends in the own root, the peer's serial number, and whether
  the region tables of the two modules agree (R350). -/
  | spdm (ok : Bool) (serial : Nat) (tables : Bool)
  /-- Step 4: the ticks lie within 10 ns. -/
  | slew
  /-- Step 5: on the lead, the peer's FN; on the follower, the FN the lead named, with how many frames ahead its tick is. -/
  | fnStep (ahead fn : Nat)
  /-- Step 6: the tick at which the follower takes the lead's configuration. -/
  | sync (target : Nat)
  /-- Step 7: the session ID drawn. -/
  | session (id : Nat)
  /-- Step 8: on the follower, the lead's resync decision (0 none, 1 bitmap, 2 full). -/
  | enter (kind : Nat)
  /-- The step that runs fails, or does not end in its time. -/
  | fail
deriving DecidableEq, Repr

end Sys2Proof
end

