-- ==== Sys2Proof/Syntax.lean ====
section
/-!
DEFINITION. The commands of the block: one constructor per row of the table of operations and events, in its order. An
operand names what the command acts on, or carries an outcome of the physical world that decides it (bit errors of a
read, a measured voltage, a verdict on a signature).
-/
namespace Sys2Proof

/-- A command or event of the KM2400. Each is whole and indivisible. -/
inductive Instr where
  /-- R10 REGISTER_WRITE: A write to a register field that has no row of its own takes effect according to the field's
  access type. Master, BAR2 offset, size in bytes, byte enables, value. -/
  | registerWrite (m : Master) (off size : Nat) (be : BitVec 64) (value : BitVec 512)
  /-- R41 SET_ALIAS_WRITE: A write through the set alias ORs the value into each field as one indivisible
  read-modify-write. As REGISTER_WRITE, with the offset of the set alias. -/
  | setAliasWrite (m : Master) (off size : Nat) (be : BitVec 64) (value : BitVec 512)
  /-- R41 CLEAR_ALIAS_WRITE: A write through the clear alias ANDs NOT the value into each field as one indivisible
  read-modify-write. As REGISTER_WRITE, with the offset of the clear alias. -/
  | clearAliasWrite (m : Master) (off size : Nat) (be : BitVec 64) (value : BitVec 512)
  /-- R41 TOGGLE_ALIAS_WRITE: A write through the toggle alias XORs the value into each field as one indivisible
  read-modify-write. As REGISTER_WRITE, with the offset of the toggle alias. -/
  | toggleAliasWrite (m : Master) (off size : Nat) (be : BitVec 64) (value : BitVec 512)
  /-- R50 POSTED_WRITE: A write to an RP field sets XBUSY and is forwarded to its target domain. As REGISTER_WRITE,
  for a write that names an RP field. -/
  | postedWrite (m : Master) (off size : Nat) (be : BitVec 64) (value : BitVec 512)
  /-- R50 POSTED_WRITE_ACCEPT: The target domain accepts a posted write, the local copy takes the value and XBUSY
  clears. The block index (R596) whose posted write is accepted. -/
  | postedWriteAccept (block : Nat)
  /-- R53 POSTED_WRITE_TIMEOUT: A posted write not accepted within 10 µs is discarded, XBUSY clears and the timeout is
  recorded. The block index whose posted write is 10 µs old. -/
  | postedWriteTimeout (block : Nat)
  /-- R45 GROUP_STROBE: A write to TOP_UPDATE strobes update groups, and their PENDING bits become set. The value
  written to TOP_UPDATE. -/
  | groupStrobe (master : Master) (mask : BitVec 32)
  /-- R54 QPUSH: A word is pushed into a queue without an end mark. The word and the size of the access. -/
  | qpush (master : Master) (q : QueueId) (word : BitVec 512) (size : Nat)
  /-- R54 QPUSH_END: A word is pushed into a queue with an end mark. The word and the size of the access. -/
  | qpushEnd (master : Master) (q : QueueId) (word : BitVec 512) (size : Nat)
  /-- R54 QPOP: A read of QPOP removes the head word and updates Q_LAST. The size of the access. -/
  | qpop (master : Master) (q : QueueId) (size : Nat)
  /-- R60 QUEUE_FLUSH: A write of Q_CTRL.FLUSH discards every stored word and sets DISCARD from the producer's last
  word. -/
  | queueFlush (master : Master) (q : QueueId)
  /-- R589 CNT_LOW_READ: A 32-bit read of a counter's low half latches its high half and OVF. Block index and counter
  number. -/
  | cntLowRead (master : Master) (block n : Nat)
  /-- R107 TT_FN_LO_READ: A 32-bit read of TT_FN_LO latches the high 16 bits of FN for TT_FN_HI. -/
  | ttFnLoRead (master : Master)
  /-- R590 COUNTER_WRAP: A block counter carries past 2^48 − 1, keeps the low bits and sets OVF. Block index, counter,
  and the increment that carries it past its end. -/
  | counterWrap (block n inc : Nat)
  /-- R63 FRAME_TICK: The frame tick starts a new frame, FN advances and TT runs the frame tasks. What the blocks
  report of the frame that ends: die temperatures that changed (channel, die, °C; 18 stands for the board sensors and 19 for
  the controller's twelve), VRES in mV, whether the journal records of the tick are written, the maintenance backlog in
  beats, and the engine that owes the most of it (by the rows of R467). -/
  | frameTick (temps : List (Nat × Nat × Int)) (vres : Nat) (journalOk : Bool) (backlog busiest : Nat)
  /-- R82 CROSSING_GRANT: TT grants a crossing a slot and beat position in the guard of slot s−2 when R83 and R253
  hold. Timetable cycle of the frame, in the guard of slot s − 2; what is offered; the beat position. -/
  | crossingGrant (cyc : Nat) (work : XWorkRef) (beat : Nat)
  /-- R82 CROSSING_LATE: When an MCH does not hold its codeword by cycle 60 of slot s−1, TT withdraws the crossing
  from all channels. The crossing and the channels not ready. -/
  | crossingLate (cyc id : Nat) (missing : List Nat)
  /-- R84 CROSSING_LAUNCH: The crossing's codewords transfer in its beat on every active channel and the planes begin
  writing. The crossing, in its beat of slot s. -/
  | crossingLaunch (cyc id : Nat)
  /-- R195 PLANE_WRITE_COMPLETION: A plane reports the pass or verify failure of its write in the guard of slot
  s+9+k(c). A crossing or single-codeword write, the channel, and the cells that did not verify (0: pass). -/
  | planeWriteCompletion (cyc id mch : Nat) (failedCells : Nat)
  /-- R97 WRITE_LATE: A plane write not complete by its guard leaves the crossing uncommitted and returns its landing
  entry to Ready. The crossing or single-codeword write and the channel whose plane did not complete. -/
  | writeLate (cyc id mch : Nat)
  /-- R84 CROSSING_COMMIT: The crossing commits at the start of slot s+10+K and completions waiting on it are sent. -/
  | crossingCommit (cyc id : Nat)
  /-- R170 LANDING_ENTRY_FREE: A Released landing entry becomes Free once media reads of its row are permitted. -/
  | landingEntryFree (cyc slice entry : Nat)
  /-- R251 READ_COMMAND: An MCH commands a reserved media read in its slot and beat. The media read and the beat it
  takes. -/
  | readCommand (cyc id beat : Nat)
  /-- R89 WRITE_SUSPEND: An MCH suspends a plane write for one slot so that a host or reconstruct read can be
  commanded in beat 0. The write and the channel, in the guard of the slot before. -/
  | writeSuspend (cyc id mch : Nat)
  /-- R89 WRITE_RESUME: A suspended plane write resumes at the start of the next slot. -/
  | writeResume (cyc id mch : Nat)
  /-- R71 READ_TRANSFER: A read's codeword transfers in beat b of slot s+1 and passes decode, generation, decryption
  and MAC checks. The read, the channel that transfers, bit errors of the codeword, and whether 14 or more decode to
  a wrong word. -/
  | readTransfer (cyc id : Nat) (mch errs : Nat) (wrong : Bool)
  /-- R97 MISSING_BEAT: A read's data is missing at the end of its transfer beat, and the read is served by
  reconstruction or retried. -/
  | missingBeat (cyc id mch : Nat)
  /-- R206 ALTERNATE_REFERENCE_READ: A codeword that failed step 1 is re-read at the alternate reference in a reserved
  later beat. Reserves the step 2 re-read of a read whose step 1 failed. -/
  | alternateReferenceRead (cyc id : Nat)
  /-- R201 RECONSTRUCT_READ: The other 16 codewords of a stripe are read and XORed to recover a missing or failed
  codeword. Reserves the reconstruct read of a read whose earlier steps failed. -/
  | reconstructRead (cyc id : Nat)
  /-- R210 ALT_WINDOW_END: The 2^24-frame window of alternate-reference counts ends and the counts restart. -/
  | altWindowEnd
  /-- R97 FRAME_OVERRUN: A frame task not done by the next tick completes in the next frame and the overrun is
  recorded. Bitmap of late tasks. -/
  | frameOverrun (late : BitVec 8)
  /-- R102 OSC_SWITCH: On failure of the active reference the PLL holds its frequency and switches to the other
  oscillator. -/
  | oscSwitch (cause : OscCause)
  /-- R103 OSC_DISAGREE: The two oscillators differ by more than 100 ppm while neither counts as failed. -/
  | oscDisagree (ppm : Int)
  /-- R104 OSC_STANDBY_FAIL: The standby oscillator counts as failed and the module reports that it is no longer
  single-fault tolerant. -/
  | oscStandbyFail (cause : OscCause)
  /-- R104 OSC_STANDBY_OK: A failed standby oscillator has counted as sound for 1 s, and the condition ends. -/
  | oscStandbyOk
  /-- R106 TICK_LOST: Both oscillators fail, the PLL holds over, the module flushes and halts. -/
  | tickLost (causeMain causeBackup : OscCause)
  /-- R105 RETURN: Host software requests the return to XO_MAIN through TT_OSC_CTRL.RETURN. -/
  | returnMain
  /-- R107 FORCE_BACKUP: Host software forces a switch to XO_BACKUP at the next tick. -/
  | forceBackup
  /-- R140 TRANSLATION_PROBE: A write of XL_PROBE_DPA translates the DPA with the active state and reports the result.
  The DPA written. -/
  | translationProbe (dpa : Nat)
  /-- R440 HDM_DECODER_COMMIT: Host software commits an HDM decoder, which the head checks against R113 and the commit
  order. Decoder; base, size and skip in units of 256 MiB; granularity in bytes. -/
  | hdmDecoderCommit (head : Fin 2) (n base size ways gran skip : Nat) (lock : Bool)
  /-- R123 WRITE_COUNTER_WRAP: A district write counter passes from 63 to 0 and its PENDING count rises. -/
  | writeCounterWrap (district : Nat)
  /-- R124 GAP_MOVE: The gap walker reads the page next to the gap and offers its copy as a maintenance crossing. -/
  | gapMove (cyc district : Nat)
  /-- R137 DISTRICT_CHECKPOINT: At every FN that is a multiple of 244,140, XL writes a district checkpoint. Whether
  the store write read back right. -/
  | districtCheckpoint (ok : Bool)
  /-- R134 STRIPE_RETIREMENT: A stripe is copied to a spare and its stripe entry takes effect at the tick after the
  copy commits. -/
  | stripeRetirement (cyc : Nat)
  /-- R134 BERTH_RETIREMENT: A berth is retired stripe by stripe behind a boundary, and then added to a berth entry. -/
  | berthRetirement (cyc : Nat)
  /-- R151 MEMRD: A CXL.mem read is looked up in its slice and served as a hit, a landing hit, or a block or page
  miss. Timetable cycle, head, the host's tag and host physical address. -/
  | memrd (cyc : Nat) (head : Fin 2) (tag hpa : Nat)
  /-- R156 MEMWR: A CXL.mem whole-sector write is accepted under its region's write policy and completed at its R28
  point. As MEMRD, with the data and its poison indication. -/
  | memwr (cyc : Nat) (head : Fin 2) (tag hpa : Nat) (data : Sector) (poison : Bool)
  /-- R158 BYTE_ENABLE_WRITE: A partial-sector write reads its block when needed, merges its bytes, and is accepted.
  As MEMWR, with the byte enables. -/
  | byteEnableWrite (cyc : Nat) (head : Fin 2) (tag hpa : Nat) (data : Sector) (be : BitVec 64) (poison : Bool)
  /-- R240 COMMIT_PAGE_READ: A read of the commit page is served from the head's FN copies in one cycle. Byte offset
  within the commit page. -/
  | commitPageRead (cyc : Nat) (head : Fin 2) (tag off : Nat)
  /-- R250 REQUEST_ADMIT: A waiting request is admitted once every resource it needs is available, and those resources
  are reserved. The request that waits. -/
  | requestAdmit (cyc id : Nat)
  /-- R154 FILL: A block read from media reaches the slice and fills only the sectors that are not valid. The media
  read. -/
  | fillBlock (cyc id : Nat)
  /-- R26 VICTIM_MOVE_DONE: A dirty victim's move into its landing entry ends, and the fill into the way may go ahead.
  The landing entry the victim moved to. -/
  | victimMoveDone (cyc slice entry : Nat)
  /-- R165 BACKGROUND_DESTAGE: The background destage visits a set and copies its dirty pages into landing entries. The slice, and
  the tag entries of the set that fail their decode in a removed slice's drain: way, SRAM address, whether the metadata line fails. -/
  | backgroundDestage (cyc slice : Nat) (bad : List (Nat × Nat × Bool))
  /-- R181 LOCK: The LOCK range operation locks and fills each page of the range. First LPN and number of pages. -/
  | lockRange (start count : Nat)
  /-- R181 UNLOCK: The UNLOCK range operation clears the lock of each resident page of the range. First LPN and number
  of pages. -/
  | unlockRange (start count : Nat)
  /-- R181 CLEAN: The CLEAN range operation copies each dirty page of the range into a landing entry. First LPN and
  number of pages. -/
  | cleanRange (start count : Nat)
  /-- R181 INVALIDATE: The INVALIDATE range operation writes back and drops each page of the range. First LPN and
  number of pages. -/
  | invalidateRange (start count : Nat)
  /-- R185 RANGE_DONE: A range operation has reached every page and every landing entry of its range has committed, so
  BUSY falls. -/
  | rangeDone
  /-- R429 DRAM_CHANNEL_FAILED: A DRAM channel is declared failed, and the slices poison or take from the peer the
  pages on it and then drain. The cause by R429's conditions, 1 to 3; subchannel and device of cause 2. -/
  | dramChannelFailed (ch cause sub dev : Nat)
  /-- R189 CACHE_RECONFIG: At the first tick after a drain ends, the slices drop every page and put the 3-channel
  geometry in force. -/
  | cacheReconfig
  /-- R190 SLICE_REMOVED: A slice whose fault level reaches 3 is removed, and its serving slice serves and drains its
  sets. -/
  | sliceRemoved (slice : Nat)
  /-- R190 SLICE_DRAINED: The drain of a removed slice ends. -/
  | sliceDrained (slice : Nat)
  /-- R267 DRAM_DEVICE_ERASED: A DRAM device is identified as failed, its subchannel enters erasure mode and the
  channel drains. The cause by R267's conditions, 1 or 2. -/
  | dramDeviceErased (ch sub dev cause : Nat)
  /-- R214 DIE_FAILED: An MCH declares a die failed, and a spare die is substituted or the die number runs degraded.
  The cause numbers R214's conditions; 2 is the die's own report. -/
  | dieFailed (mch die cause : Nat)
  /-- R214 CHANNEL_FAILED: An MCH declares its whole channel failed, failing all 8 dies. 0 PHY training lost, 1 fault
  level 3. -/
  | channelFailed (mch cause : Nat)
  /-- R216 REBUILD_START: The rebuild of a position onto a spare die begins. -/
  | rebuildStart (die : Nat)
  /-- R216 REBUILD_STRIPE: The rebuild reconstructs one stripe's codeword and writes it to the spare die, advancing
  the boundary. The beat of an owed write. -/
  | rebuildStripe (cyc die beat : Nat)
  /-- R216 REBUILD_DONE: The rebuild of a die number ends and full protection returns. -/
  | rebuildDone (die : Nat)
  /-- R209 CORRECTIVE_REWRITE: A codeword is rewritten in place in the next free maintenance beat after a heavy
  correction or a step 2 or 3 read. The rewrite owed and the beat it takes. -/
  | correctiveRewrite (cyc id beat : Nat)
  /-- R211 REFRESH_OVERDUE: A row of a band exceeds its refresh interval. -/
  | refreshOverdue (mch band : Nat)
  /-- R213 SENTINEL_REWRITE: MNT rewrites the sentinel stripes every 2^24 frames. -/
  | sentinelRewrite
  /-- R563 MCH_TABLE_COPY: MNT writes the MCH tables to the internal area every 2^24 frames. -/
  | mchTableCopy
  /-- R272 DATAPATH_RETRIED: A pipeline stage that fails its parity or residue check discards the transfer and the
  source sends it again. Block index, stage and kind of check; whether the retry fails too, and then the request
  kind by R273's rows and its number. -/
  | datapathRetried (block stage check : Nat) (again : Bool) (kind id : Nat)
  /-- R409 DRAM_READ_RETURN: A DRAM burst returns to the DRC's port, where it is decoded and corrected or retried.
  Channel, subchannel, the request whose read is held, symbols in error outside an erased device, and the device
  they fall on. -/
  | dramReadReturn (cyc ch sub id errs dev : Nat)
  /-- R408 DRAM_WRITE_ISSUE: The DRC issues a queued write to DRAM in priority order. The channel-local address of a
  queued write. -/
  | dramWriteIssue (cyc ch sub addr : Nat)
  /-- R271 MAC_WINDOW_END: The 2^20-frame window of MAC-only failure counts ends. -/
  | macWindowEnd
  /-- R281 PEER_REPAIRED: A block fetched from the peer replaces an uncorrectable block of a mirrored region. The
  block as the peer sends it, and whether the peer could read it. -/
  | peerRepaired (cyc lpn block : Nat) (data : BitVec 2048) (poison : BitVec 4) (readable : Bool)
  /-- R287 SRAM_SWEEP_READ: The sweeper reads an SRAM word and decodes its SECDED code. Block index, SRAM and word
  address, wrong bits; the row of R265's table with what places the word; whether its second copy fails too; whether
  the pass ends. -/
  | sramSweepRead (block sram addr errs site a b c : Nat) (both last : Bool)
  /-- R287 DRAM_SWEEP_READ: The sweeper reads a DRAM burst. Channel-local address, bad symbols outside an erased
  device at the read and at the second read, their device; whether the pass ends. -/
  | dramSweepRead (cyc ch addr errs again dev : Nat) (last : Bool)
  /-- R288 SWEEP_MEDIA_READ: The physical pass reads a codeword, or rewrites it in place when its band is due. -/
  | sweepMediaRead (cyc mch : Nat)
  /-- R289 SWEEP_LOGICAL_READ: A logical pass reads all 17 codewords of a stripe and checks its parity. Region, or 64
  for a Scan Media. -/
  | sweepLogicalRead (cyc region : Nat)
  /-- R295 MGT_CHECKPOINT: A management pair saves its checkpoint at least every 100 µs. 0 pair A, 1 pair B. -/
  | mgtCheckpoint (pair : Nat)
  /-- R295 MGT_LOCKSTEP: A lockstep mismatch stops both cores, and they resume from the last checkpoint. -/
  | mgtLockstep (pair : Nat)
  /-- R284 MGT_TRAP: A management pair traps on uncorrectable data and restarts from its boot ROM. -/
  | mgtTrap (pair cause addr : Nat)
  /-- R284 ROM_RESTART_DONE: A pair restarted from ROM resumes its services. -/
  | romRestartDone (pair : Nat)
  /-- R311 KEY_REKEY: The Crypto Officer command queues a rekey of a key slot. The path, the SPDM session that carries
  it, and the input payload. -/
  | keyRekey (path : Master) (session : Nat) (payload : List (BitVec 8))
  /-- R311 KEY_FORMAT: The Crypto Officer command queues a format of a key slot. As KEY_REKEY. -/
  | keyFormat (path : Master) (session : Nat) (payload : List (BitVec 8))
  /-- R312 KEYOP_START: The repaver takes a key operation from its queue, draws a key set, and for a format holds and
  drops the slot's pages. -/
  | keyopStart
  /-- R314 REPAVER_PASS_START: The repaver's pass starts at the tick of F0 + 2. -/
  | repaverPassStart (slot : Nat)
  /-- R314 REPAVER_PAGE: The repaver reads a page's GEN and rewrites or blanks the page as needed. -/
  | repaverPage (cyc : Nat)
  /-- R316 REKEY_DONE: A rekey pass ends, and the previous generation's keys are zeroized. -/
  | rekeyDone (slot : Nat)
  /-- R316 FORMAT_DONE: A format pass ends, and the previous generation's keys are zeroized. -/
  | formatDone (slot : Nat)
  /-- R317 REPAVER_BOUNDARY_SAVE: SEC writes the repaver boundary into the key record every 2^20 frames. -/
  | repaverBoundarySave
  /-- R301 SEC_SERVICE_REQUEST: Management pair A pushes a request to SEC's request queue, and SEC answers in its
  response queue. The request. -/
  | secServiceRequest (word : BitVec 512)
  /-- R324 IDE_FAIL: A CXL.cachemem IDE check fails and the stream enters the insecure state. Head, key set and kind
  of check. -/
  | ideFail (head set check : Nat)
  /-- R323 KEY_PROG: An IDE_KM KEY_PROG message programs an IDE key over the key path. Stream 0 CXL.cachemem, 1 link,
  2 selective; key set 0 or 1; direction 0 or 1. -/
  | keyProg (session head stream set dir : Nat)
  /-- R323 K_SET_GO: An IDE_KM K_SET_GO message starts a key set. As KEY_PROG. -/
  | kSetGo (session head stream set dir : Nat)
  /-- R323 K_SET_STOP: An IDE_KM K_SET_STOP message stops a key set. As KEY_PROG. -/
  | kSetStop (session head stream set dir : Nat)
  /-- R325 FERRY_KEY_UPDATE: The lead sends KEY_UPDATE after every 2^36 flits in either direction. -/
  | ferryKeyUpdate
  /-- R342 ENGINE_KAT: Every 2^24 frames each crypto engine runs its known-answer test between jobs. 0–7 media
  engines, 8 and 9 the IDE engines of HP0 and HP1. -/
  | engineKat (engine : Nat) (pass : Bool)
  /-- R343 ENTROPY_TEST_FAIL: A continuous entropy test fails and the DRBG stops. -/
  | entropyTestFail
  /-- R346 DEBUG_UNLOCK: A signed nonce over JTAG unlocks debug to the requested level. Level, index of the debug key
  hash, and whether the signature verifies. -/
  | debugUnlock (level key : Nat) (valid : Bool)
  /-- R328 GET_VERSION: The SPDM responder answers GET_VERSION. Path: 0 or 1 the DOE of HP0 or HP1, 2 MCTP, 3 the
  ferry link. -/
  | getVersion (path : Nat)
  /-- R328 GET_CAPABILITIES: The SPDM responder answers GET_CAPABILITIES. Path. -/
  | getCapabilities (path : Nat)
  /-- R328 NEGOTIATE_ALGORITHMS: The SPDM responder answers NEGOTIATE_ALGORITHMS. Path, and whether the requester
  offers the algorithms of R328. -/
  | negotiateAlgorithms (path : Nat) (offered : Bool)
  /-- R328 GET_DIGESTS: The SPDM responder returns its certificate digests. Path. -/
  | getDigests (path : Nat)
  /-- R328 GET_CERTIFICATE: The SPDM responder returns a certificate chain. Path, slot, offset, length. -/
  | getCertificate (path slot off len : Nat)
  /-- R328 CHALLENGE: The SPDM responder answers a CHALLENGE with a signature. Path, slot. -/
  | spdmChallenge (path slot : Nat)
  /-- R329 GET_MEASUREMENTS: The SPDM responder returns the measurement blocks. Path, index (0 the number, 255 all),
  with a signature. -/
  | getMeasurements (path index : Nat) (sign : Bool)
  /-- R328 KEY_EXCHANGE: The SPDM responder answers KEY_EXCHANGE with ECDHE. Path, slot, mutual authentication. -/
  | keyExchange (path slot : Nat) (mutualAuth : Bool)
  /-- R328 FINISH: The SPDM responder completes a session with FINISH. Path; what verifies: the data, the requester's
  chain, its root. -/
  | spdmFinish (path : Nat) (mac chainOk rootOk : Bool)
  /-- R328 SPDM_HEARTBEAT: The SPDM responder answers a HEARTBEAT. Path, session. -/
  | spdmHeartbeat (path session : Nat)
  /-- R328 KEY_UPDATE: The SPDM responder updates the session keys. Path, session. -/
  | keyUpdate (path session : Nat)
  /-- R328 END_SESSION: The SPDM responder ends a session and discards its secrets. Path, session. -/
  | endSession (path session : Nat)
  /-- R328 GET_CSR: The SPDM responder returns a certificate signing request. Path, session, pairwise consistency
  test. -/
  | getCsr (path session : Nat) (pairwise : Bool)
  /-- R328 SET_CERTIFICATE: The Crypto Officer writes the customer certificate chain into slot 1. Path, session, slot,
  chain. -/
  | setCertificate (path session slot : Nat) (chain : List (BitVec 8))
  /-- R455 VENDOR_DEFINED_REQUEST: An SPDM vendor-defined request carries a vendor command. Path, session (0 for
  none), opcode, payload. -/
  | vendorDefinedRequest (path session opcode : Nat) (payload : List (BitVec 8))
  /-- R330 GET_SECURITY_STATE: The mailbox returns the passphrase state and its limits. Path. -/
  | getSecurityState (m : Master)
  /-- R331 SET_PASSPHRASE: A new passphrase is set with a new salt and wrap. Path, master, current and new passphrase. -/
  | setPassphrase (m : Master) (master : Bool) (current new : BitVec 256)
  /-- R330 DISABLE_PASSPHRASE: The user passphrase is removed. Path, master, passphrase. -/
  | disablePassphrase (m : Master) (master : Bool) (current : BitVec 256)
  /-- R333 FREEZE_SECURITY_STATE: Every command that changes the passphrase state is refused until the next cold
  reset. Path. -/
  | freezeSecurityState (m : Master)
  /-- R335 PASSPHRASE_SECURE_ERASE: An erase under the master passphrase removes the user passphrase and formats every
  slot. Path, master, passphrase. -/
  | passphraseSecureErase (m : Master) (master : Bool) (current : BitVec 256)
  /-- R335 SANITIZE: Every key set is zeroized and all user memory is written blank. Path. -/
  | sanitize (m : Master)
  /-- R335 SECURE_ERASE: Every slot key set is zeroized and every slot is formatted. Path. -/
  | secureErase (m : Master)
  /-- R335 ERASE_DONE: An erase service reaches its completion point. None. -/
  | eraseDone
  /-- R246 GPF_PHASE1: A Global Persistent Flush Phase 1 request is acknowledged at once. Head. -/
  | gpfPhase1 (head : Fin 2)
  /-- R246 GPF_PHASE2: The head completes the writes it received and waits until they are durable. Cycle, head. -/
  | gpfPhase2 (cyc : Nat) (head : Fin 2)
  /-- R246 GPF_DONE: The head responds to Phase 2 once the writes are durable. Cycle, head, writes drained. -/
  | gpfDone (cyc : Nat) (head : Fin 2) (drained : Nat)
  /-- R356 FLIT_RECEIVE: A ferry flit is checked for CRC, tag and sequence number and is accepted or answered with
  NAK. CRC and tag verdicts, SEQ, the SEQ of the last flit this module sent, ACK_SEQ, NAK, credits returned, message
  bytes. -/
  | flitReceive (cyc : Nat) (crcOk tagOk : Bool) (seq sent : Nat) (ack : Option Nat) (nak : Bool) (wcred pcred bytes : Nat)
  /-- R357 LINK_RETRAIN: The ferry link retrains after 16 resends of one flit or a full replay buffer for a frame.
  Cycle; 0 replays, 1 replay buffer full. -/
  | linkRetrain (cyc cause : Nat)
  /-- R354 LINK_WIDTH: Failed ferry lanes cause a retrain at the widest working width. New width in lanes. -/
  | linkWidth (width : Nat)
  /-- R375 FERRY_LINK_UP: The ferry link trains between pair members and the join procedure runs. What the step of the
  join that runs finds. -/
  | ferryLinkUp (input : JoinIn)
  /-- R375 FERRY_LINK_DOWN: The ferry link goes down. The link is down, or does not train. -/
  | ferryLinkDown
  /-- R371 MIRROR_WRITE: The follower hands a received mirrored write to its slice in index order and applies it. LPN,
  first sector, the sectors and their poison bits. -/
  | mirrorWrite (cyc lpn sector : Nat) (data : List Sector) (poison : BitVec 4)
  /-- R373 MIRROR_ACK: The lead receives MIRROR_ACK and completes the on-mirror writes that it covers. Write index. -/
  | mirrorAck (cyc widx : Nat)
  /-- R362 BELL: The follower receives a BELL and steers its tick to the lead's. Low rate, FN, D in ps, and the offset
  the follower measures in ns. -/
  | bellMsg (lowRate : Bool) (fn delay : Nat) (offset : Int)
  /-- R244 STATE: A received STATE message updates the peer's durability and state, and the follower's
  PAIR_DURABLE_FN. Power state, MEDIA_DURABLE_FN, PAIR_DURABLE_FN and resync pages left of the peer. -/
  | stateMsg (cyc power mediaFn pairFn left : Nat)
  /-- R361 STATE_SEND: Each module sends STATE at its scheduled slot of every frame. Cycle. -/
  | stateSend (cyc : Nat)
  /-- R361 HEARTBEAT: A received HEARTBEAT restarts the silence timer and files any relayed record. Token, and a
  relayed record of 32 B. -/
  | heartbeatMsg (cyc token : Nat) (relayed : Option (BitVec 256))
  /-- R361 HEARTBEAT_SEND: Each module sends HEARTBEAT at slot 8 of every frame, with one unrelayed record if any.
  Cycle. -/
  | heartbeatSend (cyc : Nat)
  /-- R384 ROLE_HANDOVER: The follower receives HANDOVER, writes its role record as lead, and answers ACCEPT. Token. -/
  | roleHandover (token : Nat)
  /-- R384 ROLE_ACCEPT: The old lead receives ACCEPT and becomes the follower at the next tick. Token. -/
  | roleAccept (token : Nat)
  /-- R381 ROLE_RESIGN: The follower receives RESIGN and promotes itself. Token. -/
  | roleResign (token : Nat)
  /-- R382 ROLE_DEPART: The lead receives DEPART and splits. Token. -/
  | roleDepart (token : Nat)
  /-- R385 ROLE_DEMOTED: A ROLE DEMOTED message reports the peer's demotion and its token. Token. -/
  | roleDemoted (token : Nat)
  /-- R376 FENCE: A received FENCE message decides the roles at a join from claims and tokens. The fields of R360. -/
  | fenceMsg (claim : Nat) (clean full bitmap suspect : Bool) (token session widx names fn : Nat)
  /-- R379 SILENCE_TIMEOUT: The silence timer reaches 65,280 ns and the module declares its peer lost. Cycle. -/
  | silenceTimeout (cyc : Nat)
  /-- R384 HANDOVER_TIMEOUT: The old lead has no ACCEPT 4 frames after HANDOVER and becomes STRANDED. Cycle. -/
  | handoverTimeout (cyc : Nat)
  /-- R380 RESIGN_DRAIN_TIMEOUT: A resigning lead's drain times out after 50 µs and it saves a suspect list. Cycle. -/
  | resignDrainTimeout (cyc : Nat)
  /-- R393 RESYNC_PAGE_REQUEST: A module receives a request for a page and answers with its data once the named index
  is applied. LPN, write index. -/
  | resyncPageRequest (cyc lpn widx : Nat)
  /-- R390 RESYNC_PAGE_DATA: The follower writes a received page whole with its poison bits. LPN, its 64 sectors and
  their poison bits. -/
  | resyncPageData (cyc lpn : Nat) (data : List Sector) (poison : BitVec 64)
  /-- R390 RESYNC_PAGE_ZERO: The follower writes a received zero page whole. LPN. -/
  | resyncPageZero (cyc lpn : Nat)
  /-- R389 RESYNC_PAGE_BITMAP: A received bitmap page is merged into the bitmap or taken as the merged bitmap. Bitmap
  page index, and the numbers of the bits set in it. -/
  | resyncPageBitmap (cyc index : Nat) (pages : List Nat)
  /-- R392 RESYNC_PAGE_DONE: The done message is exchanged and both modules enter JOINED at the next tick. Cycle. -/
  | resyncPageDone (cyc : Nat)
  /-- R390 RESYNC_PAGE_SEND: The lead takes one page atomically, clears its bit and queues it for the follower. -/
  | resyncPageSend (cyc : Nat)
  /-- R394 CONFIG_AT_FN_PROPOSE: The follower checks a proposed mirrored change and answers ack or refuse. Change,
  change ID, target FN, region or slot, REGn_ATTR value. -/
  | configAtFnPropose (change id target subject value : Nat)
  /-- R394 CONFIG_AT_FN_ACK: The lead receives the ack and both modules strobe in frame target − 1. Change ID. -/
  | configAtFnAck (id : Nat)
  /-- R394 CONFIG_AT_FN_REFUSE: The lead receives a refusal of a proposed change. Change ID, and whether the bell is
  out of limit. -/
  | configAtFnRefuse (id : Nat) (bell : Bool)
  /-- R394 CONFIG_AT_FN_CANCEL: The follower receives cancel and does not apply the change. Change ID. -/
  | configAtFnCancel (id : Nat)
  /-- R378 CONFIG_AT_FN_SYNC: The follower takes the lead's region attributes or format at the named tick. Change,
  tick, region or slot, REGn_ATTR value or FN of the last format. -/
  | configAtFnSync (change target subject value : Nat)
  /-- R394 AT_FN_CANCELLED: No ack has arrived by the tick of target − 2, so the lead cancels the change. The tick of
  target − 2 has passed. -/
  | atFnCancelled
  /-- R396 BARGE_AT_FN_PROPOSE: The follower checks a proposed mirrored barge descriptor and answers. Channel, change
  ID, launch FN, write index, descriptor. -/
  | bargeAtFnPropose (ch id launch widx : Nat) (desc : BitVec 512)
  /-- R396 BARGE_AT_FN_ACK: The lead receives the ack of a barge proposal. Channel, change ID. -/
  | bargeAtFnAck (ch id : Nat)
  /-- R396 BARGE_AT_FN_REFUSE: The lead receives a refusal of a barge proposal. Channel, change ID, and whether the
  bell is out of limit. -/
  | bargeAtFnRefuse (ch id : Nat) (bell : Bool)
  /-- R396 BARGE_AT_FN_CANCEL: The follower receives cancel of a barge proposal. Channel, change ID. -/
  | bargeAtFnCancel (ch id : Nat)
  /-- R396 BARGE_AT_FN_DONE: The lead learns that the follower completed the descriptor. Channel, change ID. -/
  | bargeAtFnDone (ch id : Nat)
  /-- R396 BARGE_AT_FN_HALTED: The lead learns that the descriptor halted on the follower and marks the destination
  pages for resync. Channel, change ID. -/
  | bargeAtFnHalted (ch id : Nat)
  /-- R387 PAIR_STATUS: The command returns the pair state, role, tokens, session ID and resync pages left. Path and
  payload. -/
  | pairStatus (m : Master) (payload : List (BitVec 8))
  /-- R387 PAIR_PROMOTE: The command makes the module lead with a higher token. Path and payload. -/
  | pairPromote (m : Master) (payload : List (BitVec 8))
  /-- R387 PAIR_DEMOTE: The command stores the token and makes the lead STRANDED. Path and payload. -/
  | pairDemote (m : Master) (payload : List (BitVec 8))
  /-- R384 PAIR_HANDOVER: The command hands the lead to the follower without a split. Path and payload. -/
  | pairHandover (m : Master) (payload : List (BitVec 8))
  /-- R380 PAIR_DETACH: The command makes the module leave the pair in an orderly way and stop joining. Path and
  payload. -/
  | pairDetach (m : Master) (payload : List (BitVec 8))
  /-- R387 PAIR_ATTACH: The command allows joining again. Path and payload. -/
  | pairAttach (m : Master) (payload : List (BitVec 8))
  /-- R454 PAIR_RESYNC_RATE: The command sets the resync rate cap. Path and payload. -/
  | pairResyncRate (m : Master) (payload : List (BitVec 8))
  /-- R412 DRAM_REFRESH_DUE: A subchannel's refresh interval falls due and is issued or postponed. The length in ns of
  the batch it may force. -/
  | dramRefreshDue (cyc ch sub dur : Nat)
  /-- R413 MR4_READ: Every 32 frames the DRC reads MR4 and decides whether each subchannel is hot. Whether a device of
  each subchannel reports 2× or more, and the length in ns of the batch it may force. -/
  | mr4Read (ch : Nat) (hot0 hot1 : Bool) (dur : Nat)
  /-- R418 ACT_MITIGATION: A row's activation count reaches the threshold and its neighbors are refreshed. -/
  | actMitigation (cyc ch sub bank row : Nat)
  /-- R419 RFM: A bank's rolling activation count reaches the device threshold and RFM is issued. Whether the device
  reports the need, and its initial management threshold. -/
  | rfm (cyc ch sub bank : Nat) (needs : Bool) (threshold : Nat)
  /-- R417 ACT_TABLE_CLEAR: Every 32 ms, staggered per bank, the DRC clears a bank's activation table. -/
  | actTableClear (ch sub bank : Nat)
  /-- R411 PAGE_IDLE_EXPIRY: A bank's idle timer expires and the DRC precharges it. -/
  | pageIdleExpiry (cyc ch sub bank : Nat)
  /-- R420 SELF_REFRESH_ENTRY: An idle subchannel enters self-refresh after SR_IDLE. -/
  | selfRefreshEntry (cyc ch sub : Nat)
  /-- R421 SELF_REFRESH_EXIT: A request wakes a subchannel from self-refresh. -/
  | selfRefreshExit (cyc ch sub : Nat)
  /-- R426 DRIFT_CHECK: Every 256 frames the DRC reads the DQS oscillator and follows the drift. Drift since training
  of each subchannel in 1/64 UI. -/
  | driftCheck (ch : Nat) (drift0 drift1 : Int)
  /-- R427 DRAM_RETRAIN: A DRAM channel is taken out of the cache, retrained and refilled on demand. Whether training
  passed; where it failed; smallest DQ window in 1/64 UI and duration. -/
  | dramRetrain (ch : Nat) (ok : Bool) (sub stage lane window ms : Nat)
  /-- R477 RETRAIN_RETRY: Every 2^16 frames MNT tries a refused retraining again. -/
  | retrainRetry (ch : Nat)
  /-- R480 ACT_RESUMED: A waiting activity begins once its blocking activity ends. The activity, numbered as R488
  numbers them. -/
  | actResumed (activity : Nat)
  /-- R422 FREQUENCY_CHANGE: The DRAM speed changes one channel at a time after a class change to or from 40 W. The
  channel and its time out of service. -/
  | frequencyChange (ch us : Nat)
  /-- R433 TRAIN_RUN: DRC_TRAIN_CTRL.START starts a training pattern run. -/
  | trainRun (ch : Nat)
  /-- R433 TRAIN_RUN_DONE: A training run ends, BUSY clears and the error counters hold the result. Errors counted, by
  40 × subchannel + DQ. -/
  | trainRunDone (ch : Nat) (errs : List (Nat × Nat))
  /-- R441 LANE_FAILED: A host lane exceeds its FEC threshold or loses alignment and counts as failed. Head, connector
  lane, 0 too many corrected symbols or 1 alignment lost, symbols corrected in the frame. -/
  | laneFailed (head : Fin 2) (lane cause symbols : Nat)
  /-- R442 WIDTH_CHANGED: The head's link reaches its reduced width by L0p or recovery. New width, by L0p or recovery,
  time in µs. -/
  | widthChanged (head : Fin 2) (width : Nat) (l0p : Bool) (us : Nat)
  /-- R558 LINK_UP: A head's link trains and carries traffic. Rate, width and flit mode as HP_LINK codes them. -/
  | linkUp (head : Fin 2) (rate width flit : Nat)
  /-- R466 LINK_DOWN: A head's link goes down. Cause. -/
  | linkDown (head : Fin 2) (cause : Nat)
  /-- R444 MOOR_ENTERED: A head has drained and changed its link to 2.5 GT/s x1. Entry time in µs. -/
  | moorEntered (head : Fin 2) (us : Nat)
  /-- R445 MOOR_WAKE: A CXL.mem request at the low rate holds in ingress, requests a wake and retrains the link. Time
  of the first request in µs. -/
  | moorWake (head : Fin 2) (us : Nat)
  /-- R463 DOE_REQUEST: A DOE data object is taken and answered within 100 ms. Protocol: 0 Discovery, 1 CMA/SPDM, 2
  secured, 3 CDAT; index or entry handle. -/
  | doeRequest (head : Fin 2) (proto index : Nat)
  /-- R463 DOE_ABORT: A DOE abort cancels the object in progress. Head. -/
  | doeAbort (head : Fin 2)
  /-- R464 MCTP_MESSAGE: An MCTP message on SMBus is taken and answered as from HP0's mailbox. 0 control, 1 CCI, 2
  SPDM; a packet or sequence error. -/
  | mctpMessage (kind : Nat) (fault : Option Nat)
  /-- R460 BG_CMD_DONE: A background command completes and vector 0 is raised. Whether the signature of a transferred
  image verifies. -/
  | bgCmdDone (ok : Bool)
  /-- R580 RECORD_TAKE: EVQ takes a record from a source hold and delivers it to every consumer. None. -/
  | recordTake
  /-- R517 EVENT_RING_WRITE: EVQ writes a staged record into the next parameter-store ring slot. Whether the write
  reads back right. -/
  | eventRingWrite (ok : Bool)
  /-- R592 CENSUS_WINDOW_CLOSE: A census window closes at its tick and every counter and beat count is latched. None. -/
  | censusWindowClose
  /-- R592 CENSUS_PUBLISH: The gathered bank is published at the next tick, or later with LATE set. None. -/
  | censusPublish
  /-- R476 RECALIBRATE: The command recalibrates the read reference curves of the named dies. The path and the input
  payload. -/
  | recalibrate (path : Master) (payload : List (BitVec 8))
  /-- R476 RECAL_DONE: Recalibration ends and the calibration set is written. The offset found for each die (8 ×
  channel + die) and age bucket, and whether the store write read back right. -/
  | recalDone (offs : List (Nat × Nat × Int)) (ok : Bool)
  /-- R546 CAPACITOR_HEALTH_TEST: The bank test loads the bank and measures ESR and capacitance when due, hourly after
  a failure, or after a monitor fault. -/
  | capacitorHealthTest
  /-- R546 BANK_TEST: The health test ends with a result. C_m in mF, ESR in mΩ, and whether the fall had not ended
  after 2.0 s. -/
  | bankTest (cm esr : Nat) (timeout : Bool)
  /-- R547 BANK_MONITOR: The monitor reports a cell or voltage fault. Cell voltages and VRES in mV, and whether VRES
  fell by more than 0.2 V within 1 s. -/
  | bankMonitor (cells : List Nat) (vres : Nat) (fell : Bool)
  /-- R472 MOOR_REFRESH_WAKE: While Moored, bands due within 24 h cause a wake to rewrite them. -/
  | moorRefreshWake
  /-- R485 BARGE_DOORBELL: A write of TAIL, through the register or the command, releases descriptors to a barge
  channel. The master and the four bytes of C050h's input payload; a bus write gives channel and TAIL in the same
  places. -/
  | bargeDoorbell (master : Master) (payload : List (BitVec 8))
  /-- R485 DESCRIPTOR_START: A barge channel checks and starts the descriptor at its queue head. -/
  | descriptorStart (ch : Nat)
  /-- R482 COPY: The barge copies the source through staging to the destination. Up to this many sectors of the phase
  in progress; the staged sectors that are uncorrectable. -/
  | bargeCopy (cyc ch sectors : Nat) (lost : List Nat)
  /-- R482 FILL_PATTERN: The barge writes the pattern repeatedly over the destination. Up to this many sectors. -/
  | bargeFill (cyc ch sectors : Nat)
  /-- R482 ZERO: The barge writes zeros over the destination. Up to this many sectors. -/
  | bargeZero (cyc ch sectors : Nat)
  /-- R482 CRC: The barge computes CRC-64 over the source. Up to this many sectors. -/
  | bargeCrc (cyc ch sectors : Nat)
  /-- R486 BARGE_COMPLETE: A descriptor's writes have all reached their R28 point and its completion record is pushed. -/
  | bargeComplete (ch : Nat)
  /-- R486 RESUME: BRG_CHn_CTRL.RESUME takes a halted channel out of its halt. -/
  | bargeResume (ch : Nat)
  /-- R508 IMAGE_WINDOW_OPEN: PST_IMG_CTRL.OPEN opens the image window on the copy not in use. -/
  | imageWindowOpen
  /-- R509 IMAGE_CHECK: PST_IMG_CTRL.CHECK closes the window and starts checking the target copy. -/
  | imageCheck
  /-- R509 IMAGE_CHECK_DONE: The image check ends, RESULT is set and BUSY clears. Whether the signature verifies. -/
  | imageCheckDone (sig : Bool)
  /-- R514 CAL_WINDOW_OPEN: PST_CAL_CTRL.OPEN opens the calibration window. -/
  | calWindowOpen
  /-- R514 CAL_WINDOW_CLOSE: PST_CAL_CTRL.CLOSE closes the window and checks the calibration set. -/
  | calWindowClose
  /-- R496 STORE_WINDOW_WRITE: A write through the store window is accepted into an open window or refused. Byte
  offset within the window. -/
  | storeWindowWrite (master : Master) (off size : Nat) (be : BitVec 64) (value : BitVec 512)
  /-- R528 POWER_UP: The rails are sequenced once VDD_AUX is up, 12V_MAIN is qualified and no Off request stands. The
  rail that missed its time and its voltage in mV, if one did. -/
  | powerUp (miss : Option (Nat × Nat))
  /-- R531 RAIL_FAULT: A rail reaches fault level in service and takes its outcome. Rail index and voltage in mV. -/
  | railFault (rail mv : Nat)
  /-- R528 POWER_UP_RETRY: 1 s after a failed power-up, PWR tries again or enters HALTED after three failures. As
  POWER_UP. -/
  | powerUpRetry (miss : Option (Nat × Nat))
  /-- R529 POWER_DOWN: The rails are released in reverse order. -/
  | powerDown
  /-- R531 RAIL_WARN: A rail reaches warning level. Rail index and voltage in mV. -/
  | railWarn (rail mv : Nat)
  /-- R548 MAIN_POWER_LOSS: Loss of 12V_MAIN starts the hold-up flush, which runs to power-down. Voltage in mV. -/
  | mainPowerLoss (mv : Nat)
  /-- R549 FLUSH_ABORT: VRES falls to v_floor, the flush ends with COMPLETE = 0 and every rail is released. VRES in
  mV. -/
  | flushAbort (vres : Nat)
  /-- R534 IDLE_ENTRY: No CXL.mem request has arrived for ENTRY_US and the module enters IDLE. -/
  | idleEntry
  /-- R535 PWR_REQ_MOORED: TOP_PWR_REQ.MOORED requests MOORED, which is refused or entered. -/
  | pwrReqMoored
  /-- R538 PWR_REQ_OPEN: TOP_PWR_REQ.OPEN wakes the module from MOORED. -/
  | pwrReqOpen
  /-- R529 PWR_REQ_OFF: TOP_PWR_REQ.OFF makes an Off request. -/
  | pwrReqOff
  /-- R538 MOORED_WAKE: A wake cause brings every domain back and restores saved state, returning the module to OPEN.
  The cause as HP_MOOR numbers it, and the domains that do not power up in time. -/
  | mooredWake (cause : Nat) (failed : List Nat)
  /-- R541 SLOT_POWER_LIMIT: A Set_Slot_Power_Limit message moves the class down to the limit. -/
  | slotPowerLimit (watts : Nat)
  /-- R541 POWER_CLASS_SET: The command requests a power class. The path and the input payload. -/
  | powerClassSet (path : Master) (payload : List (BitVec 8))
  /-- R613 THERMAL_STEP: The controller junction at 100 °C, reached or held for another 10 s, moves PWR to the next
  lower class. Controller junction in °C. -/
  | thermalStep (temp : Int)
  /-- R614 THERMAL_TRIP: A trip temperature held for 100 ms makes an Off request. 0 a media die, 1 the controller;
  channel and die of a media die; °C. -/
  | thermalTrip (part ch die : Nat) (temp : Int)
  /-- R555 COLD_START: The module runs its start-up steps from rail sequencing to Memory_Active. What the step of the
  start that runs finds, and for the last the duration of each step in ms. -/
  | coldStart (input : StartIn) (ms : List Nat)
  /-- R560 STARTUP_TIMEOUT: Media bring-up is still running 50 s after qualification and CXL.mem stays disabled. Time
  since 12V_MAIN qualified, in ms. -/
  | startupTimeout (ms : Nat)
  /-- R573 COLD_RESET: TOP_RESET.COLD flushes, reaches OFF, waits 100 ms and starts. TOP_RESET.COLD. -/
  | coldReset
  /-- R570 SOFT_RESET: TOP_SOFT_RESET.GO resets CEN or BRG. TOP_SOFT_RESET.GO by a master, with BLOCK. -/
  | softReset (m : Master) (page : Nat)
  /-- R568 PERST_ASSERT: A qualified PERSTn# assertion puts the head into warm reset. A head's PERST# is qualified
  asserted. -/
  | perstAssert (head : Fin 2)
  /-- R558 PERST_DEASSERT: A qualified PERSTn# deassertion lets the head leave reset. A head's PERST# is qualified
  deasserted. -/
  | perstDeassert (head : Fin 2)
  /-- R569 FLR: A function-level reset resets the head's CXL.io state. Function-level reset of a head. -/
  | flr (head : Fin 2)
  /-- R569 CXL_RESET: A CXL Reset resets the head's CXL.mem state and decoders. CXL Reset of a head. -/
  | cxlReset (head : Fin 2)
  /-- R571 PWRDIS_ASSERT: PWRDIS qualified asserted makes an Off request. PWRDIS qualified asserted. -/
  | pwrdisAssert
  /-- R571 PWRDIS_DEASSERT: PWRDIS qualified deasserted makes an On request. PWRDIS qualified deasserted. -/
  | pwrdisDeassert
  /-- R571 PRSNT_HIGH: PRSNT# qualified high prevents power-up or counts as loss of main power. PRSNT# qualified high. -/
  | prsntHigh
  /-- R571 INPUT_FAULT: CLKREQ# reads high for 1 ms while driven low. CLKREQ# reads high while driven low. -/
  | inputFault
  /-- R571 FERRY_PRES_CHANGE: A qualified change of FERRY_PRES# starts or stops ferry training. FERRY_PRES# qualified
  at a level. -/
  | ferryPresChange (present : Bool)
  /-- R571 SMBCLK_LOW_TIMEOUT: SMBCLK low for more than 35 ms resets the MCTP interface. SMBCLK low for more than 35
  ms. -/
  | smbclkLowTimeout
  /-- R448 IDENTIFY: The mailbox returns the device identity. Path. -/
  | identify (m : Master)
  /-- R448 IDENTIFY_MEMORY_DEVICE: The mailbox returns the memory device capacities and limits. Path. -/
  | identifyMemoryDevice (m : Master)
  /-- R448 GET_PARTITION_INFO: The mailbox returns the partition information. Path. -/
  | getPartitionInfo (m : Master)
  /-- R448 GET_SUPPORTED_LOGS: The mailbox lists the supported logs. Path. -/
  | getSupportedLogs (m : Master)
  /-- R448 GET_LOG: The mailbox returns a log. Path; log 0 Command Effects, 1 vendor event log, 2 vendor power-fail
  log; offset and length in bytes. -/
  | getLog (m : Master) (log off len : Nat)
  /-- R448 GET_TIMESTAMP: The mailbox returns the timestamp. Path. -/
  | getTimestamp (m : Master)
  /-- R448 SET_TIMESTAMP: The mailbox sets the timestamp. Path, nanoseconds. -/
  | setTimestamp (m : Master) (ns : Nat)
  /-- R456 GET_EVENT_RECORDS: The mailbox returns event records from a log. Path; log 0 Informational, 1 Warning, 2
  Failure, 3 Fatal. -/
  | getEventRecords (m : Master) (log : Nat)
  /-- R459 CLEAR_EVENT_RECORDS: The mailbox frees log records and resets the log's overflow flag. Path, log, Clear All
  or the handles named. -/
  | clearEventRecords (m : Master) (log : Nat) (all : Bool) (handles : List Nat)
  /-- R460 GET_EVENT_INTERRUPT_POLICY: The mailbox returns the interrupt policy of each log. Path. -/
  | getEventInterruptPolicy (m : Master)
  /-- R460 SET_EVENT_INTERRUPT_POLICY: The mailbox sets the interrupt policy of each log. Path; for each log 0 none, 1
  MSI-X, other values as CXL numbers them. -/
  | setEventInterruptPolicy (m : Master) (policy : List Nat)
  /-- R449 GET_HEALTH_INFO: The mailbox returns the health report. Path. -/
  | getHealthInfo (m : Master)
  /-- R450 GET_ALERT_CONFIG: The mailbox returns the alert thresholds. Path. -/
  | getAlertConfig (m : Master)
  /-- R450 SET_ALERT_CONFIG: The mailbox programs the warning thresholds. Path, alerts that change, alerts enabled,
  thresholds in the order of R450. -/
  | setAlertConfig (m : Master) (valid enable : BitVec 5) (life : Nat) (overTemp underTemp : Int) (volatileErr persistent : Nat)
  /-- R451 GET_SHUTDOWN_STATE: The mailbox returns the stored shutdown state. Path. -/
  | getShutdownState (m : Master)
  /-- R451 SET_SHUTDOWN_STATE: The mailbox stores a new shutdown state and writes the health record. Path, state. -/
  | setShutdownState (m : Master) (dirty : Bool)
  /-- R452 GET_POISON_LIST: The mailbox returns poison list records for a DPA range. Path, DPA, length in sectors. -/
  | getPoisonList (m : Master) (dpa len : Nat)
  /-- R452 INJECT_POISON: The mailbox poisons one sector. Cycle, path, DPA. -/
  | injectPoison (cyc : Nat) (m : Master) (dpa : Nat)
  /-- R452 CLEAR_POISON: The mailbox clears a sector by writing the supplied 64 B. Cycle, path, DPA, data. -/
  | clearPoison (cyc : Nat) (m : Master) (dpa : Nat) (data : Sector)
  /-- R448 GET_SCAN_MEDIA_CAPABILITIES: The mailbox returns the scan estimate. Path, DPA, length in sectors. -/
  | getScanMediaCapabilities (m : Master) (dpa len : Nat)
  /-- R292 SCAN_MEDIA: A background logical pass over a DPA range starts. Path, DPA, length in sectors. -/
  | scanMedia (m : Master) (dpa len : Nat)
  /-- R292 GET_SCAN_MEDIA_RESULTS: The mailbox returns the poisoned sectors that the scan found. Path. -/
  | getScanMediaResults (m : Master)
  /-- R448 GET_FW_INFO: The mailbox returns the firmware slot information. Path. -/
  | getFwInfo (m : Master)
  /-- R519 TRANSFER_FW: A firmware image is written into the slot not running. Path; action 0 full, 1 first, 2 next, 3
  last part, 4 abort; slot from 1; offset in units of 128 B; data. -/
  | transferFw (m : Master) (action slot off : Nat) (data : List (BitVec 8))
  /-- R519 ACTIVATE_FW: FW_NEXT is set for the next cold reset. Path; action 0 online, 1 offline; slot from 1. -/
  | activateFw (m : Master) (action slot : Nat)
  /-- R455 REG_READ: The vendor command reads a BAR2 register. Path, payload of R454. -/
  | regRead (m : Master) (payload : List (BitVec 8))
  /-- R455 REG_WRITE: The vendor command writes a BAR2 register. Path, payload of R454. -/
  | regWrite (m : Master) (payload : List (BitVec 8))
  /-- R455 REGION_SET_ATTR: The vendor command writes a region's attributes in all copies and strobes group 3, or
  proposes CONFIG_AT_FN. Path, payload of R454. -/
  | regionSetAttr (m : Master) (payload : List (BitVec 8))
  /-- R455 MAP_SELECT: The vendor command writes TT_MAP_SEL and strobes group 1. Path, payload of R454. -/
  | mapSelect (m : Master) (payload : List (BitVec 8))
  /-- R603 CENSUS_CTRL: The vendor command writes CEN_CTRL and strobes group 12. Path, payload of R454. -/
  | censusCtrl (m : Master) (payload : List (BitVec 8))
  /-- R331 PASSPHRASE_UNLOCK: The mailbox Unlock command derives the passphrase key and, when SWK unwraps, ends the
  locked state until the next cold start. Path, user passphrase. -/
  | passphraseUnlock (m : Master) (current : BitVec 256)
  /-- R571 PRSNT_LOW: PRSNT# qualified low after being high means the card is seated again, and the power-up that
  PRSNT# blocked may go ahead. PRSNT# qualified low. -/
  | prsntLow
  /-- R527 RAIL_IN_TOLERANCE: A rail that was at warning or fault level crosses back into tolerance, so PWR_RAILS and
  the fault level fall and VDD_AUX returns to 3V3_AUX. Rail index and voltage in mV. -/
  | railInTolerance (rail mv : Nat)
  /-- R214 MEDIA_PHY_TRAINING_LOST: A media channel PHY loses training, PHY_UP falls, and the channel tries to retrain
  within 16 frames. Channel, and whether it has retrained. -/
  | mediaPhyTrainingLost (mch : Nat) (back : Bool)
  /-- R429 DRAM_TRAINING_LOST: A DRAM subchannel loses training and the DRC tries to retrain it within 10 ms. Whether
  the DRC has retrained it. -/
  | dramTrainingLost (ch sub : Nat) (ok : Bool)
  /-- R388 RESYNC_BITMAP_CLEARED: The background clearing of the resync bitmap after a resync ends within 100 ms. The
  clearing has ended. -/
  | resyncBitmapCleared
  /-- R462 CPMU_COUNTER_OVERFLOW: A 48-bit CPMU counter of a head overflows and raises MSI-X vector 6. Head, counter,
  increment. -/
  | cpmuCounterOverflow (head : Fin 2) (n inc : Nat)
deriving DecidableEq, Repr

end Sys2Proof
end

