-- ==== Sys2Proof/Decode.lean ====
section
/-!
DEFINITION. The words of the table of operations and events. The table gives its rows no bits (its "fields" lists are
empty), because the block takes commands and events, not encoded instructions. So no word spells a command.
-/
namespace Sys2Proof

/-- The command that a word spells by the table's bits: none, as no row has bits (log entry 11). -/
def decodeTableWord (_nbits _w : Nat) : Option Instr := none

end Sys2Proof
end

