-- ==== Sys2Proof/Config.lean ====
section
/-!
DEFINITION. What one module fixes and the spec leaves open, as constants with no body: keyed functions, the check value
of the placement key, message authentication tags, and free values. Nothing can be proved of the value of any of them.
-/
namespace Sys2Proof.Config

/-- A block cipher mode under one key and tweak: what is encrypted is decrypted to what it was. -/
structure Cipher (n : Nat) where
  enc : BitVec n → BitVec n := fun x => x
  dec : BitVec n → BitVec n := fun x => x
  dec_enc : ∀ x, dec (enc x) = x := by intros; rfl
deriving Inhabited

/-- R302. XTS-AES-256 of a line under the XTS key of a key set and a tweak. Log entry 9. -/
opaque xtsLine : Nat → BitVec 128 → Cipher 2048

/-- R319. XTS-AES-128 of a DRAM sector under the DRAM cache key of a cold start or a Sanitize, and a tweak; none without the key. Log
entry 9. -/
opaque xtsSector : Option Nat → BitVec 128 → Cipher 512

/-- R303. AES-256 of a block under the MAC key of a key set. Log entry 9. -/
opaque macAes : Nat → BitVec 128 → BitVec 128

/-- R199. The 156 check bits of a codeword's bytes 0 to 267. Log entry 150. -/
opaque bch : List (BitVec 8) → BitVec 156

/-- R120. The keyed mixing function f(i, v) of XL: round number and half-word. Log entry 1. -/
opaque mixF : Nat → Nat → BitVec 16

/-- R120. The table g(t) of XL, entries 0 to 2. Log entry 1. -/
opaque mixG : Nat → Fin 3

/-- R143. The round function of the cache placement permutation H, under the key of cold start number `epoch`: round
number and half. Log entry 1. -/
opaque cacheMix : Nat → Nat → Nat → BitVec 17

/-- R121. The check value of the placement key in XL_KEY_CHECK. Log entry 3. -/
opaque keyCheck : BitVec 16

/-- A value the spec leaves open or that SEC's DRBG draws, by the number of values drawn before it. Log entry 2. -/
opaque draw : Nat → BitVec 512

/-- R321. Wrapped key material in a key record: what wraps it, and the key set or wrapping key it holds. Log entry 9. -/
opaque wrap : Nat → Nat → BitVec 832

/-- R618. The module's serial number in OTP. Log entry 24. -/
opaque serial : BitVec 64

/-- R499, R618. The silicon revision that REV_MIN and REV_MAX of an image compare against. Log entry 24. -/
opaque siliconRev : BitVec 16

/-- R328, R329. SHA-384 of `n` bytes, those not zero given by their offset. Log entry 29. -/
opaque sha384 : List (Nat × BitVec 8) → Nat → BitVec 384

/-- R329. The digest of the boot ROM. Log entry 29. -/
opaque romDigest : BitVec 384

/-- R328. The certificate chain of slot 0. Log entry 29. -/
opaque chain0 : List (BitVec 8)

/-- R329, R619. The OTP root hashes: image root, Crypto Officer root and debug key, of Shaholt and the customer. Log entry 29. -/
opaque otpHashes : List (BitVec 8)

/-- R448. The vendor, device and subsystem IDs that Identify returns. Log entry 30. -/
opaque pciIds : BitVec 64

/-- R448. The effects of a mailbox command, by its opcode, in the Command Effects Log. Log entry 30. -/
opaque effects : Nat → BitVec 16

end Sys2Proof.Config
end

