-- ==== Sys2Proof/Machine/Kv.lean ====
section
/-!
DEFINITION. Sparse tables: a list of (key, value) pairs with strictly rising keys. A key that is not listed reads as the
default its reader names. The tables hold what the spec gives in large numbers (tags, stripes, districts, registers).
-/
namespace Sys2Proof.Machine

/-- A sparse table keyed by a number. -/
abbrev Kv (α : Type) := List (Nat × α)

/-- The entry of key `k`, if one is listed. -/
def Kv.get? {α : Type} : Kv α → Nat → Option α
  | [], _ => none
  | (k', v) :: t, k => if k' = k then some v else Kv.get? t k

/-- The entry of key `k`, or `d` when none is listed. -/
def Kv.getD {α : Type} (m : Kv α) (k : Nat) (d : α) : α := (Kv.get? m k).getD d

/-- List `v` under `k`, in key order, in place of any earlier entry of `k`. -/
def Kv.set {α : Type} : Kv α → Nat → α → Kv α
  | [], k, v => [(k, v)]
  | (k', v') :: t, k, v =>
    if k < k' then (k, v) :: (k', v') :: t
    else if k = k' then (k, v) :: t
    else (k', v') :: Kv.set t k v

/-- Drop every entry of `k`. -/
def Kv.erase {α : Type} (m : Kv α) (k : Nat) : Kv α := m.filter fun p => p.1 != k

/-- Apply `f` to the entry of `k`, taken as `d` when none is listed. -/
def Kv.mod {α : Type} (m : Kv α) (k : Nat) (d : α) (f : α → α) : Kv α := Kv.set m k (f (Kv.getD m k d))

/-- True when an entry of `k` is listed. -/
def Kv.has {α : Type} (m : Kv α) (k : Nat) : Bool := (Kv.get? m k).isSome

/-- Keys are strictly rising, so that equal tables are equal data. -/
def Kv.wf {α : Type} : Kv α → Bool
  | [] => true
  | [_] => true
  | (k, _) :: (k', v') :: t => decide (k < k') && Kv.wf ((k', v') :: t)

end Sys2Proof.Machine
end

