-- ==== Sys2Proof/Machine/State.lean ====
section
/-!
DEFINITION. State: every register, queue, table, memory and condition the spec gives the KM2400, as plain data, with
the value each holds right after reset. The docstring of a field cites the rule that names it. A field of a substructure
carries its reset value as its default, so `State.reset` is the structure with every default.
-/
namespace Sys2Proof.Machine

/-- Why a run stops with a fault. No command of this block stops the block: the spec answers every case with an effect,
a record or a refusal code, so no meaning raises `unreachable`. It is here so that the type has an inhabitant. Safe. -/
inductive Fault where
  | unreachable
deriving DecidableEq, Repr

/-- Why a command is refused. `notModelled` is answered only by an arm of `exec` whose meaning is not written. Safe: the
run stops. -/
inductive Refusal where
  | notModelled (mnemonic : String)
deriving DecidableEq, Repr

/-! ### Events and counters (17) -/

/-- R577. One event record of 32 B: FN, SOURCE, CODE, SEVERITY, FLAGS and the 20 DATA bytes, byte 12 lowest. -/
structure Record where
  fn : Nat
  source : Nat
  code : Nat
  severity : Severity
  relayed : Bool := false
  cont : Bool := false
  stored : Bool := false
  lostBefore : Bool := false
  data : BitVec 160 := 0
deriving DecidableEq, Repr

/-- R43, R585, R589. One block counter: the active EVENT and ENABLE of CNTn_SEL, COUNT and OVF of CNTn_VAL, the high
half latched by the last low-half read (none since the last reprogram). -/
structure Counter where
  event : Nat := 0
  enable : Bool := false
  count : Nat := 0
  ovf : Bool := false
  latch : Option Word := none
deriving DecidableEq, Repr

/-- R54, R265. One stored word of a queue, with its end mark and truncation flag, and whether its SRAM word fails. -/
structure QWord where
  word : BitVec 512
  endMark : Bool
  trunc : Bool := false
  bad : Bool := false
deriving DecidableEq, Repr

/-- R54. A queue: the words stored, oldest first, the flags OVERRUN and DISCARD, the three bits of Q_LAST, and whether
the last word the producer pushed left a packet open (R60). All reset to 0. -/
structure Queue where
  words : List QWord := []
  overrun : Bool := false
  discard : Bool := false
  lastValid : Bool := false
  lastEnd : Bool := false
  lastTrunc : Bool := false
  openPkt : Bool := false
deriving DecidableEq, Repr

/-- R580-R584, R602. The event path: occurrences waiting in the source holds, oldest first; the continuations of the
occurrence being taken; records that bypass the holds; the lost window; sources that owe LOST_BEFORE; the drops of the frame; the staged ring; the
relay; and the counts of EVQ_RATE, EVQ_LOSTn and EVQ_TAKEN. -/
structure Evq where
  hold : List (List Record) := []
  taking : List Record := []
  dropped : Kv Nat := []
  lostMark : List Nat := []
  frameDropped : Nat := 0
  frameSources : List Nat := []
  records : Queue := {}
  direct : List Record := []
  staged : List Record := []
  relay : List Record := []
  takenNow : Nat := 0
  takenLast : Nat := 0
  takenMax : Nat := 0
  taken : Nat := 0
  lost0 : Nat := 0
  lost1 : Nat := 0
  lost2 : Nat := 0
  lost3 : Nat := 0
deriving DecidableEq, Repr

/-- The telemetry every operation touches: the event path and the block counters, keyed by block index × 8 + n
(block index as R596 numbers the 54 instances). -/
structure Tele where
  evq : Evq := {}
  counters : Kv Counter := []
  /-- R622: occurrences of this frame counted for the codes recorded once per frame, keyed by (code × 512 +
  source) × 16 + who: the count. -/
  frameCounts : Kv Nat := []
  /-- R622: codes recorded at their first occurrence of the frame, keyed by code × 65536 + a number that names who. -/
  frameOnce : List Nat := []
deriving DecidableEq, Repr

/-! ### Register file (02) -/

/-- R50. A posted write in flight to its target domain: the BAR2 offset it was made at, the RP words it writes (word offset in the block,
value the local copy takes), its value and size, and its master. -/
structure Posted where
  off : Nat
  words : List (Nat × Word)
  value : BitVec 64
  size : Nat
  master : Master
deriving DecidableEq, Repr

/-- R43-R53. The register file of the BAR2 window: active and shadow copies by BAR2 offset (a register not listed holds
its reset value; a shadow not listed equals the active copy), the values the image gave, which those registers take when their block is
reset, posted writes in flight and CNT_LOST by block index, the CNTn_SEL registers
written since their last activation (block × 8 + n), the groups strobed, and TOP_LAST_UPDATE_FN. -/
structure Regs where
  active : Kv Word := []
  shadow : Kv Word := []
  posted : Kv Posted := []
  cntLost : Kv Nat := []
  selWritten : List Nat := []
  image : Kv Word := []
  pendingGroups : BitVec 32 := 0
  lastUpdateFn : Nat := 0
deriving DecidableEq, Repr

/-! ### Timetable (03) -/

/-- R63-R107. TT: FN and the timetable cycle within the frame (0 to 1,023, so slot and cycle of TT_NOW); the map in
force, FORCED and CARRY; whether TT_MAP_SEL was written since its last activation; the map that a Sanitize keeps out of force
(R336); the loaded maps 0 to 2 (16 slot words each); the class whose caps are in force; the frames that FN steps (R377)
skipped, which are no time;
starts granted by absolute slot (FN × 16 + slot), those of host crossings, and the slots in which single-codeword writes
begin; excluded die numbers; the references; bell tracking; deadline misses; and the overrun runs of R100. -/
structure Tt where
  fn : Nat := 0
  cyc : Nat := 0
  map : Nat := 0
  forced : Bool := false
  carry : Bool := false
  maps : List (List (BitVec 16)) := []
  flushMapDue : Bool := false
  selected : Bool := false
  kept : Option Nat := none
  skip : Nat := 0
  cls : Nat := 2
  starts : Kv Nat := []
  hostStarts : Kv Nat := []
  cwSlots : List Nat := []
  excluded : BitVec 8 := 0
  src : Osc := .main
  mainOk : Bool := false
  backupOk : Bool := false
  mainOkSince : Nat := 0
  locked : Bool := false
  holdover : Bool := false
  disagree : Bool := false
  standbyFailed : Bool := false
  returnReq : Bool := false
  forceReq : Bool := false
  tickLost : Bool := false
  miss0 : Nat := 0
  miss1 : Nat := 0
  miss2 : Nat := 0
  miss3 : Nat := 0
  late : BitVec 8 := 0
  overrunNow : Bool := false
  overrunRun : Nat := 0
  cleanRun : Nat := 0
  overrunFault : Bool := false
  fnLatch : BitVec 16 := 0
deriving DecidableEq, Repr

/-! ### Addresses and translation (04) -/

/-- R122-R125, district state window. START, GAP, the write counter modulo 64, PENDING and FROZEN of one district, the
factory state of R122 as default, and whether GAP_BACKLOG was recorded since PENDING was last below 15. MOVING is read
from the moves in flight. -/
structure District where
  start : Nat := 0
  gap : Nat := 16777216
  wcount : Nat := 0
  pending : Nat := 0
  frozen : Bool := false
  backlogged : Bool := false
deriving DecidableEq, Repr

/-- R133. A berth table entry: a run of `len` berths from `src` onto spare berths from `target`. -/
structure BerthEntry where
  src : Nat
  len : Nat
  target : Nat
deriving DecidableEq, Repr

/-- R197, R198. A codeword on media: DATA is the ciphertext of a line, or of a parity codeword the XOR of the data codewords; its check
bits follow from the rest. The default is the factory blank of R231, whose HOME the reader computes. -/
structure Codeword where
  data : BitVec 2048 := 0
  home : BitVec 16 := 0
  gen : Nat := 0
  poison : BitVec 4 := 0
  parity : Bool := false
  internal : Bool := false
  mac : BitVec 64 := 0
deriving DecidableEq, Repr

/-- What a copy of a stripe is for. -/
inductive CopyKind where
  | gapMove (district : Nat)
  | stripeRetire
  | berthRetire
deriving DecidableEq, Repr

/-- R124, R126, R134. A stripe copy in flight: the page's source and target PSN, whether its first read has been commanded,
once all are read the 16 codewords in block order and the parity codeword, and how far the crossing has come. `readableAt` is the absolute slot from which the target row may be read (R84); `committed` waits for
the frame tick at which the tables change. -/
structure Move where
  kind : CopyKind
  src : Nat
  dst : Nat
  started : Bool := false
  ws : List Codeword := []
  granted : Bool := false
  readableAt : Option Nat := none
  committed : Bool := false
deriving DecidableEq, Repr

/-- R132-R141. XL: the districts, the berth and stripe tables by entry number, copies in flight, the retirement queue
(stripes and berths that wait, in trigger order) and the berth being retired with its boundary and its first spare
berth, whether the tables have been loaded, the next spare stripe and berth, checkpoint and journal positions, XL_GAP_LOST, the regions whose copies differ (R119), and the last probe. -/
structure Xl where
  districts : Kv District := []
  berths : Kv BerthEntry := []
  stripes : Kv (Nat × Nat) := []
  moves : List Move := []
  retireQ : List (Bool × Nat) := []
  berth : Option (Nat × Nat) := none
  boundary : Nat := 0
  loaded : Bool := false
  nextStripe : Nat := 0
  nextBerth : Nat := 0
  stripesRetired : List Nat := []
  dueStripes : List (Nat × Nat) := []
  dueBerth : Option (Nat × Nat) := none
  ckptSeq : Nat := 0
  ckptFn : Nat := 0
  journalB : Bool := false
  journalLen : Nat := 0
  gapLost : Nat := 0
  full : Bool := false
  fullRecorded : Bool := false
  sparesLow : Bool := false
  mismatch : List Nat := []
  probeDone : Bool := false
  probeOut : Bool := false
  probeBerth : Bool := false
  probeStripe : Bool := false
  probeMoving : Bool := false
  probeDistrict : Nat := 0
  probeParityPos : Nat := 0
  probeParityMch : Nat := 0
  probeMissing : Bool := false
  probeOffset : Nat := 0
  probeSlot : Nat := 0
  probePsn : Nat := 0
deriving DecidableEq, Repr

/-! ### Requests, the cache and the landing buffer (05) -/

/-- Where a request came from: a head (with the host's tag), a mailbox command of a head (R452), a barge channel, the peer's MIRROR_WRITE (write index), or a page
of a resync (R390). -/
inductive Origin where
  | host (head : Fin 2) (tag : Nat)
  | command (head : Fin 2)
  | barge (ch : Fin 4)
  | mirror (widx : Nat)
  | page
deriving DecidableEq, Repr

/-- The three kinds of CXL.mem request (R156, R158). -/
inductive ReqKind where
  | read | write | byteEnable
deriving DecidableEq, Repr

/-- A request to a slice: its identity, origin, DPA, kind, data with byte enables and poison indication, the region, the
times of receipt and admission in ns, with the time it was held for a wake from Moored (R247), the cause bits of R249 set on its path, whether the sampler selected it
(R599), and what the sample record and the bound monitor show of it: the R248 row, the outcome, the step that ended the
media read, the channel read (255 none) and whether a write was suspended for it (R257, R600); and whether its head was
reset, so that its response is discarded (R568). -/
structure HostReq where
  id : Nat
  origin : Origin
  dpa : Nat
  kind : ReqKind
  data : Sector := 0
  be : BitVec 64 := 0
  poison : Bool := false
  region : Nat := 0
  recv : Nat := 0
  admitNs : Nat := 0
  wake : Nat := 0
  causes : BitVec 8 := 0
  sampled : Bool := false
  row : Nat := 0
  outcome : Nat := 0
  step : Nat := 0
  mch : Nat := 255
  susp : Bool := false
  mute : Bool := false
deriving DecidableEq, Repr

/-- R146-R149. A way: the page's LPN (TAG is computed from it), the sector valid, dirty and poison bits of tag and
metadata line, LOCK, AGE, REGION, and whether the tag entry is allocated. BVALID, BDIRTY, PARTIAL and LANDED are
computed. -/
structure Way where
  lpn : Nat := 0
  valid : BitVec 64 := 0
  dirty : BitVec 64 := 0
  poison : BitVec 64 := 0
  lock : Bool := false
  age : Nat := 0
  region : Nat := 0
  used : Bool := false
deriving DecidableEq, Repr

/-- R168. The states of a landing entry. -/
inductive LState where
  | free | filling | ready | latched | written | released
deriving DecidableEq, Repr

/-- Why a landing entry exists, for the commit's further effects: host data, a rekey of the repaver (R314), or a page the
sweeper forms (R283). -/
inductive LKind where
  | host | rekey | sweep
deriving DecidableEq, Repr

/-- R167-R171, landing header window. A landing entry: state, pool, whether it takes a victim's move and when that began (R26), LPN, region,
FN in which it left Free, sector valid and poison bits, the sectors poisoned by its merges (R285) and whether they were recorded, the data, its order of
leaving Free, completions that wait for its commit, the lowest acceptance FN it carries (R243), and the absolute slot
from which it may be reused (R170). -/
structure Landing where
  st : LState := .free
  evict : Bool := false
  moving : Bool := false
  moveNs : Nat := 0
  kind : LKind := .host
  lpn : Nat := 0
  region : Nat := 0
  fn : Nat := 0
  valid : BitVec 64 := 0
  poison : BitVec 64 := 0
  merged : BitVec 64 := 0
  noted : Bool := false
  data : Kv Sector := []
  ord : Nat := 0
  waiters : List HostReq := []
  minAcc : Option Nat := none
  freeAt : Nat := 0
deriving DecidableEq, Repr

/-- R163-R192. One slice: removal and the slice that serves it, the background destage and its walk index, the counts at
the last tick (R166, R167) with the once-per-frame records made, the dirty share, what a drain has destaged and
poisoned, and the pages that were dirty when gating began and have not committed since (R237). -/
structure Slice where
  removed : Bool := false
  servedBy : Option Nat := none
  draining : Bool := false
  destaging : Bool := false
  walk : Nat := 0
  dirtyAtTick : Nat := 0
  freeAtTick : Nat := 512
  limitRecorded : Bool := false
  fullRecorded : Bool := false
  share : Nat := 262144
  drained : Nat := 0
  drainPoisoned : Nat := 0
  gateOwed : List Nat := []
deriving DecidableEq, Repr

/-- The operations of the command port of CS0 (R181), in the order of CS_CMD_CTRL.OP. -/
inductive RangeOp where
  | lock | unlock | clean | invalidate
deriving DecidableEq, Repr

/-- R180-R185. The command port of CS0: the operation, its range and the next page it reaches; whether it walks; BUSY and RESULT; the
pages reached and refused; the first refused LPN; the crossings counted for RANGE_DONE; per slice the refusals; the entries, by their
order of leaving Free, that were short of Released when it reached their pages; per slice still walking the index of its next set;
and the locked pages it dropped, by set and LPN. -/
structure RangePort where
  op : RangeOp := .lock
  start : Nat := 0
  count : Nat := 0
  next : Nat := 0
  walk : Bool := false
  busy : Bool := false
  result : Nat := 0
  done : Nat := 0
  refused : Nat := 0
  first : Nat := 0
  crossings : Nat := 0
  refusedBy : Kv (Nat × Nat) := []
  waits : List Nat := []
  walks : Kv Nat := []
  unlocked : List (Nat × Nat) := []
deriving DecidableEq, Repr

/-- R143-R145, R186-R191. The cache: ways by set × 8 + way, landing entries by slice × 512 + entry, slices, the DRAM
channels in use (those of the geometry in force), channels drained toward the 3-channel geometry, channels served
uncached for good (R431), the placement key's epoch, the order counter of entries and its value when gating began (R237), the port,
the locked pages that failed channels lost and no record names yet, by set and LPN (R189), and requests that wait. -/
structure Cache where
  ways : Kv Way := []
  landing : Kv Landing := []
  slices : Kv Slice := []
  drams : List Nat := [0, 1, 2, 3]
  drainDrams : List Nat := []
  uncachedDrams : List Nat := []
  retrainDrams : List Nat := []
  keyEpoch : Nat := 0
  nextOrd : Nat := 0
  gateOrd : Nat := 0
  nextReq : Nat := 0
  port : RangePort := {}
  lostLocks : List (Nat × Nat) := []
  waiting : List HostReq := []
deriving DecidableEq, Repr

/-! ### Media (03, 06) -/

/-- What a crossing carries. -/
inductive XWork where
  | landing (key : Nat)
  | copy (src : Nat)
  | blank (lpn : Nat)
  | internal (psn : Nat)
deriving DecidableEq, Repr

/-- R81-R84. A crossing in flight: slot, beat, PSN (die, plane and row follow), the codewords by channel, whether it has
launched, suspensions by channel, the channels suspended with the absolute slot, the channels that have completed, and those
whose verify failed with the cells. -/
structure Crossing where
  id : Nat
  work : XWork
  psn : Nat
  slot : Nat
  beat : Nat
  cws : Kv Codeword := []
  launched : Bool := false
  susp : Kv Nat := []
  suspended : Kv Nat := []
  done : List Nat := []
  failed : Kv Nat := []
  repeated : Bool := false
  host : Bool := true
deriving DecidableEq, Repr

/-- Why a codeword is rewritten alone (R209, R288, R290, R216). -/
inductive RewriteKind where
  | corrective | refresh | parityFix | rebuild (pos : Nat)
deriving DecidableEq, Repr

/-- A single-codeword maintenance write owed or in flight: channel, PSN, codeword, and when in flight its absolute slot,
beat, suspensions and the absolute slot for which it is suspended. -/
structure CwWrite where
  id : Nat
  kind : RewriteKind
  mch : Nat
  psn : Nat
  cw : Codeword
  slot : Option Nat := none
  beat : Nat := 0
  susp : Nat := 0
  suspended : Option Nat := none
deriving DecidableEq, Repr

/-- What a media read is for, once its ladder has ended: a block for a slice (R154), a codeword of a copy (R124, R134, by
source PSN) or of a rebuild (R216, by die number), the sweeper's physical pass (R288, by channel) or a logical one (R289, by
region, 64 for the scan), the repaver's GEN read (R314, by LPN), a block for the barge (R482, by channel), or a block of a page
for the peer (R390, R393, by LPN). -/
inductive ReadUse where
  | fill
  | copy (src : Nat)
  | rebuild (die : Nat)
  | sweep (mch : Nat)
  | logical (region : Nat)
  | repave (lpn : Nat)
  | barge (ch : Nat)
  | page (lpn : Nat)
deriving DecidableEq, Repr

/-- R281. A read whose loss would poison what it reads: its block is taken from the peer first. A sweep asks once all its ladders have
ended, a page for the peer is not asked of the peer, and a barge read halts its channel. -/
def ReadUse.asksPeer : ReadUse → Bool
  | .fill | .copy _ | .rebuild _ | .repave _ => true
  | .sweep _ | .logical _ | .barge _ | .page _ => false

/-- R151-R155, R251, R206. A media read: its kind and purpose, the block (16: parity), the PSN and position, the ladder's step,
the channels read, the reserved absolute slot and whether it suspends a write, whether it waits for a beat without a reservation
(R72, R173), the beat once commanded, the reference codes by channel (R203), the channels whose codewords have come and those that
did not decode, whether the channels of step 3 are re-read at the alternate reference (R202), whether a codeword decoded to a wrong
word (R199), whether a beat was missed (R97), the bits each decode corrected by channel (R199), whether UNCORRECTABLE was recorded for it, its sectors lost on
the datapath (R273), whether its page was dropped meanwhile, so that no request joins it (R313), requests joined, the way or landing
entry it fills, the landing entry whose move it waits for (R26), the decoded block, and the codeword that passed. Step 4 is a read
that ended uncorrectable; step 5 one that waits for the peer's block. -/
structure MediaRead where
  id : Nat
  kind : ReadKind
  use : ReadUse := .fill
  lpn : Nat
  block : Nat
  psn : Nat
  pos : Nat
  step : Nat := 1
  chans : List Nat
  slot : Nat
  suspends : Bool := false
  waits : Bool := false
  beat : Option Nat := none
  refs : Kv Nat := []
  got : List Nat := []
  bad : List Nat := []
  alt : Bool := false
  wrong : Bool := false
  missed : Bool := false
  corrected : Kv Nat := []
  told : Bool := false
  spoiled : BitVec 4 := 0
  apart : Bool := false
  joined : List HostReq := []
  way : Option Nat := none
  entry : Option Nat := none
  after : Option Nat := none
  result : Option (BitVec 2048 × BitVec 4) := none
  word : Option Codeword := none
deriving DecidableEq, Repr

/-- R205, R211, band window. One row band of a channel: NEW_FN, PREV_FN and POS, the dies' temperature sums when each of
the two passes began (TAVG is their average since), and whether REFRESH_OVERDUE was recorded. -/
structure Band where
  newFn : Int := 0
  prevFn : Int := 0
  pos : Nat := 0
  prevSum : Kv Int := []
  newSum : Kv Int := []
  overdue : Bool := false
deriving DecidableEq, Repr

/-- R221, watch list window. A watched stripe of a channel; once step 2 or 3 was needed, whether the codeword has been
rewritten since. -/
structure Watch where
  psn : Nat
  pos : Nat
  bad : Bool := false
  altSeen : Bool := false
  rewritten : Bool := false
deriving DecidableEq, Repr

/-- R214-R229. One media channel: FAILED and PHY_UP, die roles (0–16 a position, 30 free spare, 31 failed), the
position a failed die last served, die temperatures and their sums over frames, deadline-miss frames and step-2 failure frames by die, alternate reads in the window by die and the dies
recorded, counters, plane lifetime writes (die × 4 + plane), bands, the watch list oldest first, rebuild boundaries by
die and positions, and the takeover flag. Roles not listed are the reset roles of MCH_DIE_ROLE. -/
structure Mch where
  failed : Bool := false
  phyUp : Bool := false
  phyLostAt : Option Nat := none
  roles : Kv Nat := []
  was : Kv Nat := []
  temps : Kv Int := []
  tempSum : Kv Int := []
  missFns : List (Nat × Nat) := []
  step2Fns : List (Nat × Nat) := []
  altWin : Kv Nat := []
  altRecorded : List Nat := []
  corr : Nat := 0
  alt : Nat := 0
  recon : Nat := 0
  uncorr : Nat := 0
  wfail : Nat := 0
  planes : Kv Nat := []
  bands : Kv Band := []
  watch : List Watch := []
  rebuild : Kv Nat := []
  rebuilding : List Nat := []
  takeover : Bool := false
  repeats : Nat := 0
deriving DecidableEq, Repr

/-- R224. The repeat guard of one district: PSNs of its last 512 granted host crossings, newest first, the frame of its
last repeat grant, and the channel that keeps it when that is not district mod 18. -/
structure Guard where
  psns : List Nat := []
  lastRepeat : Option Nat := none
deriving DecidableEq, Repr

/-- A rebuild under way (R216): die number, position, target channel, start frame. -/
structure Rebuild where
  die : Nat
  pos : Nat
  dstMch : Nat
  start : Nat
deriving DecidableEq, Repr

/-- The media: codewords written since factory by channel × 2^33 + PSN (unlisted: factory blank, R231), the channels,
crossings, single-codeword writes owed and in flight, media reads, the beats that commanded reads take for their transfers
(channel, absolute slot, beat), the rows written whose settle slot has not passed (PSN, channels, the absolute slot from which they
may be read, R84), the stripes of the internal area that wait to be written with their lines, guards, rebuilds, substitutions due at the next tick
(die, position), degraded die numbers with their positions, die numbers with stripes lost, stripes whose retirement is
blocked, the last copy of the MCH tables with its FN (R563) and of the remap tables (R138), the translation as each Sanitize found it,
newest first (R335: the stripes it wrote blank are not listed), and id counters. -/
structure Media where
  cells : Kv Codeword := []
  mchs : Kv Mch := []
  crossings : List Crossing := []
  rewrites : List CwWrite := []
  reads : List MediaRead := []
  transfers : List (Nat × Nat × Nat) := []
  settling : List (Nat × List Nat × Nat) := []
  internal : Kv (List Codeword) := []
  guards : Kv Guard := []
  rebuilds : List Rebuild := []
  substitute : List (Nat × Nat × Nat) := []
  degraded : List (Nat × Nat) := []
  lost : List Nat := []
  blocked : List Nat := []
  lifeWarned : Bool := false
  lifeEnded : Bool := false
  tableFn : Nat := 0
  tables : Kv Mch := []
  remapSave : Option (Kv BerthEntry × Kv (Nat × Nat)) := none
  wiped : List Xl := []
  nextId : Nat := 0
deriving DecidableEq, Repr

/-! ### Heads: durability, bounds and load (07) -/

/-- R242-R262. The durability side of one head: the FN copies of the commit page, the load figures of the frame now and
of the previous one, DevLoad, the excursion counters with the last excursion, and a Phase 2 flush in progress: its start in
ns, up to which its writes were received, and the last acceptance FN of those so far. -/
structure Head where
  acceptedFn : Nat := 0
  mediaFn : Nat := 0
  pairFn : Nat := 0
  firstFn : Nat := 0
  waitNow : Nat := 0
  waitMax : Nat := 0
  anyWait : Bool := false
  reqMax : Nat := 0
  rwdMax : Nat := 0
  holdSeen : Bool := false
  devload : Nat := 0
  belowSevere : Nat := 64
  exc : Kv Nat := []
  excRow : Nat := 0
  excCauses : BitVec 8 := 0
  excService : Nat := 0
  excFn : Nat := 0
  unexplained : Nat := 0
  unexplainedRow : Nat := 0
  unexplainedNs : Nat := 0
  faultUntil : Nat := 0
  gpf : Option (Nat × Nat) := none
  lfsr : BitVec 32 := 1
deriving DecidableEq, Repr

/-- R275. The source of a poison list record. -/
inductive PoisonSource where
  | external | injected | internal
deriving DecidableEq, Repr

/-- R278. A poison list record: DPA (64 B aligned), length in sectors, source. -/
structure PoisonRec where
  dpa : Nat
  len : Nat
  source : PoisonSource
deriving DecidableEq, Repr

/-- R278-R281, R288-R292, R295. Integrity state: the poison list with its overflow condition and timestamp, blocks being
taken from the peer (LPN × 16 + block), MAC-only failures of the window, blocks at fault level 3 after a second datapath failure, SRAM and
DRAM words awaiting nothing; the sweeper's physical positions (the PSN a channel reads next, and the channels whose band is being rewritten), logical positions and starts by region, logical reads of the frame, and passes; and the management pairs' checkpoints. -/
structure Integrity where
  list : List PoisonRec := []
  overflow : Bool := false
  overflowAt : Nat := 0
  macFails : Nat := 0
  macStorm : Bool := false
  fromPeer : List Nat := []
  failedBlocks : List Nat := []
  sweepPos : Kv Nat := []
  rewriting : List Nat := []
  logicalPos : Kv Nat := []
  logicalStart : Kv Nat := []
  logicalNow : Nat := 0
  mediaPasses : Kv Nat := []
  dramPasses : Nat := 0
  sramPasses : Nat := 0
  dramStart : Nat := 0
  sramStart : Nat := 0
  sweepStart : Kv Nat := []
  behind : List Nat := []
  scan : Option (Nat × Nat) := none
  scanHits : List PoisonRec := []
  ckptA : Nat := 0
  ckptB : Nat := 0
  lockstepA : Option Nat := none
  lockstepB : Option Nat := none
  romA : Bool := false
  romB : Bool := false
deriving DecidableEq, Repr

/-! ### DRAM (11) -/

/-- R407. A held read entry: the request it serves, the channel-local address, that of the metadata line read beside a sector of a mixed
block (R152), the data and poison the slice's order gives it, whether the sector is dirty, and whether the burst was already read once more (R269). -/
structure DrcRead where
  req : HostReq
  addr : Nat
  metaAddr : Option Nat := none
  data : Sector
  poison : Bool
  dirty : Bool
  retried : Bool := false
deriving DecidableEq, Repr

/-- R417. An activation table entry. -/
structure ActEntry where
  row : Nat
  count : Nat
deriving DecidableEq, Repr

/-- R407-R427. One subchannel: read queue, write queue (address and sector), open rows with the time of their last column
command, owed refresh intervals, hot, the ns until which a forced refresh runs and the refreshes of its batch (8: no interval joins it), self-refresh, drift, activation
tables and RFM rolling counts by bank, the erased device, corrections by device and frame, uncorrectable frames, the frame in which training was lost,
the ns until which a refresh withholds every bank and a mitigation or RFM withholds one (R407), and whether a wake owes a drift check (R426). -/
structure DrcSub where
  readQ : List DrcRead := []
  writeQ : List (Nat × Sector) := []
  openRows : Kv (Nat × Nat) := []
  owed : Nat := 0
  hot : Bool := false
  forcedTill : Nat := 0
  batch : Nat := 8
  selfRefresh : Bool := false
  drift : Int := 0
  acts : Kv (Kv ActEntry) := []
  rfm : Kv Nat := []
  erased : Option Nat := none
  corrFns : List (Nat × Nat) := []
  uncorrFns : List Nat := []
  lostAt : Option Nat := none
  idleSince : Nat := 0
  refreshTill : Nat := 0
  busyTill : Kv Nat := []
  woken : Bool := false
deriving DecidableEq, Repr

/-- R424, R433. The training helpers and counters of one DRC: run in progress, ERRORS, error counters by 40 × u + q, step
values in force by set × 65536 + target × 128 + lane. -/
structure DrcTrain where
  busy : Bool := false
  errors : Bool := false
  counters : Kv Nat := []
  steps : Kv Nat := []
  timings : Kv (BitVec 8) := []
deriving DecidableEq, Repr

/-- R400-R433. One DRAM controller: STATE of DRC_STAT (0 off to 7 removed), SPEED, its subchannels, refresh and mitigation
counts, ECC counts, FAILED, training. -/
structure Drc where
  state : Nat := 0
  speed : Nat := 0
  subs : Kv DrcSub := []
  forcedCount : Nat := 0
  mitigations : Nat := 0
  rfmCount : Nat := 0
  corr : Nat := 0
  uncorr : Nat := 0
  failed : Bool := false
  train : DrcTrain := {}
deriving DecidableEq, Repr

/-! ### Power and start-up (15, 16) -/

/-- R527, PWR_RAILS and the rail window. One rail: 0 off, 1 in tolerance, 2 warning, 3 fault; mV now, lowest, highest. -/
structure Rail where
  state : Nat := 0
  mv : Nat := 0
  minMv : Nat := 0
  maxMv : Nat := 0
deriving DecidableEq, Repr

/-- R548-R550. A hold-up flush: cause, the step of R548 reached, whether it ends in HALTED, on the bank, the figures of
the power-fail record at its start, pages destaged, whether the sentinels were offered for rewriting, the fault mask, and whether the SRAM
state was saved. -/
structure Flush where
  cause : Nat
  step : Nat := 1
  halt : Bool := false
  onBank : Bool := false
  incomplete : Bool := false
  uptime : Nat := 0
  dirty : Nat := 0
  destaged : Nat := 0
  vres : Nat := 0
  sentinels : Bool := false
  saved : Bool := false
deriving DecidableEq, Repr

/-- R523-R553. PWR: the state (0 OFF, 1 POWER_UP, 2 OPEN, 3 IDLE, 4 MOORED, 5 FLUSH, 6 POWER_DOWN, 7 HALTED), input and
bank levels, gating with its cause, the class requested by a slot limit, bank measurements in mV, mF, mΩ, the health
test, rails, domains (0 Off, 1 Retained, 2 On; not listed: Off), the first-failure latch, the uptime in ns, the
power-fail sequence, requests that stand, power-up attempts, the flush and its fault mask, the wait for MOORED, the cause the
next cold start reports, whether 12V_MAIN fell while HALTED, the board temperatures at inlet and outlet in °C (R14), and
the controller junction temperatures of the 12 sensors that have been read (R612). -/
structure Pwr where
  state : Nat := 1
  mainOk : Bool := false
  auxOk : Bool := false
  gated : Bool := true
  gateCause : Nat := 0
  gateFn : Nat := 0
  onBank : Bool := false
  cls : Nat := 0
  slotLimit : Nat := 0
  vres : Nat := 0
  cm : Nat := 0
  esr : Nat := 0
  testResult : Nat := 0
  testRunning : Bool := false
  testDue : Bool := false
  monitorFault : Bool := false
  vresFault : Bool := false
  rails : Kv Rail := []
  domains : Kv Nat := [(95, 2)]
  domFailed : List Nat := []
  first : Option (Nat × Nat × Nat × Nat) := none
  uptimeNs : Nat := 0
  pfSeq : Nat := 0
  saveSlot : Nat := 0
  offReq : Bool := false
  attempts : Nat := 0
  flush : Option Flush := none
  faultMask : Nat := 0
  lastReqNs : Nat := 0
  onCause : Nat := 0
  mainFell : Bool := false
  mooring : Bool := false
  inlet : Int := 0
  junctions : Kv Int := []
  outlet : Int := 0
deriving DecidableEq, Repr

/-- R554-R573. Start-up: CAUSE, CLEAN, STEP and DURATION_MS of TOP_START_STAT, Memory_Active, whether CXL.mem is
disabled, whether the mailbox service runs, hardware replacement, the qualified inputs, whether the error state
lost dirty data (R344), cold starts since manufacture, the first FN of the last one (R518), and the write bandwidth CDAT
publishes in MB/s (R259). -/
structure Start where
  cause : Nat := 0
  clean : Bool := false
  step : Nat := 0
  durationMs : Nat := 0
  memActive : Bool := false
  disabled : Bool := false
  mboxReady : Bool := false
  hwReplace : Bool := false
  perst : List Nat := [0, 1]
  pwrdis : Bool := false
  prsntHigh : Bool := false
  clkreqFault : Bool := false
  ferryPres : Bool := false
  errorLost : Bool := false
  coldStarts : Nat := 0
  firstFn : Nat := 0
  cdatWrite : Nat := 0
deriving DecidableEq, Repr

/-- R213, R234, R472, R537, R548, R561–R564. What survives in the internal area and on media when the power goes: the FN, translation
state, MCH tables, repeat guards, rebuilds, poison list, engine positions, and
the stripes whose writes the loss interrupted, and the step a flush had reached. -/
structure Nv where
  fn : Nat := 0
  xl : Xl := {}
  mchs : Kv Mch := []
  rebuilds : List Rebuild := []
  degraded : List (Nat × Nat) := []
  lost : List Nat := []
  list : List PoisonRec := []
  overflow : Bool := false
  overflowAt : Nat := 0
  sweepPos : Kv Nat := []
  logicalPos : Kv Nat := []
  logicalStart : Kv Nat := []
  sweepStart : Kv Nat := []
  mediaPasses : Kv Nat := []
  guards : Kv Guard := []
  torn : List Nat := []
  flushStep : Nat := 0
deriving DecidableEq, Repr

/-! ### Host interface (12) -/

/-- R440. A committed HDM decoder: host base and size in 256 MiB units, interleave ways and granularity in bytes, DPA base
of its range in 256 MiB units (after skip), whether it is locked. -/
structure Hdm where
  base : Nat
  size : Nat
  ways : Nat
  gran : Nat
  dpa : Nat
  locked : Bool
deriving DecidableEq, Repr

/-- R457, R458, R459. A record held in a CXL event log: its handle, the related handle, the flag bits of bytes 17–19, the
timestamp, and its content. `kind` is 0 for a module record, whose content is its 32 bytes, 1 for a General Media Event record and
2 for a DRAM Event record, whose content is the DPA, and 3 for a Memory Module Event record, whose content is its type and the
health report. -/
structure LogEntry where
  handle : Nat
  related : Nat := 0
  flags : Nat := 0
  stamp : Nat := 0
  kind : Nat := 0
  bytes : List (BitVec 8)
deriving DecidableEq, Repr

/-- R459. One of a head's four logs: records oldest first, overflow flag with the dropped count and first and last
overflow timestamps, and whether its interrupt policy is MSI-X. -/
structure EventLog where
  entries : List LogEntry := []
  ovf : Bool := false
  dropped : Nat := 0
  firstOvf : Nat := 0
  lastOvf : Nat := 0
  msix : Bool := false
deriving DecidableEq, Repr

/-- R462. One CPMU counter of a head: the census event ID it counts, freeze, and its 48-bit value. -/
structure Cpmu where
  event : Nat := 0
  frozen : Bool := false
  count : Nat := 0
deriving DecidableEq, Repr

/-- R445. A request a head holds in its ingress buffer while it wakes from the low rate, with the time of its receipt. A read of
the commit page has its byte offset for an address. -/
structure HeldReq where
  tag : Nat
  hpa : Nat
  kind : ReqKind
  data : Sector
  be : BitVec 64
  poison : Bool
  recv : Nat
  page : Bool := false
deriving DecidableEq, Repr

/-- R435-R466. The host interface of one head: link rate, width, flit mode, L0p and SLOW; failed lanes and lane error
counts; the Moored state; wakes; event logs (0 Informational to 3 Fatal) and the next handle; decoders; CPMU; a DOE
object in progress; requests held while it wakes; an uncorrectable internal error in its RAS registers (R324); and whether the head is
in reset. -/
structure Hp where
  rate : Nat := 0
  width : Nat := 0
  flit : Nat := 0
  l0p : Bool := false
  slow : Bool := false
  formerRate : Nat := 0
  formerWidth : Nat := 0
  laneFail : BitVec 16 := 0
  laneCorr : Kv Nat := []
  laneAlign : Kv Nat := []
  moor : Nat := 0
  wakeCause : Nat := 0
  wakeUs : Nat := 0
  wakes : Nat := 0
  logs : Kv EventLog := []
  nextHandle : Nat := 1
  hdms : Kv Hdm := []
  cpmu : Kv Cpmu := []
  doeBusy : Bool := false
  held : List HeldReq := []
  rasInternal : Bool := false
  inReset : Bool := true
deriving DecidableEq, Repr

/-- R450. The programmable warning thresholds of Set Alert Config, the alerts enabled, and the level (0 none, 1 warning, 2
critical) of each alert, in the order of R450, when it was last looked at. -/
structure Alerts where
  enable : BitVec 5 := 0x1f
  life : Nat := 90
  overTemp : Int := 80
  underTemp : Int := 5
  volatileErr : Nat := 0x10000
  persistent : Nat := 0x100000
  levels : List Nat := []
deriving DecidableEq, Repr

/-- R447-R464. The mailbox service: the background command that runs (head, opcode, start FN), a Set Timestamp base
(value, FN), alerts, shutdown state and Dirty Shutdown Count, the firmware slots, the next offset of a transfer and whether its image is
being checked, the range and the records returned of a poison list, scan records returned, MCTP state, and the
command (path, opcode) that waits for a pair proposal. -/
structure Mbox where
  bg : Option (Nat × Nat × Nat) := none
  stamp : Option (Nat × Nat) := none
  alerts : Alerts := {}
  shutdown : BitVec 8 := 0
  dirtyCount : Nat := 0
  fwRunning : Nat := 0
  fwNext : Nat := 0
  fwTransfer : Option Nat := none
  fwCheck : Bool := false
  poisonNext : Option (Nat × Nat × Nat) := none
  scanNext : Nat := 0
  healthSeq : Nat := 0
  mctpBusy : Bool := false
  owed : Option (Master × Nat) := none
deriving DecidableEq, Repr

/-! ### Maintenance and the barge (13) -/

/-- R475-R488. MNT: activities waiting (1 SW to 12 ER as R488 numbers them) with the frame each began to wait;
backlog and R75; recalibration; the capacitor test's last start; refusals; retraining requests with whether a refusal was
recorded; a frequency change to run; ALT_REF_HIGH with no recalibration since; a Moored refresh wake in progress; and the sectors the barge moved this frame. -/
structure Mnt where
  waiting : Kv Nat := []
  backlog : Nat := 0
  r75 : Bool := false
  r75Due : Bool := false
  recalBusy : Bool := false
  recalResult : Nat := 0
  recalMch : Nat := 0
  recalDie : Nat := 0
  recalMask : Nat := 0
  recalDies : Nat := 0
  capStartUs : Nat := 0
  refused : Nat := 0
  retrain : List Nat := []
  retrainRefused : List Nat := []
  freqTarget : Option Nat := none
  altHigh : Bool := false
  refreshWake : Bool := false
  bargeNow : Nat := 0
deriving DecidableEq, Repr

/-- R481. A barge descriptor as fetched: its 64 B word and end mark. -/
structure Descriptor where
  word : BitVec 512
  endMark : Bool
  index : Nat
deriving DecidableEq, Repr

/-- R481-R489. One barge channel: descriptor and completion queues, TAIL and HEAD, STATE, halt status and index, the
running descriptor, progress and phase, the last CRC result, OUT, writes still short of their R28 point, the flag 1 of R484,
whether the phase that runs has moved every sector, the CRC so far, and whether the descriptor runs for the peer (R396). -/
structure BargeCh where
  desc : Queue := {}
  comp : Queue := {}
  tail : Nat := 0
  head : Nat := 0
  state : Nat := 0
  haltStatus : Nat := 0
  haltIndex : Nat := 0
  cur : Option Descriptor := none
  sectors : Nat := 0
  phase : Bool := false
  crc : BitVec 64 := 0
  out : Bool := false
  outstanding : Nat := 0
  flag1 : Bool := false
  moved : Bool := false
  acc : BitVec 64 := 0
  peer : Bool := false
deriving DecidableEq, Repr

/-! ### Census and sampler (17) -/

/-- R592-R603. CEN: the bank published, VALID, GATHERING, SEQ, the two banks as bytes, the FN the running window began,
its bandwidth (port × 2 + direction, ports in table order) and beat classes (channel × 8 + class) with each channel's sum at the last
tick, the window latched at a tick, flags gathered for its header, the window exponent in force, a close in gathering, and the sampler's sequence and queue. -/
structure Cen where
  running : Bool := false
  k : Nat := 8
  published : Nat := 0
  valid : Bool := false
  gathering : Bool := false
  seq : Nat := 0
  closeFn : Nat := 0
  startFn : Nat := 0
  closeDue : Option Bool := none
  lateFrom : Option Nat := none
  banks : Kv (List Host.Cell) := []
  latched : List Host.Cell := []
  building : List Host.Cell := []
  bw : Kv Nat := []
  beats : Kv Nat := []
  beatsAt : Kv Nat := []
  mapChanged : Bool := false
  clsChanged : Bool := false
  flushSeen : Bool := false
  sampleSeq : Nat := 0
  samples : Queue := {}
deriving DecidableEq, Repr

/-! ### Keys and security (09) -/

/-- R308, R312-R317, slot window. One key slot: current and previous generation's PREV_LIVE, whether the pass runs (0 none,
1 rekey, 2 format), F0, the repaver boundary LPN, the FN of the last format (R378), and an id of the current and previous
key sets drawn (key material itself is not modelled: log entry 9); the key set drawn for an operation that has not reached
its F0, whether its pass has started, and the pages it rewrote or blanked. -/
structure KeySlot where
  cur : Nat := 1
  prevLive : Bool := false
  op : Nat := 0
  f0 : Nat := 0
  boundary : Nat := 0
  lastFormat : Nat := 0
  curKey : Nat := 0
  prevKey : Nat := 0
  newKey : Option Nat := none
  passing : Bool := false
  pages : Nat := 0
deriving DecidableEq, Repr

/-- R323. One IDE stream of a head: key sets programmed (K0, K1), the one started, insecure. -/
structure IdeStream where
  prog0 : Bool := false
  prog1 : Bool := false
  active : Option Bool := none
  insecure : Bool := false
deriving DecidableEq, Repr

/-- R328. The SPDM responder's view of one connection: the requests it has answered in order (VERSION, CAPABILITIES,
ALGORITHMS), and a handshake open: its session id, and whether it authenticates both ends. -/
structure SpdmConn where
  version : Bool := false
  caps : Bool := false
  algs : Bool := false
  handshake : Option (Nat × Bool) := none
deriving DecidableEq, Repr

/-- R328, R340. An SPDM session: id, connection path, whether mutually authenticated, Crypto Officer, key updates. -/
structure SpdmSession where
  id : Nat
  path : Nat
  mutualAuth : Bool
  co : Bool
  updates : Nat := 0
deriving DecidableEq, Repr

/-- R330-R334. The passphrase state: passphrases as values (they never appear in an output), attempts counted, limits,
frozen, locked. -/
structure Pass where
  user : Option (BitVec 256) := none
  master : Option (BitVec 256) := none
  attemptsUser : Nat := 0
  attemptsMaster : Nat := 0
  frozen : Bool := false
  locked : Bool := false
  salt : Nat := 0
  saltMaster : Nat := 0
deriving DecidableEq, Repr

/-- R299-R349. Crypto and security: key slots (64 is the internal set), the repaver queue (slot, whether a format), slots whose
requests are held, the pages whose blank crossing the repaver offers, the pages left of its batch of the frame (R475), the
epochs of the store wrapping key and of the DRAM cache key with its presence, IDE streams by (head × 4 + stream) × 2 + direction
(streams 0 cachemem, 1 link, 2 selective), engines that failed their tests (0–7 media, 8–9 IDE), DRBG with its calls since it was seeded (R327), error state, degraded
operation, self-test results, debug level, MAC failures, the key record's sequence, FN and slots, the ferry session with its
sequence counters, SPDM connections and sessions, the certificate chain of slot 1, passphrases, the erase service in progress (0
Sanitize, 1 Secure Erase, 2 Passphrase Secure Erase), and the service queues. -/
structure Sec where
  slots : Kv KeySlot := []
  queue : List (Nat × Bool) := []
  holdSlots : List Nat := []
  blank : List Nat := []
  batch : Nat := 0
  swkEpoch : Nat := 0
  cacheKey : Bool := false
  cacheKeyEpoch : Nat := 0
  ide : Kv IdeStream := []
  enginesBad : List Nat := []
  drbgOk : Bool := false
  drbgCalls : Nat := 0
  error : Bool := false
  degraded : Bool := false
  selftestDone : Bool := false
  selftestPass : Bool := false
  firstFail : Nat := 0
  debug : Nat := 0
  macFail : Nat := 0
  keyrecSeq : Nat := 0
  keyrecFn : Nat := 0
  recSlots : Kv KeySlot := []
  ferrySession : Bool := false
  ferryTx : Nat := 0
  ferryRx : Nat := 0
  ferryUpdates : Nat := 0
  conns : Kv SpdmConn := []
  sessions : List SpdmSession := []
  nextSession : Nat := 1
  certSlot1 : List (BitVec 8) := []
  pass : Pass := {}
  erase : Option Nat := none
  reqQ : Queue := {}
  respQ : Queue := {}
deriving DecidableEq, Repr

/-! ### The pair (10) -/

/-- R365. The pair states, in the order of FRY_STATE.PSTATE. -/
inductive PState where
  | unpaired | joining | joined | resyncing | splitLead | stranded
deriving DecidableEq, Repr

/-- The role of a pair member, in the order of FRY_STATE.ROLE. -/
inductive Role where
  | none | lead | follower
deriving DecidableEq, Repr

/-- R370. A MIRROR_WRITE in the lead's send queue or awaiting its ack: index, LPN, first sector, its 1 to 4 sectors with
poison, the FN and last cycle of their acceptance, whether it was sent, whether it is on-mirror, and the completions that wait for its ack, each with
whether its R28 point on this module has passed (at a commit or not). -/
structure MirrorWrite where
  widx : Nat
  lpn : Nat
  sector : Nat
  data : List (Sector × Bool)
  fn : Nat
  cyc : Nat
  sent : Bool := false
  onMirror : Bool := false
  waits : List (HostReq × Option Bool) := []
deriving DecidableEq, Repr

/-- R386. A role record copy. -/
structure RoleRec where
  seq : Nat
  token : Nat
  session : Nat
  fn : Nat
  role : Nat
  clean : Bool
  full : Bool
  suspect : Bool
  widx : Nat
  peer : Nat
  pairFn : Nat
deriving DecidableEq, Repr

/-- R394. A mirrored change: kind (1 region attributes, 2 rekey, 3 format), id, target FN, region or slot, attribute value,
and stage of FRY_AT_FN. -/
structure AtFn where
  change : Nat
  id : Nat
  target : Nat
  subject : Nat
  value : Nat := 0
  stage : Nat
deriving DecidableEq, Repr

/-- R376, R389. What the peer's FENCE of the join said: CLEAN, FULL_RESYNC, BITMAP, SUSPECT, session ID, last write index,
and the peer serial number it has on record. -/
structure PeerFence where
  clean : Bool
  full : Bool
  bitmap : Bool
  suspect : Bool
  session : Nat
  widx : Nat
  names : Nat
deriving DecidableEq, Repr

/-- R396. A mirrored barge launch of one channel: change id, launch FN, write index, descriptor, stage (1 proposed, 2 acked, 3
launched), done here, done on the peer, the destination DPA and length in sectors, and whether this module leads it. -/
structure BargeAtFn where
  id : Nat
  desc : Descriptor
  mine : Bool
  launch : Nat
  widx : Nat
  stage : Nat
  doneHere : Bool := false
  donePeer : Bool := false
  dst : Nat := 0
  len : Nat := 0
deriving DecidableEq, Repr

/-- R390, R393. A page whose content is being taken for the peer: whether as the answer to its request, and the sectors the cache and
the landing entries held when the operation began. -/
structure PageTake where
  lpn : Nat
  answer : Bool
  present : List (Option (Sector × Bool))
deriving DecidableEq, Repr

/-- R350-R398. FRY. The pair state and role; link rate (0 down, 1 low, 2 high) and width; the stored token, the last
token of the peer and the session ID; delay D in ps and the ns at which the peer was last heard. Write stream: last index
sent (lead) or applied (follower), acked, and the next one; messages held or un-acked; writes admitted this frame; sectors
of an index still to apply and to become durable here. Link: SEQ of the last flit accepted, sent and acknowledged, resends
of one flit, tag failures in a row, since when the replay buffer is full, credits, and credits to return. Join: the step of
R375, the states before it, the peer's serial number on record and in the join, whether the region tables agree, its FENCE, whether this module
demoted in it, the tick and FN of the FN step, and the resync kind. Resync: the bitmap as pages and
as spans of pages (first, end), whether it stands for every mirrored page from the cursor on, its clearing; on a follower the merged bitmap, whether it is whole, and the pages fetched, being
fetched, and not durable yet; pages sent, those of this frame, start, whether the merged bitmap went out, the pages the
follower named with the first of them, and kind 4 received. Suspect pages; detached and attached by command; handover
(start ns; FN of HANDOVER) and resignation (start ns; by PAIR_DETACH); a role taken at the next tick with its record; changes at a stated FN; the peer's last STATE; role record; refused writes; bell. -/
structure Fry where
  pstate : PState := .unpaired
  role : Role := .none
  rate : Nat := 0
  width : Nat := 0
  token : Nat := 0
  peerToken : Nat := 0
  session : Nat := 0
  delay : Nat := 0
  heardNs : Nat := 0
  widxSent : Nat := 0
  widxAcked : Nat := 0
  widxNext : Nat := 1
  sendQ : List MirrorWrite := []
  admitted : Nat := 0
  applyBy : Kv (List Nat) := []
  durableBy : Kv (List Nat) := []
  rxSeq : Nat := 0
  txSeq : Nat := 0
  ackSeq : Nat := 0
  resends : Nat := 0
  tagFails : Nat := 0
  replayFullAt : Option Nat := none
  wcred : Nat := 0
  pcred : Nat := 0
  wcredOwed : Nat := 0
  pcredOwed : Nat := 0
  joinStep : Nat := 0
  before : Option (PState × Role) := none
  peerSerial : Nat := 0
  joinSerial : Nat := 0
  tablesOk : Bool := false
  peerFence : Option PeerFence := none
  joinFn : Option (Nat × Nat) := none
  joinKind : Nat := 0
  bitmap : List Nat := []
  spans : List (Nat × Nat) := []
  bitmapAll : Bool := false
  clearing : Bool := false
  merged : List Nat := []
  mergedAll : Bool := false
  mergedHere : Bool := false
  fetching : List Nat := []
  fetched : List Nat := []
  pageOwed : Kv (List Nat) := []
  resyncCursor : Nat := 0
  resyncSent : Nat := 0
  resyncNow : Nat := 0
  resyncStart : Nat := 0
  mergedSent : Bool := false
  diverged : Nat × Nat := (0, 0)
  doneSent : Bool := false
  doneRecv : Bool := false
  suspects : List Nat := []
  detached : Bool := false
  attachAsked : Bool := false
  handover : Option Nat := none
  handoverFn : Option Nat := none
  resign : Option (Nat × Bool) := none
  pendingRole : Option (PState × Role) := none
  pendingNote : Option (Nat × List (Nat × Nat)) := none
  atFn : Option AtFn := none
  atFnNext : Nat := 0
  syncs : List AtFn := []
  bargeAt : Kv BargeAtFn := []
  takes : List PageTake := []
  atFnShow : Nat × Nat × Nat × Bool := (0, 0, 0, false)
  peerMediaFn : Nat := 0
  peerPower : Nat := 0
  leftReported : Nat := 0
  moorAsked : Bool := false
  roleRec : Option RoleRec := none
  refusedNow : Kv (Nat × Nat) := []
  refused : Nat := 0
  replays : Nat := 0
  retrains : Nat := 0
  offset : Int := 0
  slewing : Bool := false
  tracking : Bool := false
  downRecorded : Bool := false
deriving DecidableEq, Repr

/-! ### Parameter and firmware store (14) -/

/-- R492, R493, R498. A write command of the parameter store that may not have been clocked in whole: when it begins in ns, its class, its
address, and the bytes it replaces. -/
structure StoreWrite where
  start : Nat
  cls : Nat
  addr : Nat
  old : List (BitVec 8)
deriving DecidableEq, Repr

/-- R491-R521. PST: the write commands that may still be under way, in the order of R498, the write protection level, the image in use and the other copy's validity and sequences, the windows
open, results, the ring position and wraps, and STORE_OK. -/
structure Pst where
  writing : List StoreWrite := []
  ok : Bool := false
  protect : Nat := 3
  imgInUse : Nat := 0
  otherValid : Bool := false
  calValid : Bool := false
  unconfigured : Bool := false
  imgSeq : Nat := 0
  imgSeqOther : Nat := 0
  imgOpen : Bool := false
  imgBusy : Bool := false
  imgResult : Nat := 0
  calOpen : Bool := false
  calSource : Nat := 0
  next : Nat := 0
  wraps : Nat := 0
  ringCount : Nat := 0
deriving DecidableEq, Repr

/-! ### Outputs -/

/-- What a command makes the block send: CXL.mem responses with the DevLoad level (R256), the value of a register or queue read, the
Square's access error to a master inside the controller (R20, R347), mailbox, DOE and SPDM replies, MSI-X vectors, ferry messages. -/
inductive Output where
  | poisoned
  | accessError (m : Master)
  | memData (head : Nat) (tag : Nat) (data : Sector) (poison : Bool) (load : Nat)
  | ndr (head : Nat) (tag : Nat) (load : Nat)
  | value (data : BitVec 512)
  | reply (path : Nat) (code : Nat) (payload : List (BitVec 8))
  | msix (head : Nat) (vector : Nat)
  | ferry (bytes : List (BitVec 8))
  | decoder (head : Nat) (n : Nat) (committed : Bool)
  | gpf (head : Nat) (phase : Nat)
deriving DecidableEq, Repr

/-! ### The state -/

/-- The whole block. -/
structure State where
  /-- Commands that wait, first in first out. Reset: empty. -/
  pending : List Instr
  /-- What the command just run sent. The model's own: cleared by the next command. -/
  out : List Output
  /-- The model's own: how many free values have been drawn (log entry 2). -/
  draws : Nat
  /-- Event path and block counters (17). -/
  tele : Tele
  /-- Register file (02). -/
  regs : Regs
  /-- Timetable (03). -/
  tt : Tt
  /-- Translation (04). -/
  xl : Xl
  /-- Cache and landing buffers (05). -/
  cache : Cache
  /-- Media (06). -/
  media : Media
  /-- Heads, durability and bounds (07), by head. -/
  heads : Kv Head
  /-- Integrity (08). -/
  integ : Integrity
  /-- Crypto and security (09). -/
  sec : Sec
  /-- The pair (10). -/
  fry : Fry
  /-- DRAM controllers (11), by channel. -/
  drcs : Kv Drc
  /-- DRAM contents: address channel × 2^35 + channel-local address; unlisted bytes read as zero (R428). -/
  dram : List Host.Cell
  /-- Host interface of each head (12), by head. -/
  hps : Kv Hp
  /-- Mailbox service (12). -/
  mbox : Mbox
  /-- Maintenance (13). -/
  mnt : Mnt
  /-- Barge channels (13). -/
  barge : Kv BargeCh
  /-- Census and sampler (17). -/
  cen : Cen
  /-- Parameter store controller (14). -/
  pst : Pst
  /-- Parameter store contents, 2 MiB; unlisted bytes read as zero (R231). -/
  store : List Host.Cell
  /-- R519. Firmware store contents, 64 MiB; unlisted bytes read as zero. -/
  fwStore : List Host.Cell
  /-- Power (15). -/
  pwr : Pwr
  /-- Start-up and inputs (16). -/
  start : Start
  /-- R562, R564: what a start can read back from media and the internal area after the power went. -/
  nv : Nv
  /-- R548: the SRAM state as the last flush that got so far saved it. -/
  save : Option Nv
  /-- R537: what PWR copied into the retention store at MOORED entry. -/
  retained : Option (Regs × Kv Counter × Kv Mch)
deriving DecidableEq, Repr

/-- The block right after reset: every field at the reset value its rule gives, or at the value a log entry names. -/
def State.reset : State where
  pending := []
  out := []
  draws := 0
  tele := {}
  regs := {}
  tt := {}
  xl := {}
  cache := {}
  media := {}
  heads := []
  integ := {}
  sec := {}
  fry := {}
  drcs := []
  dram := []
  hps := []
  mbox := {}
  mnt := {}
  barge := []
  cen := {}
  pst := {}
  store := []
  fwStore := []
  pwr := {}
  start := {}
  nv := {}
  save := none
  retained := none

end Sys2Proof.Machine
end

