-- ==== Sys2Proof/Machine/Blocks.lean ====
section
/-!
DEFINITION. The 54 block instances as the spec numbers them: block index (R596), BLOCK_TYPE, instance, update group and
BAR2 page (R33), the power domain a block sits in (R15, R536), and whether the block is live.
-/
namespace Sys2Proof.Machine

/-- R596. Block index of TOP. -/
def bTop : Nat := 0
/-- R596. Block index of TT. -/
def bTt : Nat := 1
/-- R596. Block index of SQ. -/
def bSq : Nat := 2
/-- R596. Block index of HPh. -/
def bHp (h : Nat) : Nat := 3 + h
/-- R596. Block index of CSn. -/
def bCs (n : Nat) : Nat := 5 + n
/-- R596. Block index of XL. -/
def bXl : Nat := 21
/-- R596. Block index of MCHc. -/
def bMch (c : Nat) : Nat := 22 + c
/-- R596. Block index of DRCc. -/
def bDrc (c : Nat) : Nat := 40 + c
/-- R596. Block index of CRY. -/
def bCry : Nat := 44
/-- R596. Block index of SEC. -/
def bSec : Nat := 45
/-- R596. Block index of MNT. -/
def bMnt : Nat := 46
/-- R596. Block index of BRG. -/
def bBrg : Nat := 47
/-- R596. Block index of FRY. -/
def bFry : Nat := 48
/-- R596. Block index of EVQ. -/
def bEvq : Nat := 49
/-- R596. Block index of CEN. -/
def bCen : Nat := 50
/-- R596. Block index of PWR. -/
def bPwr : Nat := 51
/-- R596. Block index of PST. -/
def bPst : Nat := 52
/-- R596. Block index of MGT. -/
def bMgt : Nat := 53

/-- R33. BLOCK_TYPE of block index `b`; 0 past the last block. -/
def blkType (b : Nat) : Nat :=
  if b < 3 then b + 1
  else if b < 5 then 0x04
  else if b < 21 then 0x05
  else if b = 21 then 0x06
  else if b < 40 then 0x07
  else if b < 44 then 0x08
  else if b < 54 then b - 44 + 0x09
  else 0

/-- R43. INSTANCE of block index `b`. -/
def blkInst (b : Nat) : Nat :=
  if b < 3 then 0
  else if b < 5 then b - 3
  else if b < 21 then b - 5
  else if b = 21 then 0
  else if b < 40 then b - 22
  else if b < 44 then b - 40
  else 0

/-- R33. Update group of block index `b`. -/
def blkGroup (b : Nat) : Nat :=
  if b < 3 then b
  else if b < 22 then 3
  else if b < 40 then 4
  else if b < 44 then 5
  else b - 38

/-- R33. BAR2 offset of block index `b`, shifted right by 16. -/
def blkPage (b : Nat) : Nat :=
  if b < 5 then b
  else if b < 21 then 0x10 + (b - 5)
  else if b = 21 then 0x20
  else if b < 40 then 0x30 + (b - 22)
  else if b < 44 then 0x50 + (b - 40)
  else if b < 46 then 0x60 + (b - 44)
  else if b < 48 then 0x70 + (b - 46)
  else if b = 48 then 0x80
  else if b < 51 then 0x90 + (b - 49)
  else if b < 53 then 0xA0 + (b - 51)
  else 0xB0

/-- R33, R34. The block instance at BAR2 page `p`, if one lies there. -/
def blkAt (p : Nat) : Option Nat := (List.range 54).find? fun b => blkPage b == p

/-- R15, R536. The power domains of a block. Of the host PHY quads, 0 and 1 are listed with HP0 and 2 and 3 with HP1. -/
def blkDomains (b : Nat) : List Nat :=
  if b = bTop ∨ b = bEvq ∨ b = bPwr then [95]
  else if b = bTt ∨ b = bXl then [88]
  else if b = bSq then [89, 90, 91, 92]
  else if b < 5 then [64 + blkInst b, 60 + 2 * blkInst b, 61 + 2 * blkInst b]
  else if b < 21 then [44 + blkInst b]
  else if b < 40 then [blkInst b, 18 + blkInst b]
  else if b < 44 then [36 + blkInst b, 40 + blkInst b]
  else if b = bCry then [69, 70, 71, 72, 73, 74, 75, 76, 77, 78]
  else if b = bSec then [87]
  else if b = bMnt then [79, 80, 81]
  else if b = bBrg then [82]
  else if b = bFry then [66, 67, 68]
  else if b = bCen then [93]
  else if b = bPst then [94]
  else [83, 84, 85, 86]

/-- R15, R536. The domains that hold a block's registers: of a block with PHYs, not those (log entry 7). -/
def blkLogic (b : Nat) : List Nat :=
  if b = bFry then [67, 68]
  else if 3 ≤ b ∧ b < 5 ∨ 21 ≤ b ∧ b < 44 then (blkDomains b).take 1
  else blkDomains b

/-- R37, R585. Block `b` answers accesses and counts: one of the domains of its registers is On. -/
def State.live (s : State) (b : Nat) : Bool := (blkLogic b).any fun d => s.pwr.domains.getD d 0 == 2

/-! ### The Square (R18) -/

/-- R18. The quadrants in which a block has ports; of the DRAM, slices, channels and engines, by instance. -/
def blkQuads (b : Nat) : List Nat :=
  if b = bXl then [0, 1, 2, 3]
  else if b = bCry then [0, 1, 2, 3]
  else if b = bHp 0 ∨ b = bMgt ∨ b = bSec then [0]
  else if b = bMnt ∨ b = bCen then [1]
  else if b = bHp 1 ∨ b = bFry then [2]
  else if b = bBrg ∨ b = bEvq then [3]
  else if blkType b = 5 then [blkInst b / 4]
  else if blkType b = 8 then [blkInst b]
  else if blkType b = 7 then [if blkInst b < 5 then 0 else if blkInst b < 10 then 1 else if blkInst b < 14 then 2 else 3]
  else []

end Sys2Proof.Machine
end

