-- ==== Sys2Proof/Machine/Ops.lean ====
section
/-!
DEFINITION. The named operations every command shares: outputs, time, event records with their packing and holds,
block counters, the queue primitive, memory bytes, and the accessors of the instance tables.
-/
namespace Sys2Proof.Machine

/-- The outcome of a command: this block never faults. -/
abbrev Res := Host.Outcome State Fault Refusal

/-- A command begins with no output. -/
def State.begin (s : State) : State := { s with out := [] }

/-- R622. Note the latest value that goes with a tallied code. -/
def State.noteLast (s : State) (code src v : Nat) : State :=
  { s with tele := { s.tele with frameCounts := s.tele.frameCounts.set ((code * 512 + src) * 16 + 15) v } }

/-- Send one output. -/
def State.emit (s : State) (o : Output) : State := { s with out := s.out ++ [o] }

/-- Apply `f` when `c` holds. -/
def State.gate (s : State) (c : Bool) (f : State → State) : State := if c then f s else s

/-! ### Time (R5, R22, R63) -/

/-- The timetable cycle `cyc` of the frame is reached; time within a frame never goes back. -/
def State.at (s : State) (cyc : Nat) : State := { s with tt := { s.tt with cyc := max s.tt.cyc (min cyc 1023) } }

/-- R22. The slot of the frame. -/
def State.slot (s : State) : Nat := s.tt.cyc / 64

/-- The frame as time counts it: FN less the frames that FN steps skipped. -/
def State.frame (s : State) : Nat := s.tt.fn - s.tt.skip

/-- Absolute slot: frame × 16 + slot. -/
def State.now (s : State) : Nat := s.frame * 16 + s.tt.cyc / 64

/-- R5. Time in ns: a frame is 4,096 ns, a timetable cycle 4 ns. -/
def State.ns (s : State) : Nat := s.frame * 4096 + s.tt.cyc * 4

/-- R22. The cycle lies in the slot guard, cycles 60–63. -/
def State.inGuard (s : State) : Bool := decide (60 ≤ s.tt.cyc % 64)

/-- R107. The beat of cycle `c` of a slot: 0 to 5, or 7 in the guard. -/
def beatNow (c : Nat) : Nat := if c < 60 then c / 10 else 7

/-- R22. The beat that runs; 7 in the guard. -/
def State.curBeat (s : State) : Nat := beatNow (s.tt.cyc % 64)

/-! ### Saturating counts and bit helpers -/

/-- Add, holding at `cap`. -/
def satAdd (cap a b : Nat) : Nat := min cap (a + b)

/-- A 32-bit counter that saturates at 0xFFFF_FFFF. -/
def sat32 (a b : Nat) : Nat := satAdd 0xffffffff a b

/-- Bits `lo` to `lo + len - 1` of `w` as a number. -/
def bits {n : Nat} (w : BitVec n) (lo len : Nat) : Nat := (w.toNat >>> lo) % 2 ^ len

/-- A Bool as a number. -/
def b2n (b : Bool) : Nat := if b then 1 else 0

/-- `x` placed at bit `lo` in a field of `len` bits. -/
def fld (lo len x : Nat) : Nat := (x % 2 ^ len) <<< lo

/-- A signed number in `w` bytes of two's complement. -/
def signed (w : Nat) (x : Int) : Nat := (x % (256 ^ w : Nat)).toNat

/-- The number of set bits. -/
def popcount {n : Nat} (x : BitVec n) : Nat := (List.range n).countP fun i => x.getLsbD i

/-- The lowest set bit, if any. -/
def lowestBit {n : Nat} (x : BitVec n) : Option Nat := (List.range n).find? fun i => x.getLsbD i

/-- A mask of `n` bits with the bits of `l` set. -/
def maskOf (n : Nat) (l : List Nat) : BitVec n := l.foldl (fun m i => m ||| BitVec.ofNat n (2 ^ i)) 0

/-- 32-bit CRC-32C (reflected polynomial 0x82F63B78, initial value and final XOR all ones) of a byte list. -/
def crc32c (bs : List (BitVec 8)) : BitVec 32 :=
  let step (c : BitVec 32) : BitVec 32 := if c.getLsbD 0 then (c >>> 1) ^^^ 0x82f63b78#32 else c >>> 1
  (bs.foldl (fun c b => (List.range 8).foldl (fun x _ => step x) (c ^^^ b.setWidth 32)) 0xffffffff#32) ^^^ 0xffffffff#32

/-- The little-endian bytes of `x`, `w` of them. -/
def leBytes (w x : Nat) : List (BitVec 8) := (List.range w).map fun i => BitVec.ofNat 8 (x >>> (8 * i))

/-- The number that little-endian bytes spell. -/
def ofBytes (bs : List (BitVec 8)) : Nat := bs.foldr (fun b n => b.toNat + 256 * n) 0

/-! ### Records (R577–R581) -/

/-- An item of a code's Data column: its width in bytes and its value (R578). -/
abbrev Item := Nat × Nat

/-- R578. The numeric value of a severity. -/
def sevVal : Severity → Nat
  | .info => 0
  | .warning => 1
  | .error => 2
  | .fatal => 3

/-- R578, R579. Pack items into runs of 20 bytes, starting a new run at the first item that does not fit whole. `off` and
`acc` are the bytes and the value of the run so far. -/
def packItems : List Item → Nat → Nat → List (BitVec 160)
  | [], _, acc => [BitVec.ofNat 160 acc]
  | (w, v) :: t, off, acc =>
    if off + w ≤ 20 then packItems t (off + w) (acc + (v % 256 ^ w) * 256 ^ off)
    else BitVec.ofNat 160 acc :: packItems t w (v % 256 ^ w)

/-- R577, R579. The records of one occurrence: at most 4, the first without CONT. -/
def mkRecords (fn src code : Nat) (sev : Severity) (items : List Item) : List Record :=
  ((packItems items 0 0).take 4).mapIdx fun i d =>
    { fn := fn, source := src, code := code, severity := sev, cont := decide (0 < i), data := d }

/-- Records of source `src` in the hold, those of an occurrence being taken included. -/
def Evq.held (e : Evq) (src : Nat) : Nat :=
  (e.hold.flatten.countP fun r => r.source == src) + e.taking.countP fun r => r.source == src

/-- Severity value of an occurrence. -/
def occSev (o : List Record) : Nat := (o.head?.map fun r => sevVal r.severity).getD 0

/-- R581. Count `n` records of `src` as dropped from its hold. -/
def Evq.drop (e : Evq) (src n : Nat) : Evq :=
  { e with
    dropped := e.dropped.set src (satAdd 0xffffff (e.dropped.getD src 0) n)
    lost0 := sat32 e.lost0 n
    lostMark := if e.lostMark.contains src then e.lostMark else e.lostMark ++ [src]
    frameDropped := e.frameDropped + n
    frameSources := if e.frameSources.contains src then e.frameSources else e.frameSources ++ [src] }

/-- R581. Put a new occurrence into the hold of its source (4 records). While it does not fit, drop the oldest occurrence
of the lowest severity among the source's own and the new one. -/
def Evq.put : Nat → Evq → Nat → List Record → Evq
  | 0, e, src, o => e.drop src o.length
  | fuel + 1, e, src, o =>
    if e.held src + o.length ≤ 4 then { e with hold := e.hold ++ [o] }
    else
      let mine := e.hold.filter fun x => (x.head?.map fun r => r.source) == some src
      let low := mine.foldl (fun m x => min m (occSev x)) (occSev o)
      match mine.find? fun x => occSev x == low with
      | none => e.drop src o.length
      | some x => Evq.put fuel (Evq.drop { e with hold := e.hold.erase x } src x.length) src o

/-! ### Block counters (R585–R591) -/

/-- The eight counters of block `b` that count event `e`. -/
def Tele.counting (t : Tele) (b e : Nat) : List Nat :=
  ((List.range 8).map fun n => b * 8 + n).filter fun k =>
    let c := t.counters.getD k {}
    c.enable && c.event == e

/-- R590. Add `n` to one counter; it keeps the low 48 bits, and OVF becomes and stays 1 when it carries. -/
def Counter.add (c : Counter) (n : Nat) : Counter :=
  { c with count := (c.count + n) % 2 ^ 48, ovf := c.ovf || decide (2 ^ 48 ≤ c.count + n) }

/-- R585, R590. Count `n` occurrences of event `e` in block `b`, which is live, and record COUNTER_WRAP (source 373) for
each counter that wraps first. The record is itself an occurrence of event 0x004 of CEN (R626); `fuel` bounds that
chain, which each counter enters at most once. -/
def Tele.countAux (fn : Nat) (live : Nat → Bool) : Nat → Tele → Nat → Nat → Nat → Tele
  | 0, t, _, _, _ => t
  | fuel + 1, t, b, e, n =>
    if live b then
      let ks := t.counting b e
      let wraps := ks.filter fun k =>
        let c := t.counters.getD k {}
        !c.ovf && decide (2 ^ 48 ≤ c.count + n)
      let t1 : Tele := { t with counters := ks.foldl (fun m k => Kv.mod m k {} fun c => c.add n) t.counters }
      wraps.foldl (fun t k =>
        let o := mkRecords fn 373 0x1101 .info [(2, blkPage b), (1, k % 8), (2, e)]
        Tele.countAux fn live fuel { t with evq := Evq.put 8 t.evq 373 o } bCen 4 1) t1
    else t

/-- Count `n` occurrences of event `e` in block `b`. -/
def State.count (s : State) (b e n : Nat) : State :=
  { s with tele := Tele.countAux s.tt.fn s.live 10 s.tele b e n }

/-- Put the records of one occurrence into the hold and count event 0x004 in the block it arose in (R626). -/
def Tele.record (fn : Nat) (live : Nat → Bool) (t : Tele) (b : Nat) (o : List Record) : Tele :=
  let src := (o.head?.map fun r => r.source).getD 0
  Tele.countAux fn live 10 { t with evq := Evq.put 8 t.evq src o } b 4 o.length

/-- Record code `code` of source `src`, made in block `b`, with its items. -/
def State.record (s : State) (b src code : Nat) (sev : Severity) (items : List Item) : State :=
  { s with tele := Tele.record s.tt.fn s.live s.tele b (mkRecords s.tt.fn src code sev items) }

/-- R622. Note `n` occurrences of a code that is recorded once, at the tick that ends its frame, for `who` (below 16). -/
def State.tally (s : State) (code src who n : Nat) : State :=
  { s with tele := { s.tele with frameCounts := Kv.mod s.tele.frameCounts ((code * 512 + src) * 16 + who) 0 (· + n) } }

/-- R622. Record a code at its first occurrence of the frame for `who`, and not again in the frame. -/
def State.recordOnce (s : State) (who b src code : Nat) (sev : Severity) (items : List Item) : State :=
  let key := code * 65536 + who
  { s with tele :=
      if s.tele.frameOnce.contains key then s.tele
      else
        let t := Tele.record s.tt.fn s.live s.tele b (mkRecords s.tt.fn src code sev items)
        { t with frameOnce := key :: t.frameOnce } }

/-! ### The queue primitive (R54–R61) -/

/-- R54. Capacity in words. -/
def qCap : QueueId → Nat
  | .records => 4096
  | .samples => 4096
  | .descriptors _ => 256
  | .completions _ => 256
  | .secRequest => 256
  | .secResponse => 256

/-- R54, R489, R584, R601. Word size in bytes. -/
def qWord : QueueId → Nat
  | .records => 32
  | .samples => 32
  | .descriptors _ => 64
  | .completions _ => 16
  | .secRequest => 64
  | .secResponse => 64

/-- The owning block. -/
def qBlock : QueueId → Nat
  | .records => bEvq
  | .samples => bCen
  | .descriptors _ => bBrg
  | .completions _ => bBrg
  | .secRequest => bSec
  | .secResponse => bSec

/-- The queue index within its block, in the order of the queue bases (log entry 8). -/
def qIndex : QueueId → Nat
  | .records => 0
  | .samples => 0
  | .descriptors n => 2 * n.val
  | .completions n => 2 * n.val + 1
  | .secRequest => 0
  | .secResponse => 1

/-- R584, R601, R489, R301. A hardware block or SEC produces the words. -/
def qHwProducer : QueueId → Bool
  | .descriptors _ => false
  | .secRequest => false
  | _ => true

/-- R489, R301. A hardware block or SEC consumes the words. -/
def qHwConsumer : QueueId → Bool
  | .descriptors _ => true
  | .secRequest => true
  | _ => false

/-- R54, R56–R58. Push a word. The flag tells that the push was refused and set OVERRUN from 0. -/
def Queue.push (q : Queue) (cap : Nat) (w : BitVec 512) (fin : Bool) : Queue × Bool :=
  if q.discard then
    ({ q with discard := !fin, openPkt := !fin }, false)
  else if q.words.length < cap then
    ({ q with words := q.words ++ [{ word := w, endMark := fin }], openPkt := !fin }, false)
  else
    let closed : List QWord := match q.words.getLast? with
      | some l => if l.endMark then q.words else q.words.dropLast ++ [{ l with endMark := true, trunc := true }]
      | none => q.words
    ({ q with words := closed, overrun := true, discard := !fin, openPkt := !fin }, !q.overrun)

/-- R54, R265. Pop the head word; zeros and VALID = 0 from an empty queue, VALID = 0 for a word that fails its decode. -/
def Queue.pop (q : Queue) : Queue × BitVec 512 :=
  match q.words with
  | [] => ({ q with lastValid := false, lastEnd := false, lastTrunc := false }, 0)
  | w :: t => ({ q with words := t, lastValid := !w.bad, lastEnd := w.endMark, lastTrunc := w.trunc }, w.word)

/-- R60. Discard every stored word; DISCARD follows the producer's last word. -/
def Queue.flush (q : Queue) : Queue :=
  { q with words := [], overrun := false, discard := q.openPkt }

/-- R54. Q_PKTS.PACKETS. -/
def Queue.packets (q : Queue) : Nat := q.words.countP fun w => w.endMark

/-- Read a queue out of the state. -/
def State.getQ (s : State) : QueueId → Queue
  | .records => s.tele.evq.records
  | .samples => s.cen.samples
  | .descriptors n => (s.barge.getD n.val {}).desc
  | .completions n => (s.barge.getD n.val {}).comp
  | .secRequest => s.sec.reqQ
  | .secResponse => s.sec.respQ

/-- Put a queue back. -/
def State.setQ (s : State) (i : QueueId) (q : Queue) : State :=
  match i with
  | .records => { s with tele := { s.tele with evq := { s.tele.evq with records := q } } }
  | .samples => { s with cen := { s.cen with samples := q } }
  | .descriptors n => { s with barge := Kv.mod s.barge n.val {} fun c => { c with desc := q } }
  | .completions n => { s with barge := Kv.mod s.barge n.val {} fun c => { c with comp := q } }
  | .secRequest => { s with sec := { s.sec with reqQ := q } }
  | .secResponse => { s with sec := { s.sec with respQ := q } }

/-- Push a word through the queue's own port or a bus access, with the record of R56. -/
def State.pushQ (s : State) (i : QueueId) (w : BitVec 512) (fin : Bool) : State :=
  let r := (s.getQ i).push (qCap i) w fin
  let s1 := s.setQ i r.1
  s1.gate r.2 fun s => s.record (qBlock i) 381 0x0205 .warning
    [(2, blkPage (qBlock i)), (1, qIndex i), (4, (s.getQ i).words.length)]

/-! ### Memory (R231, R428) -/

/-- A byte memory: listed bytes in rising address order; an unlisted byte reads as zero. -/
abbrev Mem := List Host.Cell

/-- R231, R428. What an unlisted address reads as. -/
def Mem.blank : BitVec 8 := 0

/-- Read one byte. -/
def Mem.read : Mem → Nat → BitVec 8
  | [], _ => Mem.blank
  | (k, v) :: t, a => if k = a then v else Mem.read t a

/-- Write one byte, keeping the canonical form: a byte equal to what an unlisted address reads as is not listed. -/
def Mem.write : Mem → Nat → BitVec 8 → Mem
  | [], a, b => if b = Mem.blank then [] else [(a, b)]
  | (k, v) :: t, a, b =>
    if a < k then (if b = Mem.blank then (k, v) :: t else (a, b) :: (k, v) :: t)
    else if a = k then (if b = Mem.blank then t else (a, b) :: t)
    else (k, v) :: Mem.write t a b

/-- The addresses of a byte memory rise strictly, and no entry is blank. -/
def Mem.wf : Mem → Bool
  | [] => true
  | [(_, v)] => v != Mem.blank
  | (k, v) :: (k', v') :: t => v != Mem.blank && decide (k < k') && Mem.wf ((k', v') :: t)

/-- Write bytes from address `a` up. -/
def Mem.writes : Mem → Nat → List (BitVec 8) → Mem
  | m, _, [] => m
  | m, a, b :: t => Mem.writes (Mem.write m a b) (a + 1) t

/-- The `n` bytes from address `a` up. -/
def Mem.reads (m : Mem) (a n : Nat) : List (BitVec 8) := (List.range n).map fun i => Mem.read m (a + i)

/-- A 64 B sector at `a`, byte 0 lowest. -/
def Mem.sector (m : Mem) (a : Nat) : Sector := BitVec.ofNat 512 (ofBytes (Mem.reads m a 64))

/-- Write a 64 B sector. -/
def Mem.setSector (m : Mem) (a : Nat) (x : Sector) : Mem := Mem.writes m a (leBytes 64 x.toNat)

/-! ### Instance tables -/

/-- Slice `n`. -/
def State.cs (s : State) (n : Nat) : Slice := s.cache.slices.getD n {}
/-- Change slice `n`. -/
def State.modCs (s : State) (n : Nat) (f : Slice → Slice) : State :=
  { s with cache := { s.cache with slices := Kv.mod s.cache.slices n {} f } }
/-- Media channel `c`. -/
def State.mch (s : State) (c : Nat) : Mch := s.media.mchs.getD c {}
/-- Change media channel `c`. -/
def State.modMch (s : State) (c : Nat) (f : Mch → Mch) : State :=
  { s with media := { s.media with mchs := Kv.mod s.media.mchs c {} f } }
/-- Head `h`, durability side. -/
def State.head (s : State) (h : Nat) : Head := s.heads.getD h {}
/-- Change head `h`. -/
def State.modHead (s : State) (h : Nat) (f : Head → Head) : State := { s with heads := Kv.mod s.heads h {} f }
/-- Head `h`, host interface side. -/
def State.hp (s : State) (h : Nat) : Hp := s.hps.getD h {}
/-- Change head `h`'s host interface. -/
def State.modHp (s : State) (h : Nat) (f : Hp → Hp) : State := { s with hps := Kv.mod s.hps h {} f }
/-- DRAM controller `c`. -/
def State.drc (s : State) (c : Nat) : Drc := s.drcs.getD c {}
/-- Change DRAM controller `c`. -/
def State.modDrc (s : State) (c : Nat) (f : Drc → Drc) : State := { s with drcs := Kv.mod s.drcs c {} f }
/-- Subchannel `u` of DRAM controller `c`. -/
def State.sub (s : State) (c u : Nat) : DrcSub := (s.drc c).subs.getD u {}
/-- Change subchannel `u` of DRAM controller `c`. -/
def State.modSub (s : State) (c u : Nat) (f : DrcSub → DrcSub) : State :=
  s.modDrc c fun d => { d with subs := Kv.mod d.subs u {} f }
/-- Barge channel `n`. -/
def State.brg (s : State) (n : Nat) : BargeCh := s.barge.getD n {}
/-- Change barge channel `n`. -/
def State.modBrg (s : State) (n : Nat) (f : BargeCh → BargeCh) : State := { s with barge := Kv.mod s.barge n {} f }
/-- District `d`. -/
def State.district (s : State) (d : Nat) : District := s.xl.districts.getD d {}
/-- Change district `d`. -/
def State.modDistrict (s : State) (d : Nat) (f : District → District) : State :=
  { s with xl := { s.xl with districts := Kv.mod s.xl.districts d {} f } }
/-- Key slot `k`. -/
def State.keySlot (s : State) (k : Nat) : KeySlot := s.sec.slots.getD k {}
/-- Change key slot `k`. -/
def State.modKeySlot (s : State) (k : Nat) (f : KeySlot → KeySlot) : State :=
  { s with sec := { s.sec with slots := Kv.mod s.sec.slots k {} f } }

end Sys2Proof.Machine
end

