-- ==== Sys2Proof/Machine/RegMap.lean ====
section
/-!
DEFINITION. The writable and image-loaded registers of each block type (the register tables of the chapters, R43, R107,
R115, R140, R192, R232, R293, R433, R465, R488, R489, R521, R552, R573, R603): for each 32-bit word, which bits are RS,
RI, RP and WS, which RO bits the image loads (`img`), and its reset value. A word not listed has RO fields only; those are shown live.
-/
namespace Sys2Proof.Machine

/-- The access types of the bits of one register word (R10), and its reset value. -/
structure RegSpec where
  rs : Word := 0
  ri : Word := 0
  rp : Word := 0
  ws : Word := 0
  img : Word := 0
  rst : Word := 0
deriving DecidableEq, Repr

/-- Registers of TOP with fields that are written, by offset. -/
def regsTop (off : Nat) : RegSpec :=
  match off with
  | 0x100 => { ws := 0xffffffff#32 }  -- TOP_UPDATE
  | 0x110 => { ws := 0x7#32 }  -- TOP_PWR_REQ
  | 0x118 => { ws := 0x1#32 }  -- TOP_RESET
  | 0x11c => { ri := 0xffff#32, ws := 0x10000#32 }  -- TOP_SOFT_RESET
  | _ => {}

/-- Registers of TT with fields that are written, by offset. -/
def regsTt (off : Nat) : RegSpec :=
  match off with
  | 0x020 => { rs := 0x3#32 }  -- TT_MAP_SEL
  | 0x028 => { img := 0x7#32 }  -- TT_MAP_ALLOW
  | 0x044 => { ws := 0x3#32 }  -- TT_OSC_CTRL
  | _ => {}

/-- Registers of HP with fields that are written, by offset. -/
def regsHp (off : Nat) : RegSpec :=
  match off with
  | 0x010 => { img := 0xb#32 }  -- HP_CFG
  | 0x01c => { rs := 0xffff#32 }  -- HP_LANE_CFG
  | 0x400 => { img := 0xffffffff#32 }  -- REGn_MAP
  | 0x404 => { rs := 0x307#32, img := 0x3f0078#32 }  -- REGn_ATTR
  | 0x408 => { img := 0xf3f#32 }  -- REGn_ALLOW
  | _ => {}

/-- Registers of CS with fields that are written, by offset. -/
def regsCs (off : Nat) : RegSpec :=
  match off with
  | 0x014 => { img := 0x7#32 }  -- CS_LOCK_LIMIT
  | 0x020 => { rs := 0xff#32 }  -- CS_DESTAGE_MARK
  | 0x030 => { ri := 0x7ff#32 }  -- CS_WIN_SEL
  | 0x100 => { ri := 0xffffffff#32 }  -- CS_CMD_LPN
  | 0x104 => { ri := 0x1#32 }  -- CS_CMD_LPN
  | 0x108 => { ri := 0xffffffff#32 }  -- CS_CMD_COUNT
  | 0x10c => { ri := 0x1#32 }  -- CS_CMD_COUNT
  | 0x110 => { ri := 0x7#32, ws := 0x100#32 }  -- CS_CMD_CTRL
  | 0x400 => { img := 0xffffffff#32 }  -- REGn_MAP
  | 0x404 => { rs := 0x307#32, img := 0x3f0078#32 }  -- REGn_ATTR
  | 0x408 => { img := 0xf3f#32 }  -- REGn_ALLOW
  | _ => {}

/-- Registers of XL with fields that are written, by offset. -/
def regsXl (off : Nat) : RegSpec :=
  match off with
  | 0x034 => { ri := 0x17f#32 }  -- XL_WIN_SEL
  | 0x040 => { ri := 0xffffffff#32 }  -- XL_PROBE_DPA
  | 0x044 => { ri := 0x1fff#32 }  -- XL_PROBE_DPA
  | 0x400 => { img := 0xffffffff#32 }  -- REGn_MAP
  | 0x404 => { rs := 0x307#32, img := 0x3f0078#32 }  -- REGn_ATTR
  | 0x408 => { img := 0xf3f#32 }  -- REGn_ALLOW
  | _ => {}

/-- Registers of MCH with fields that are written, by offset. -/
def regsMch (off : Nat) : RegSpec :=
  match off with
  | 0x030 => { rs := 0xf#32 }  -- MCH_REF_TRIM
  | 0x034 => { rs := 0xffff#32 }  -- MCH_ALT_LIMIT
  | _ => {}

/-- Registers of DRC with fields that are written, by offset. -/
def regsDrc (off : Nat) : RegSpec :=
  match off with
  | 0x010 => { rp := 0xffff00#32, rst := 0xa1e00#32 }  -- DRC_CFG
  | 0x020 => { rp := 0xf#32, rst := 0x8#32 }  -- DRC_REF_CTRL
  | 0x030 => { rp := 0xffff#32, img := 0x10000#32 }  -- DRC_ACT_CTRL
  | 0x050 => { ri := 0x7f#32 }  -- DRC_WIN_SEL
  | 0x100 => { rp := 0x7ffffff#32, ws := 0x8000000#32 }  -- DRC_TRAIN_CTRL
  | 0x108 => { rp := 0x1fff7ff#32 }  -- DRC_TRAIN_STEP
  | 0x140 => { rp := 0xffffffff#32 }  -- DRC_TRAIN_PATn
  | _ => {}

/-- Registers of MNT with fields that are written, by offset. -/
def regsMnt (off : Nat) : RegSpec :=
  match off with
  | 0x020 => { rs := 0xf3fffff#32 }  -- MNT_SHARE
  | 0x024 => { rs := 0xffff#32 }  -- MNT_BACKLOG
  | 0x028 => { rs := 0x1fffff#32 }  -- MNT_RETRAIN_LIMIT
  | 0x100 => { rs := 0x1f0f0f#32 }  -- MNT_SWEEP_RATE
  | _ => {}

/-- Registers of BRG with fields that are written, by offset. -/
def regsBrg (off : Nat) : RegSpec :=
  match off with
  | 0x014 => { rs := 0x3f#32 }  -- BRG_RATE
  | 0x040 => { ri := 0xffff#32 }  -- BRG_CHn_DOORBELL
  | 0x048 => { ws := 0x1#32 }  -- BRG_CHn_CTRL
  | _ => {}

/-- Registers of FRY with fields that are written, by offset. -/
def regsFry (off : Nat) : RegSpec :=
  match off with
  | 0x010 => { img := 0xff07#32 }  -- FRY_CFG
  | 0x044 => { img := 0xff#32 }  -- FRY_RESYNC_RATE
  | _ => {}

/-- Registers of CEN with fields that are written, by offset. -/
def regsCen (off : Nat) : RegSpec :=
  match off with
  | 0x010 => { rs := 0x1f1f03#32 }  -- CEN_CTRL
  | _ => {}

/-- Registers of PWR with fields that are written, by offset. -/
def regsPwr (off : Nat) : RegSpec :=
  match off with
  | 0x010 => { img := 0x300#32 }  -- PWR_STAT
  | 0x014 => { rp := 0x3#32, img := 0x70#32 }  -- PWR_CLASS
  | 0x018 => { img := 0x1f#32 }  -- PWR_DIRTY
  | 0x01c => { rs := 0xffff#32 }  -- PWR_IDLE
  | _ => {}

/-- Registers of PST with fields that are written, by offset. -/
def regsPst (off : Nat) : RegSpec :=
  match off with
  | 0x020 => { ws := 0x3#32 }  -- PST_IMG_CTRL
  | 0x028 => { ws := 0x3#32 }  -- PST_CAL_CTRL
  | 0x030 => { ri := 0x3f#32 }  -- PST_WIN_SEL
  | 0x034 => { rs := 0x1#32 }  -- PST_LOG_CTRL
  | _ => {}

/-- R43, R54, R115, R433, R489. The offset of a repeated register is taken to that of its first instance. -/
def regNorm (ty off : Nat) : Nat :=
  if 0xf00 ≤ off ∧ off < 0xf80 then 0xf00 + off % 16
  else if (ty = 4 ∨ ty = 5 ∨ ty = 6) ∧ 0x400 ≤ off ∧ off < 0x800 then 0x400 + off % 16
  else if ty = 8 ∧ 0x140 ≤ off ∧ off < 0x180 then 0x140
  else if ty = 12 ∧ 0x40 ≤ off ∧ off < 0xc0 then 0x40 + off % 32
  else if ty = 12 ∧ 0x200 ≤ off ∧ off < 0x300 then 0x200 + off % 32
  else off

/-- The queue bases of a block type, with the word of Q_CTRL at + 0x0C (R54, R301, R602, R603, R489). -/
def isQCtrl (ty off : Nat) : Bool :=
  (ty == 10 && (off == 0x10c || off == 0x12c)) || ((ty == 14 || ty == 15) && off == 0x10c) ||
  (ty == 12 && off == 0x20c)

/-- The access types of the word at `off` of a block of type `ty`. -/
def regSpec (ty off : Nat) : RegSpec :=
  let o := regNorm ty off
  if o = 0xf00 then { rs := 0x83ff#32 }
  else if isQCtrl ty o then { ws := 1#32 }
  else
  match ty with
  | 1 => regsTop o
  | 2 => regsTt o
  | 4 => regsHp o
  | 5 => regsCs o
  | 6 => regsXl o
  | 7 => regsMch o
  | 8 => regsDrc o
  | 11 => regsMnt o
  | 12 => regsBrg o
  | 13 => regsFry o
  | 15 => regsCen o
  | 16 => regsPwr o
  | 17 => regsPst o
  | _ => {}

end Sys2Proof.Machine
end

