-- ==== Sys2Proof/Machine/Operands.lean ====
section
/-!
DEFINITION. Every operand form: register words and fields by block, the region table (R114–R119), HDM decode, the
translation chain from DPA to channel position, die, plane and row (R109–R134), and the cache placement (R143, R402).
-/
namespace Sys2Proof.Machine

/-! ### Register words -/

/-- BAR2 offset of the register at `off` of block `b`. -/
def regKey (b off : Nat) : Nat := blkPage b * 0x10000 + off

/-- R44, R107. The reset value of a stored register: the value the image gave it where it gave one. -/
def State.resetW (s : State) (b off : Nat) : Word := s.regs.image.getD (regKey b off) (regSpec (blkType b) off).rst

/-- The active word of a stored register (its reset value while nothing has written it). -/
def State.actW (s : State) (b off : Nat) : Word := s.regs.active.getD (regKey b off) (s.resetW b off)

/-- R41, R45. The shadow word: it equals the active word until a write differs. -/
def State.shdW (s : State) (b off : Nat) : Word := s.regs.shadow.getD (regKey b off) (s.actW b off)

/-- Field `lo`, `len` bits, of an active register word. -/
def State.regF (s : State) (b off lo len : Nat) : Nat := bits (s.actW b off) lo len

/-- Write an active register word. -/
def State.setW (s : State) (b off : Nat) (w : Word) : State :=
  { s with regs := { s.regs with active := s.regs.active.set (regKey b off) w } }

/-- Write a shadow register word. -/
def State.setS (s : State) (b off : Nat) (w : Word) : State :=
  { s with regs := { s.regs with shadow := s.regs.shadow.set (regKey b off) w } }

/-- Write active and shadow copies alike, as the configuration loader does (R116). -/
def State.load (s : State) (b off : Nat) (w : Word) : State := (s.setW b off w).setS b off w

/-! ### Regions (R114–R119) -/

/-- DPA of the commit window (R111). -/
def windowBase : Nat := 0x180000000000
/-- DPA of the commit page (R112). -/
def commitPage : Nat := 0x18000ffff000
/-- The DPA space ends here (R111). -/
def dpaEnd : Nat := 0x180010000000
/-- The number of user pages (R109). -/
def userPages : Nat := 6442450944

/-- A region entry as one block's copy holds it. -/
structure Region where
  base : Nat
  valid : Bool
  size : Nat
  head : Nat
  policy : Nat
  completion : Nat
  mirror : Bool
  protectedR : Bool
  lockOk : Bool
  bargeOk : Bool
  sweep : Nat
  keySlot : Nat
deriving DecidableEq, Repr

/-- R115. Region `n` of block `b`'s copy, active fields. -/
def State.region (s : State) (b n : Nat) : Region :=
  let m := s.actW b (0x400 + 0x10 * n)
  let a := s.actW b (0x404 + 0x10 * n)
  { base := bits m 0 15, valid := m.getLsbD 15, size := bits m 16 15, head := bits m 31 1
    policy := bits a 0 2, completion := bits a 2 1, mirror := a.getLsbD 3, protectedR := a.getLsbD 4
    lockOk := a.getLsbD 5, bargeOk := a.getLsbD 6, sweep := bits a 8 2, keySlot := bits a 16 6 }

/-- The region holds GiB `g`. -/
def Region.holds (r : Region) (g : Nat) : Bool := r.valid && decide (r.base ≤ g) && decide (g < r.base + r.size)

/-- R109 stage 3. The valid region of block `b`'s copy that holds a DPA. -/
def State.regionAt (s : State) (b dpa : Nat) : Option Nat :=
  (List.range 64).find? fun n => (s.region b n).holds (dpa / 2 ^ 30)

/-- R437. The 2 × x8 configuration is in force. -/
def State.dual (s : State) : Bool := (s.actW (bHp 0) 0x010).getLsbD 2

/-- R18. The quadrants of a block's ports: a lone head has a second one in Q2, in place of HP1's. -/
def State.quads (s : State) (b : Nat) : List Nat :=
  if s.dual then blkQuads b
  else if b = bHp 0 then [0, 2]
  else if b = bHp 1 then []
  else blkQuads b

/-- R18. A transfer between two blocks passes a link between quadrants: they have no quadrant in common. -/
def State.linked (s : State) (a b : Nat) : Bool := !(s.quads a).any fun q => (s.quads b).contains q

/-- R114. The head that owns a region. -/
def State.owner (s : State) (r : Region) : Nat := if s.dual then r.head else 0

/-- R118. The values REGn_ALLOW allows: field 0 POLICY, 1 COMPLETION, 2 SWEEP_CLASS. -/
def regAllows (allow : Word) (field v : Nat) : Bool :=
  match field with
  | 0 => allow.getLsbD v
  | 1 => allow.getLsbD (4 + v)
  | _ => allow.getLsbD (8 + v)

/-! ### Translation (R120–R134) -/

/-- R120. One round of the keyed bijection on halves (a, b) of 16 and 15 bits. -/
def mixRound (i : Nat) (p : BitVec 16 × BitVec 15) : BitVec 16 × BitVec 15 :=
  if i % 2 = 1 then (p.1, p.2 ^^^ (Config.mixF i p.1.toNat).setWidth 15)
  else (p.1 ^^^ Config.mixF i p.2.toNat, p.2)

/-- R120. The six rounds. -/
def mixAll (p : BitVec 16 × BitVec 15) : BitVec 16 × BitVec 15 :=
  mixRound 6 (mixRound 5 (mixRound 4 (mixRound 3 (mixRound 2 (mixRound 1 p)))))

/-- R120. The six rounds undone. -/
def unmixAll (p : BitVec 16 × BitVec 15) : BitVec 16 × BitVec 15 :=
  mixRound 1 (mixRound 2 (mixRound 3 (mixRound 4 (mixRound 5 (mixRound 6 p)))))

/-- R120. District and district page offset of an LPN. -/
def distOf (lpn : Nat) : Nat × Nat :=
  let m := lpn / 2 ^ 31
  let x := lpn % 2 ^ 31
  let p := mixAll (BitVec.ofNat 16 (x / 2 ^ 15), BitVec.ofNat 15 (x % 2 ^ 15))
  let y := p.1.toNat * 2 ^ 15 + p.2.toNat
  let t := y / 2 ^ 24
  (128 * ((m + (Config.mixG t).val) % 3) + t, y % 2 ^ 24)

/-- R120. The LPN of a district and offset. -/
def lpnOf (d o : Nat) : Nat :=
  let t := d % 128
  let m := (d / 128 + 3 - (Config.mixG t).val) % 3
  let y := t * 2 ^ 24 + o
  let p := unmixAll (BitVec.ofNat 16 (y / 2 ^ 15), BitVec.ofNat 15 (y % 2 ^ 15))
  m * 2 ^ 31 + (p.1.toNat * 2 ^ 15 + p.2.toNat)

/-- Pages per district (R122). -/
def distN : Nat := 16777216

/-- R122. The slot of district page offset `o`. -/
def District.slotOf (d : District) (o : Nat) : Nat :=
  let p := (o + d.start) % distN
  if d.gap ≤ p then p + 1 else p

/-- R122. The district page offset of the page in slot `p`, which is not the gap. -/
def District.offOf (d : District) (p : Nat) : Nat :=
  let q := if d.gap < p then p - 1 else p
  (q + distN - d.start) % distN

/-- R127. The PSN of slot `p` of district `d`. -/
def psnOf (d p : Nat) : Nat := d * 16777217 + p

/-- R132 step 1. The berth table entry that covers PSN `s`, if any, and the PSN it gives. -/
def State.berthMap (s : State) (psn : Nat) : Option Nat :=
  let b := psn / 512
  let entry := (s.xl.berths.find? fun e => decide (e.2.src ≤ b) && decide (b < e.2.src + e.2.len)).map fun e =>
    e.2.target + (b - e.2.src)
  let into (x : Nat) : Nat := x * 512 + psn % 512
  match s.xl.berth with
  | some (rb, tgt) => if rb = entry.getD b ∧ psn % 512 < s.xl.boundary then some (into tgt) else entry.map into
  | none => entry.map into

/-- R132 step 2. The stripe table entry whose source is the PSN. -/
def State.stripeMap (s : State) (psn : Nat) : Option Nat :=
  (s.xl.stripes.find? fun e => e.2.1 == psn).map fun e => e.2.2

/-- R132. PSN after remap. -/
def State.remap (s : State) (psn : Nat) : Nat :=
  let p := (s.berthMap psn).getD psn
  (s.stripeMap p).getD p

/-- R109 stages 4 to 7: PSN of an LPN with the active state. -/
def State.psnOfLpn (s : State) (lpn : Nat) : Nat :=
  let d := distOf lpn
  s.remap (psnOf d.1 ((s.district d.1).slotOf d.2))

/-- R126. The copy in flight that has a stripe in motion. -/
def State.moveOf (s : State) (psn : Nat) : Option Move := s.xl.moves.find? fun m => m.src == psn

/-- R126 item 1. The PSN a read of the page uses: the source until the target row may be read, then the target. -/
def State.readPsn (s : State) (lpn : Nat) : Nat :=
  let p := s.psnOfLpn lpn
  match s.moveOf p with
  | some m => match m.readableAt with
    | some t => if t ≤ s.now then m.dst else p
    | none => p
  | none => p

/-- R126 item 2. The PSN a crossing of the page writes: the target, once a read of the copy has been commanded. -/
def State.writePsn (s : State) (lpn : Nat) : Nat :=
  let p := s.psnOfLpn lpn
  match s.moveOf p with
  | some m => if m.started then m.dst else p
  | none => p

/-- R132. The PSN that the tables take to `psn`: the inverse of the remap. -/
def State.unmapped (s : State) (psn : Nat) : Nat :=
  let p1 := ((s.xl.stripes.find? fun e => e.2.2 == psn).map fun e => e.2.1).getD psn
  let b := match s.xl.berth with
    | some (rb, tgt) => if tgt = p1 / 512 then rb else p1 / 512
    | none => p1 / 512
  match s.xl.berths.find? fun e => decide (e.2.target ≤ b) && decide (b < e.2.target + e.2.len) with
  | some e => (e.2.src + (b - e.2.target)) * 512 + p1 % 512
  | none => b * 512 + p1 % 512

/-- R127, R132. The LPN of the page whose current place is PSN `psn`, if a page is there. -/
def State.lpnAt (s : State) (psn : Nat) : Option Nat :=
  let p2 := s.unmapped psn
  if p2 < 6442451328 then
    let d := p2 / 16777217
    let p := p2 % 16777217
    let l := lpnOf d ((s.district d).offOf p)
    if p = (s.district d).gap ∨ s.psnOfLpn l ≠ psn then none else some l
  else none

/-- R128. Die of a stripe. -/
def dieOf (psn : Nat) : Nat := psn % 8
/-- R128. Plane of a stripe. -/
def planeOf (psn : Nat) : Nat := psn / 8 % 4
/-- R128. Row of a stripe. -/
def rowOf (psn : Nat) : Nat := psn / 32
/-- R129. Channel position of the parity codeword. -/
def parityPos (psn : Nat) : Nat := psn % 17
/-- R129. Channel position of data block `j`. -/
def blockPos (psn j : Nat) : Nat := (psn % 17 + 1 + j) % 17
/-- R129. The data block at a position, or none for parity. -/
def posBlock (psn pos : Nat) : Option Nat :=
  if pos = psn % 17 then none else some ((pos + 17 - psn % 17 - 1) % 17)

/-- R130. Stripe lies in the internal area. -/
def isInternal (psn : Nat) : Bool := decide (6442451456 ≤ psn) && decide (psn < 6459228672)
/-- R130. Stripe lies in a margin. -/
def isMargin (psn : Nat) : Bool :=
  (decide (6442451328 ≤ psn) && decide (psn < 6442451456)) || decide (7375487488 ≤ psn)

/-- R232. Role of die `d` of channel `c` at reset: MCH0–16 serve their position, MCH17 is the spare. -/
def resetRole (c : Nat) : Nat := if c < 17 then c else 30

/-- R232. Role of die `d` of channel `c`. -/
def State.role (s : State) (c d : Nat) : Nat := (s.mch c).roles.getD d (resetRole c)

/-- R129, R215. The channel whose die `d` serves position `q`. -/
def State.chanOf (s : State) (d q : Nat) : Option Nat := (List.range 18).find? fun c => s.role c d == q

/-- The channel a position is assigned to: the one that serves it, or else the one whose die last held it (R140, R232). -/
def State.assigned (s : State) (d q : Nat) : Nat :=
  match s.chanOf d q with
  | some c => c
  | none =>
    match (List.range 18).reverse.find? fun c => (s.mch c).was.getD d 99 == q with
    | some c => c
    | none => q

/-- R206. A position is missing: no die serves it, or its die is a rebuild target that does not hold the stripe yet, or
the watch list of its channel marks it bad. -/
def State.missing (s : State) (psn q : Nat) : Bool :=
  match s.chanOf (dieOf psn) q with
  | none => true
  | some c =>
    ((s.mch c).rebuilding.contains (dieOf psn) && decide ((s.mch c).rebuild.getD (dieOf psn) 0 ≤ psn))
      || (s.mch c).watch.any fun w => w.psn == psn && w.bad

/-- The channels that serve the 17 positions of a stripe. -/
def State.stripeChans (s : State) (psn : Nat) : List Nat := (List.range 17).filterMap fun q => s.chanOf (dieOf psn) q

/-- R136. Home tag of the stripe that holds an LPN. -/
def State.homeTag (s : State) (lpn : Nat) : BitVec 16 :=
  let d := distOf lpn
  BitVec.ofNat 16 (d.2 % 4096 + (s.district d.1).start % 16 * 4096)

/-! ### Cache placement (R143–R145, R402) -/

/-- R143. One Feistel round on halves of 17 and 16 bits. -/
def placeRound (epoch i : Nat) (p : BitVec 17 × BitVec 16) : BitVec 17 × BitVec 16 :=
  if i % 2 = 1 then (p.1, p.2 ^^^ (Config.cacheMix epoch i p.1.toNat).setWidth 16)
  else (p.1 ^^^ Config.cacheMix epoch i p.2.toNat, p.2)

/-- R143. The keyed permutation H of a 33-bit LPN. -/
def placeH (epoch lpn : Nat) : Nat :=
  let p := placeRound epoch 4 (placeRound epoch 3 (placeRound epoch 2 (placeRound epoch 1
    (BitVec.ofNat 17 (lpn / 2 ^ 16), BitVec.ofNat 16 (lpn % 2 ^ 16)))))
  p.1.toNat * 2 ^ 16 + p.2.toNat

/-- R144. Sets in force. -/
def State.sets (s : State) : Nat := 983040 * s.cache.drams.length

/-- R143. The set of an LPN. -/
def State.setOf (s : State) (lpn : Nat) : Nat := placeH s.cache.keyEpoch lpn % s.sets
/-- R143. The tag of an LPN. -/
def State.tagOf (s : State) (lpn : Nat) : Nat := placeH s.cache.keyEpoch lpn / s.sets
/-- R143. The slice that owns a set. -/
def setSlice (set : Nat) : Nat := set % 16
/-- R143. The index of a set within its slice. -/
def setIndex (set : Nat) : Nat := set / 16
/-- R143. The DRAM channel of a set. -/
def State.setDram (s : State) (set : Nat) : Nat :=
  s.cache.drams.getD (setIndex set % s.cache.drams.length) 0

/-- R402. Page frame of way `w` of a set within its channel. -/
def State.frameOf (s : State) (set w : Nat) : Nat :=
  8 * (16 * (setIndex set / s.cache.drams.length) + setSlice set) + w

/-- R402. Channel-local address of sector `i` of way `w` of a set. -/
def State.sectorAddr (s : State) (set w i : Nat) : Nat := 4096 * s.frameOf set w + 64 * i

/-- R402. Channel-local address of the metadata line of way `w` of a set. -/
def State.metaAddr (s : State) (set w : Nat) : Nat := 0x780000000 + 64 * s.frameOf set w

/-- R404. The channel-local ranges: first address and size. -/
def dramRanges : List (Nat × Nat) :=
  [(0x000000000, 0x780000000), (0x780000000, 0x01e000000), (0x79e000000, 0x010000000), (0x7ae000000, 0x010000000),
   (0x7be000000, 0x010000000), (0x7ce000000, 0x001000000), (0x7cf000000, 0x031000000)]

/-- R405. The module DRAM address of channel-local address `x` of channel `c`: the base of its range, the shares of the channels before,
and the offset in its own share. With four channels a range begins at four times its channel-local address. -/
def dramAddr (c x : Nat) : Nat :=
  match dramRanges.find? fun r => decide (r.1 ≤ x) && decide (x < r.1 + r.2) with
  | some r => 4 * r.1 + c * r.2 + (x - r.1)
  | none => 4 * x + c

/-- R403. Subchannel of a channel-local address. -/
def subOf (x : Nat) : Nat := x / 4096 % 2
/-- R403. Bank (bank group × 4 + bank) of a channel-local address. -/
def bankOf (x : Nat) : Nat :=
  let p := x / 4096
  ((p / 2 % 8) ^^^ (p / 64 % 8)) * 4 + p / 16 % 4
/-- R403. Row of a channel-local address. -/
def dramRow (x : Nat) : Nat := x / 4096 / 64

/-- LPN of a DPA. -/
def lpnOfDpa (dpa : Nat) : Nat := dpa / 4096
/-- Sector of a DPA within its page. -/
def sectorOf (dpa : Nat) : Nat := dpa / 64 % 64

end Sys2Proof.Machine
end

