-- ==== Sys2Proof/Machine/Flags.lean ====
section
/-!
DEFINITION. Every computed bit and level: tag summaries (R146, R147), cache counts (R163, R167), the fault levels
(R43), the commit page's STATE and NOT_SFT (R239, R297), wear (R228), and the power figures (R542–R544).
-/
namespace Sys2Proof.Machine

/-! ### Tags and landing entries -/

/-- Bits 4j to 4j + 3 of a sector mask. -/
def blockBits (m : BitVec 64) (j : Nat) : BitVec 4 := (m >>> (4 * j)).setWidth 4

/-- R146. A block is mixed: valid in part, poisoned in part, or its valid sectors dirty in part. -/
def Way.mixed (w : Way) (j : Nat) : Bool :=
  let v := blockBits w.valid j
  let d := blockBits w.dirty j
  (v != 0 && v != 15) || blockBits w.poison j != 0 || (d != 0 && d != v)

/-- R146. BVALID bit j. -/
def Way.bvalid (w : Way) (j : Nat) : Bool := blockBits w.valid j == 15 && blockBits w.poison j == 0

/-- R146. BDIRTY bit j. -/
def Way.bdirty (w : Way) (j : Nat) : Bool := blockBits w.dirty j != 0

/-- R147. PARTIAL. -/
def Way.partialBit (w : Way) : Bool := (List.range 16).any w.mixed

/-- R148. A tag entry is free. -/
def Way.free (w : Way) : Bool := w.valid == 0 && w.poison == 0 && !w.lock

/-- R163. The page holds a dirty sector. -/
def Way.isDirty (w : Way) : Bool := w.dirty != 0

/-- A way as the tag store resets it: free, with AGE equal to its number (log entry 4). -/
def resetWay (w : Nat) : Way := { age := w }

/-- Way `w` of a set. -/
def State.way (s : State) (set w : Nat) : Way := s.cache.ways.getD (set * 8 + w) (resetWay w)

/-- The way of a set that holds an LPN. -/
def State.findWay (s : State) (lpn : Nat) : Option Nat :=
  let set := s.setOf lpn
  (List.range 8).find? fun w => (s.way set w).used && (s.way set w).lpn == lpn

/-- R190. The slice that serves a set: its own, or the serving slice of a removed one. -/
def State.sliceOf (s : State) (set : Nat) : Nat := (s.cs (setSlice set)).servedBy.getD (setSlice set)

/-- Landing entry `e` of slice `n`. -/
def State.entry (s : State) (n e : Nat) : Landing := s.cache.landing.getD (n * 512 + e) {}

/-- R168. The entry is not free. -/
def Landing.busy (l : Landing) : Bool := l.st != .free

/-- The landing entries of slice `n` that are not free, with their keys. -/
def State.landings (s : State) (n : Nat) : List (Nat × Landing) :=
  s.cache.landing.filter fun p => p.1 / 512 == n && p.2.busy

/-- The landing entries of an LPN that are not free, with their keys. -/
def State.landingsOf (s : State) (lpn : Nat) : List (Nat × Landing) :=
  s.cache.landing.filter fun p => p.2.busy && p.2.lpn == lpn

/-- The newest of some entries: the last to leave Free. -/
def newest (l : List (Nat × Landing)) : Option (Nat × Landing) :=
  l.foldl (fun m p => match m with
    | none => some p
    | some q => if q.2.ord < p.2.ord then some p else some q) none

/-- R167. Entries of slice `n` in use. -/
def State.landingUsed (s : State) (n : Nat) : Nat := (s.landings n).length
/-- R167. Of these, entries of the eviction pool. -/
def State.evictUsed (s : State) (n : Nat) : Nat := (s.landings n).countP fun p => p.2.evict

/-- R163. CS_DIRTY.PAGES: resident pages with a dirty sector, plus landing entries that are not free. -/
def State.dirtyPages (s : State) (n : Nat) : Nat :=
  (s.cache.ways.countP fun p => setSlice (p.1 / 8) == n && p.2.isDirty) + s.landingUsed n

/-- CS_LOCKED.PAGES. -/
def State.lockedPages (s : State) (n : Nat) : Nat :=
  s.cache.ways.countP fun p => setSlice (p.1 / 8) == n && p.2.lock

/-- The page is resident with a dirty sector. -/
def State.dirtyHere (s : State) (lpn : Nat) : Bool := (s.findWay lpn).any fun w => (s.way (s.setOf lpn) w).isDirty

/-- R237. A page that was dirty when gating began has still to commit: it is dirty yet, or an entry made since holds it. -/
def State.gateOwes (s : State) (n : Nat) : Bool :=
  (s.cs n).gateOwed.any fun l => s.dirtyHere l
    || (s.landingsOf l).any fun p => decide (s.cache.gateOrd ≤ p.2.ord) && p.2.st != .released

/-- R166. HOLD_DIRTY: the count stands at the share. -/
def State.holdDirty (s : State) (n : Nat) : Bool := decide ((s.cs n).share ≤ s.dirtyPages n)

/-- R188, R190, R427. The sets of slice and channel of this set are served uncached. -/
def State.uncached (s : State) (set : Nat) : Bool :=
  let c := s.setDram set
  (s.cs (setSlice set)).removed || s.cache.drainDrams.contains c || s.cache.uncachedDrams.contains c
    || s.cache.retrainDrams.contains c

/-- R186, R188. The set lies on a DRAM channel that has failed: what its ways held there is lost. -/
def State.lostSet (s : State) (set : Nat) : Bool := (s.drc (s.setDram set)).failed

/-- R26. A victim's move into the entry still runs: it takes at most 40 ns. -/
def State.moving (s : State) (l : Landing) : Bool := l.moving && decide (s.ns < l.moveNs + 40)

/-- R188. The whole cache drains toward another geometry, so every region acts as write-through. -/
def State.draining (s : State) : Bool := !s.cache.drainDrams.isEmpty

/-! ### Wear (R228, R229) -/

/-- R194, R128. Rows of plane `p` of die `d`: the last row exists only in plane 0 of dies 0–6. -/
def planeRows (d p : Nat) : Nat := if p = 0 ∧ d < 7 then 238609295 else 238609294

/-- R228. WEAR of a channel in parts per thousand. -/
def State.wear (s : State) (c : Nat) : Nat :=
  min 65535 ((List.range 32).foldl (fun m k =>
    max m (1000 * (s.mch c).planes.getD k 0 / (planeRows (k / 4) (k % 4) * 1250000))) 0)

/-- R228. LIFE_USED of a channel in percent. -/
def State.lifeUsed (s : State) (c : Nat) : Nat := min 100 (s.wear c / 10)

/-- R228. The module's life used: the largest of the channels whose dies serve a position. -/
def State.moduleLife (s : State) : Nat :=
  (List.range 18).foldl (fun m c =>
    if (List.range 8).any fun d => decide (s.role c d < 17) then max m (s.lifeUsed c) else m) 0

/-! ### Levels -/

/-- R104. The oscillator that is not the active reference counts as failed, while a reference is sound. -/
def Tt.standbyDown (t : Tt) : Bool :=
  match t.src with
  | .main => t.mainOk && !t.backupOk
  | .backup => t.backupOk && !t.mainOk

/-- R268, R297. The module is no longer single-fault tolerant. -/
def State.notSft (s : State) : Bool :=
  !s.media.degraded.isEmpty
    || ((List.range 4).any fun c => (List.range 2).any fun u =>
          (s.sub c u).erased.isSome && s.cache.drams.contains c
            && (decide (s.cache.drams.length < 4) || (!s.cache.drainDrams.isEmpty && !s.cache.drainDrams.contains c)))
    || !s.cache.uncachedDrams.isEmpty
    || ((List.range 16).any fun n => (s.cs n).removed)
    || s.tt.standbyDown
    || (s.fry.pstate == .splitLead || s.fry.pstate == .stranded)

/-- The module is a lead of a pair. -/
def State.isLead (s : State) : Bool := s.fry.role == .lead

/-- R365. The pair is joined (resyncing included). -/
def State.joined (s : State) : Bool := s.fry.pstate == .joined || s.fry.pstate == .resyncing

/-- R350. PAIR_CFG. -/
def State.pairCfg (s : State) : Bool := (s.actW bFry 0x010).getLsbD 0

/-- R239. STATE of the commit page served by head `h`, bits 16:0. -/
def State.commitState (s : State) (h : Nat) : Nat :=
  b2n s.pairCfg + 2 * b2n s.joined + 4 * b2n s.isLead + 8 * b2n (s.fry.pstate == .resyncing)
    + 16 * b2n s.pwr.gated + 32 * b2n s.notSft + 65536 * h

/-- R79, R85. Starts per slot and per frame, and host crossings per frame, of a class (3: hold-up flush). -/
def classCaps (c : Nat) : Nat × Nat × Nat :=
  match c with
  | 0 => (2, 17, 16)
  | 1 => (3, 33, 32)
  | 2 => (4, 49, 48)
  | _ => (3, 48, 48)

/-- R43. Current fault level of block `b`: the worst condition present. -/
def State.faultLevel (s : State) (b : Nat) : Nat :=
  if s.integ.failedBlocks.contains b then 3
  else if b = bTt then
    if s.tt.tickLost then 3
    else if s.tt.src == .backup || s.tt.overrunFault then 2
    else if s.tt.disagree || s.tt.standbyDown then 1
    else 0
  else if b = bXl then (if s.xl.full then 2 else if !s.xl.mismatch.isEmpty then 1 else 0)
  else if bHp 0 ≤ b ∧ b ≤ bHp 1 then (if s.tt.fn < (s.head (blkInst b)).faultUntil then 1 else 0)
  else if bCs 0 ≤ b ∧ b < bXl then (if (s.cs (blkInst b)).removed then 3 else 0)
  else if bMch 0 ≤ b ∧ b < bDrc 0 then (if (s.mch (blkInst b)).failed then 3 else 0)
  else if bDrc 0 ≤ b ∧ b < bCry then (if (s.drc (blkInst b)).failed then 3 else 0)
  else if b = bCry ∨ b = bSec then (if s.sec.error then 3 else if s.sec.degraded then 2 else 0)
  else if b = bFry then (if s.fry.slewing then 2 else 0)
  else if b = bPwr then
    (if (List.range 17).any fun r => decide (2 ≤ (s.pwr.rails.getD r {}).state) then 1 else 0)
  else if b = bPst then (if s.pst.ok then 0 else if s.start.step = 0 then 0 else 2)
  else 0

/-- R472. Media engines run: no flush, not Moored, and no error state (R344). -/
def State.enginesRun (s : State) : Bool := s.pwr.flush.isNone && s.pwr.state != 4 && !s.sec.error

/-! ### Energy (R542–R545) -/

/-- Integer square root of a number below 2^40, bit by bit. -/
def isqrt (n : Nat) : Nat :=
  (List.range 20).reverse.foldl (fun r i => if (r + 2 ^ i) * (r + 2 ^ i) ≤ n then r + 2 ^ i else r) 0

/-- R542. v_cut in mV: 6.00 V + 8.4 A × esr. -/
def vCut (esr : Nat) : Nat := 6000 + 84 * esr / 10

/-- R542. E_u in units of 10 mJ from C_m (mF), VRES and v_cut (mV): 0.5 × C × (V² − v_cut²). -/
def eUsable (cm vres esr : Nat) : Nat :=
  if vres ≤ vCut esr then 0 else cm * (vres * vres - vCut esr * vCut esr) / 20000000

/-- R542. v_floor in mV: the VRES at which 0.5 J is left. -/
def vFloor (cm esr : Nat) : Nat := isqrt (vCut esr * vCut esr + 1000000000 / max cm 1)

/-- R545. The dirty limit in GiB. -/
def State.limitGib (s : State) : Nat := let v := s.regF bPwr 0x018 0 5; if v = 0 then 1 else min v 26

/-- R543. E_req(L) in units of 10 mJ: 2.5 J + 1.12 J × L. -/
def eReq (l : Nat) : Nat := 250 + 112 * l

/-- R552. PWR_GATE.E_BEGIN, 1.10 × E_req. -/
def State.eBegin (s : State) : Nat := 110 * eReq s.limitGib / 100
/-- R552. PWR_GATE.E_LIFT, 1.25 × E_req. -/
def State.eLift (s : State) : Nat := 125 * eReq s.limitGib / 100
/-- R542. E_u now. -/
def State.eU (s : State) : Nat := eUsable s.pwr.cm s.pwr.vres s.pwr.esr

/-- R546. The last health test passed. -/
def State.testPassed (s : State) : Bool := s.pwr.testResult == 1

/-- R544. The first of the gating conditions that holds, 0 for none. -/
def State.gateCond (s : State) : Nat :=
  if s.eU < s.eBegin then 1
  else if decide (2 ≤ s.pwr.testResult) then 2
  else if s.pwr.monitorFault || s.pwr.vresFault then 3
  else 0

/-- R544. The lift condition. -/
def State.liftCond (s : State) : Bool :=
  decide (s.eLift ≤ s.eU) && s.testPassed && !s.pwr.monitorFault && !s.pwr.vresFault

end Sys2Proof.Machine
end

