-- ==== Sys2Proof/Machine/RegIf.lean ====
section
/-!
DEFINITION. The register interface (02): decoding of BAR2 offsets, the protection check of the Square (R20, R38, R347),
writes by access type and alias (R35, R41), posted writes (R50–R53), the region attribute check (R118), update groups
(R45–R49), and the commands of this chapter. Writes to fields that have a row of their own are carried out by that row's
command; the shared operation `regWrite` notes them as strobes for `Bus.lean`.
-/
namespace Sys2Proof.Machine

/-- R621. The master item. -/
def masterVal : Master → Nat
  | .hp0 => 0
  | .hp1 => 1
  | .mboxHp0 => 2
  | .mboxHp1 => 3
  | .mctp => 4
  | .spdm => 5
  | .debug => 6
  | .barge => 7
  | .mgtA => 8
  | .mgtB => 9
  | .sec => 10
  | .loader => 11
  | .hwBlock => 12

/-- R437, and R466's HP_CFG: HP1 presents BAR2 only in the 2 × x8 configuration with BAR2_HP1 set; every other master reaches the
window. -/
def State.bar2There (s : State) (m : Master) : Bool :=
  m != .hp1 || (s.dual && (s.actW (bHp 1) 0x010).getLsbD 3)

/-- The masters of host software (R38). -/
def isHost : Master → Bool
  | .hp0 => true
  | .hp1 => true
  | .mboxHp0 => true
  | .mboxHp1 => true
  | .mctp => true
  | .spdm => true
  | _ => false

/-- R20, R347. The masters inside the controller whose transfers the Square answers with an access error. -/
def isInner : Master → Bool
  | .debug => true
  | .barge => true
  | .mgtA => true
  | .mgtB => true
  | _ => false

/-- How a write acts on the bits it writes (R39). -/
inductive WriteMode where
  | plain | set | clear | toggle
deriving DecidableEq, Repr

/-- R41. New value of a word under a write mode. -/
def WriteMode.apply (m : WriteMode) (old v : Word) : Word :=
  match m with
  | .plain => v
  | .set => old ||| v
  | .clear => old &&& ~~~v
  | .toggle => old ^^^ v

/-- The bytes of an access: address, enable, value. -/
def accessBytes (off size : Nat) (be : BitVec 64) (v : BitVec 512) : List (Nat × Bool × Nat) :=
  (List.range (min size 64)).map fun i => (off + i, be.getLsbD i, bits v (8 * i) 8)

/-- The 32-bit words an access touches: word offset, enabled bytes, value. -/
def accessWords (off size : Nat) (be : BitVec 64) (v : BitVec 512) : List (Nat × Nat × Word) :=
  let bs := accessBytes off size be v
  let first := off / 4
  (List.range ((off % 4 + min size 64 + 3) / 4)).map fun k =>
    let w := (first + k) * 4
    let mine := bs.filter fun b => b.1 / 4 * 4 == w
    (w, mine.countP (fun b => b.2.1), BitVec.ofNat 32 (mine.foldl (fun n b => n + b.2.2 * 256 ^ (b.1 % 4)) 0))

/-- R35. Some 32-bit register the write touches has some, but not all, of its byte enables set. -/
def partialWrite (ws : List (Nat × Nat × Word)) : Bool := ws.any fun w => decide (0 < w.2.1) && decide (w.2.1 < 4)

/-- R38, R301, R347. The Square blocks this master's access to this offset of SEC: past SEC's common registers, and for
management pair A outside its two service queues. -/
def secBlocked (m : Master) (b off : Nat) : Bool :=
  b == bSec && !(decide (off % 0x1000 < 0xc ∧ off < 0x4000) || decide (0xf00 ≤ off % 0x1000 ∧ off % 0x1000 < 0xf80 ∧ off < 0x4000))
    && (match m with
        | .sec => false
        | .loader => false
        | .hwBlock => false
        | .mgtA => !(decide (0x4000 ≤ off ∧ off < 0x6000) || decide (0x100 ≤ off % 0x1000 ∧ off % 0x1000 < 0x140 ∧ off < 0x4000))
        | _ => true)

/-- R20, R347. A key register: the key window of CRY. -/
def keyBlocked (m : Master) (b off : Nat) : Bool :=
  b == bCry && decide (0x8000 ≤ off) && (match m with
    | .sec => false
    | _ => true)

/-- R347. Record PROTECT_BLOCK for a blocked access, once per frame for each master, with the target kind (0 a DPA of a
protected region, 1 DRAM cache data or metadata, 2 internal stripes, 3 the CRY key window, 4 SEC, 5 OTP) and its address. A master
inside the controller gets an access error. -/
def State.protectRecord (s : State) (m : Master) (kind addr : Nat) : State :=
  ((s.count bSq 0x42 1).recordOnce (masterVal m) bSq 296 0x0972 .error [(1, masterVal m), (1, kind), (6, addr)]).gate (isInner m)
    fun s => s.emit (.accessError m)

/-- R347. The target kind of a blocked register offset of block `b`. -/
def blockedKind (b : Nat) : Nat := if b = bCry then 3 else 4

/-- R37. Record BLOCK_OFF_ACCESS, once per frame for each block instance. -/
def State.offRecord (s : State) (m : Master) (b off kind : Nat) : State :=
  s.recordOnce b b 381 0x0204 .warning [(4, off), (1, kind), (1, masterVal m)]

/-- R118, R624. Record REGION_REFUSED for one field. -/
def State.regionRefused (s : State) (b n field v : Nat) : State :=
  s.record bXl 372 0x0401 .warning [(2, blkPage b), (1, n), (1, field), (1, v)]

/-- R41, R118. Write the RS bits of a word: the shadow copy, but a REGn_ATTR field keeps its shadow value where
REGn_ALLOW does not allow the new one. A write that leaves a field at the value its shadow copy holds is not refused for it (log entry
141). -/
def State.writeRs (s : State) (b off : Nat) (mode : WriteMode) (v rs : Word) : State :=
  let old := s.shdW b off
  let new := (old &&& ~~~rs) ||| (mode.apply old v &&& rs)
  let isAttr := (blkType b = 4 ∨ blkType b = 5 ∨ blkType b = 6) ∧ 0x400 ≤ off ∧ off < 0x800 ∧ off % 16 = 4
  if isAttr then
    let n := (off - 0x400) / 16
    let allow := s.actW b (0x408 + 0x10 * n)
    let fields : List (Nat × Nat × Nat) := [(0, 0, 2), (1, 2, 1), (2, 8, 2)]
    let bad := fields.filter fun f =>
      bits new f.2.1 f.2.2 != bits old f.2.1 f.2.2 && !regAllows allow f.1 (bits new f.2.1 f.2.2)
    let keep : Word := bad.foldl (fun m f => m ||| BitVec.ofNat 32 ((2 ^ f.2.2 - 1) <<< f.2.1)) 0
    bad.foldl (fun s f => s.regionRefused b n f.1 (bits new f.2.1 f.2.2))
      (s.setS b off ((new &&& ~~~keep) ||| (old &&& keep)))
  else if 0xf00 ≤ off ∧ off < 0xf80 then
    let k := b * 8 + (off - 0xf00) / 16
    let s1 := s.setS b off new
    { s1 with regs := { s1.regs with
        selWritten := if s1.regs.selWritten.contains k then s1.regs.selWritten else s1.regs.selWritten ++ [k] } }
  else if b = bTt ∧ off = 0x020 then
    let s1 := s.setS b off new
    { s1 with tt := { s1.tt with selected := true } }
  else s.setS b off new

/-- The registers that exist in this instance and accept this write now: CS_CMD_* only in CS0 (R192), training
registers of a DRC only in STATE 1 or 6 (R433). -/
def State.regWritable (s : State) (b off : Nat) : Bool :=
  !(blkType b == 5 && blkInst b != 0 && decide (0x100 ≤ off ∧ off < 0x130))
    && !(blkType b == 8 && decide (0x100 ≤ off ∧ off < 0x180) && (s.drc (blkInst b)).state != 1
          && (s.drc (blkInst b)).state != 6)

/-- R41. One word of a register write: RS bits to the shadow copy, RI bits at once. RP and WS bits are handled by the
caller. -/
def State.writeWord (s : State) (b : Nat) (mode : WriteMode) (off : Nat) (v : Word) : State :=
  let sp := regSpec (blkType b) off
  if s.regWritable b off then
    let s1 := if sp.rs != 0 then s.writeRs b off mode v sp.rs else s
    if sp.ri != 0 then
      let old := s1.actW b off
      s1.setW b off ((old &&& ~~~sp.ri) ||| (mode.apply old v &&& sp.ri))
    else s1
  else s

/-- R50. The words of a write that hold RP fields. -/
def State.rpWords (s : State) (b : Nat) (ws : List (Nat × Word)) : List (Nat × Word) :=
  ws.filter fun w => (regSpec (blkType b) w.1).rp != 0 && s.regWritable b w.1

/-- R51. An RP write reaches a block whose XBUSY is set, and is dropped. -/
def State.rpDropped (s : State) (b : Nat) (ws : List (Nat × Word)) : Bool := !(s.rpWords b ws).isEmpty && s.regs.posted.has b

/-- R50. The RP words of a write are one posted write of the block. -/
def State.postWords (s : State) (m : Master) (b : Nat) (mode : WriteMode) (ws : List (Nat × Word)) (off size : Nat)
    (value : BitVec 64) : State :=
  let rp := s.rpWords b ws
  if rp.isEmpty then s
  else
    let words := rp.map fun w =>
      let sp := regSpec (blkType b) w.1
      let old := s.actW b w.1
      (w.1, (old &&& ~~~sp.rp) ||| (mode.apply old w.2 &&& sp.rp))
    let p : Posted := { off := off, words := words, value := value, size := size, master := m }
    { s with regs := { s.regs with posted := s.regs.posted.set b p } }

/-- R10. The WS bits that a write sets to 1, by word offset: the actions it triggers. A clear or toggle alias triggers
none. -/
def strobes (b : Nat) (mode : WriteMode) (ws : List (Nat × Word)) : List (Nat × Word) :=
  match mode with
  | .plain | .set => (ws.map fun w => (w.1, w.2 &&& (regSpec (blkType b) w.1).ws)).filter fun w => w.2 != 0
  | _ => []

/-- R33–R41, R51. A write to registers or an alias: offset `off` of the whole window, from which `back` is taken to reach the
base registers. Answers the new state, and the block with the words to act on when the write took effect. PARTIAL_WRITE_IGNORED
gives its byte enables in eight bytes, whatever the size of the write (log entry 147). -/
def State.regWrite (s : State) (m : Master) (off size : Nat) (be : BitVec 64) (v : BitVec 512) (mode : WriteMode)
    (back : Nat) : State × Option (Nat × List (Nat × Word)) :=
  match blkAt (off / 0x10000) with
  | none => (s, none)
  | some b =>
    let o := off % 0x10000
    if o < back ∨ 0x1000 ≤ o - back ∨ s.bar2There m = false then (s, none)
    else if secBlocked m b o || keyBlocked m b o then (s.protectRecord m (blockedKind b) off, none)
    else if s.live b = false then (s.offRecord m b off 1, none)
    else
      let ws := accessWords (o - back) size be v
      if partialWrite ws then
        (s.record b 381 0x0203 .warning [(4, off), (8, be.toNat % 2 ^ size), (1, masterVal m)], none)
      else
        let full := (ws.filter fun w => w.2.1 == 4).map fun w => (w.1, w.2.2)
        if s.rpDropped b full then
          (s.record b 381 0x0201 .warning [(4, off), (if size ≤ 4 then 4 else 8, (v.setWidth 64).toNat), (1, masterVal m)], none)
        else
        let s1 := full.foldl (fun s w => s.writeWord b mode w.1 w.2) s
        let s2 := s1.postWords m b mode full off size (v.setWidth 64)
        (s2, some (b, full))

/-! ### Update groups (R45–R49) -/

/-- R45, R47, R48. Strobe groups; bits 16–31 name none. -/
def State.strobe (s : State) (mask : BitVec 32) : State :=
  { s with regs := { s.regs with pendingGroups := s.regs.pendingGroups ||| (mask &&& 0xffff#32) } }

/-- R49. The blocks of a group that take part in an activation. -/
def State.groupBlocks (s : State) (g : Nat) : List Nat :=
  (List.range 54).filter fun b => blkGroup b == g && s.live b

/-- R45, R46. Copy the shadow of every RS field of block `b` into its active copy. -/
def Regs.activate (r : Regs) (b : Nat) : Regs :=
  let lo := blkPage b * 0x10000
  let mine := r.shadow.filter fun p => decide (lo ≤ p.1) && decide (p.1 < lo + 0x10000)
  { r with
    active := mine.foldl (fun m p => m.set p.1 p.2) r.active
    shadow := r.shadow.filter fun p => !(decide (lo ≤ p.1) && decide (p.1 < lo + 0x10000)) }

/-- R591. Reprogram the counters of block `b` whose CNTn_SEL was written: the new selection, COUNT and OVF 0; an
increment of this cycle is lost, and counted in CNT_LOST when the old selection counts frame ticks or cycles or the new
one does. -/
def State.reprogram (s : State) (b : Nat) : State :=
  let ks := s.regs.selWritten.filter fun k => k / 8 == b
  let loses (k : Nat) : Bool :=
    let c := s.tele.counters.getD k {}
    let w := s.actW b (0xf00 + 16 * (k % 8))
    let tick (e : Nat) : Bool := e == 1 || e == 2
    (c.enable && tick c.event) || (w.getLsbD 15 && tick (bits w 0 10))
  { s with
    tele := { s.tele with counters := ks.foldl (fun m k =>
      let w := s.actW b (0xf00 + 16 * (k % 8))
      m.set k { event := bits w 0 10, enable := w.getLsbD 15 }) s.tele.counters }
    regs := { s.regs with
      selWritten := s.regs.selWritten.filter fun k => k / 8 != b
      cntLost := Kv.mod s.regs.cntLost b 0 fun n => satAdd 255 n (ks.countP loses) } }

/-- R45. Activate one block. -/
def State.activateBlock (s : State) (b : Nat) : State :=
  ({ s with regs := s.regs.activate b } : State).reprogram b

/-- R45–R49. At a tick, activate every strobed group. -/
def State.activateGroups (s : State) (fn : Nat) : State :=
  let gs := (List.range 16).filter fun g => s.regs.pendingGroups.getLsbD g
  if gs.isEmpty then s
  else
    let s1 := gs.foldl (fun s g => (s.groupBlocks g).foldl State.activateBlock s) s
    let s2 := s1.count bTop 0x40 gs.length
    { s2 with regs := { s2.regs with pendingGroups := 0, lastUpdateFn := fn } }

/-! ### Commands -/

/-- R50. POSTED_WRITE_ACCEPT: the local copy takes the value, XBUSY clears. -/
def execPostedWriteAccept (block : Nat) (s0 : State) : Res :=
  let s := s0.begin
  match s.regs.posted.get? block with
  | none => .next s
  | some p =>
    let s1 := p.words.foldl (fun s w => s.setW block w.1 w.2) s
    .next { s1 with regs := { s1.regs with posted := s1.regs.posted.erase block } }

/-- R53. POSTED_WRITE_TIMEOUT: the write is discarded, XBUSY clears, the timeout is recorded. -/
def execPostedWriteTimeout (block : Nat) (s0 : State) : Res :=
  let s := s0.begin
  match s.regs.posted.get? block with
  | none => .next s
  | some p =>
    let s1 := s.record block 381 0x0202 .error
      [(4, p.off), (if p.size ≤ 4 then 4 else 8, p.value.toNat), (1, masterVal p.master)]
    .next { s1 with regs := { s1.regs with posted := s1.regs.posted.erase block } }

/-- R45. GROUP_STROBE: a write of TOP_UPDATE. -/
def execGroupStrobe (_master : Master) (mask : BitVec 32) (s0 : State) : Res := .next (s0.begin.strobe mask)

/-- R54, R38, R301, R584. This master may push into the queue. -/
def mayPush (m : Master) (q : QueueId) : Bool :=
  match q with
  | .descriptors _ => true
  | .secRequest => decide (m = .mgtA)
  | _ => decide (m = .hwBlock) || (decide (m = .sec) && decide (q = .secResponse))

/-- R54, R301. This master may pop the queue. -/
def mayPop (m : Master) (q : QueueId) : Bool :=
  match q with
  | .descriptors _ => decide (m = .hwBlock)
  | .secRequest => decide (m = .sec)
  | .secResponse => decide (m = .mgtA)
  | _ => true

/-- R54, R301, R485, R579, R602. The window base W of a queue's access locations in its block. -/
def qWin : QueueId → Nat
  | .secRequest => 0x4000
  | .secResponse => 0x5000
  | .descriptors n => 0x4000 + 0x400 * n.val
  | .completions n => 0x6000 + 0x400 * n.val
  | .records => 0x8000
  | .samples => 0xc000

/-- R54. The offset of Q_CTRL of a queue in its block. -/
def qCtrl : QueueId → Nat
  | .secRequest => 0x10c
  | .secResponse => 0x12c
  | .descriptors n => 0x20c + 0x40 * n.val
  | .completions n => 0x22c + 0x40 * n.val
  | .records => 0x10c
  | .samples => 0x10c

/-- R37, R347. An access to a queue at an offset of its block is stopped: the Square blocks it, or the block is off. -/
def State.queueStop (s : State) (m : Master) (q : QueueId) (at' : Nat) : Option State :=
  let b := qBlock q
  let off := blkPage b * 0x10000 + at'
  if s.bar2There m = false then some s
  else if secBlocked m b at' then some (s.protectRecord m 4 off)
  else if s.live b = false then some (s.offRecord m b off (b2n (at' != qWin q + 0x200)))
  else none

/-- R54, R56–R59. Push one word; a word of another size, or from a master that may not push, has no effect. -/
def State.doPush (s : State) (m : Master) (q : QueueId) (word : BitVec 512) (size : Nat) (fin : Bool) : State :=
  match s.queueStop m q (qWin q + (if fin then 0x100 else 0)) with
  | some s' => s'
  | none =>
    if size = qWord q ∧ mayPush m q = true then s.pushQ q (BitVec.ofNat 512 (word.toNat % 256 ^ size)) fin else s

/-- R54. QPUSH. -/
def execQpush (m : Master) (q : QueueId) (word : BitVec 512) (size : Nat) (s : State) : Res :=
  .next (s.begin.doPush m q word size false)

/-- R54. QPUSH_END. -/
def execQpushEnd (m : Master) (q : QueueId) (word : BitVec 512) (size : Nat) (s : State) : Res :=
  .next (s.begin.doPush m q word size true)

/-- R54, R59, R265. QPOP: the head word and Q_LAST; zeros where the access does not match or may not pop; poisoned where
the word fails its decode. -/
def execQpop (m : Master) (q : QueueId) (size : Nat) (s0 : State) : Res :=
  let s := s0.begin
  match s.queueStop m q (qWin q + 0x200) with
  | some s' => .next (s'.emit (.value 0))
  | none =>
    if size = qWord q ∧ mayPop m q = true then
      let r := (s.getQ q).pop
      let bad := (s.getQ q).words.head?.any fun w => w.bad
      .next ((s.setQ q r.1).emit (if bad then .poisoned else .value r.2))
    else .next (s.emit (.value 0))

/-- R60, R485. QUEUE_FLUSH: every stored word is discarded; a descriptor queue's TAIL becomes HEAD. -/
def execQueueFlush (m : Master) (q : QueueId) (s0 : State) : Res :=
  let s := s0.begin
  match s.queueStop m q (qCtrl q) with
  | some s' => .next s'
  | none =>
    let s1 := s.setQ q (s.getQ q).flush
    match q with
    | .descriptors n => .next (s1.modBrg n.val fun c => { c with tail := c.head })
    | _ => .next s1

/-- R589. CNT_LOW_READ: the low half is returned, and the high half with OVF is latched. -/
def execCntLowRead (m : Master) (block n : Nat) (s0 : State) : Res :=
  let s := s0.begin
  if s.bar2There m = false then .next s
  else if s.live block = false then .next ((s.offRecord m block (regKey block (0xf08 + 16 * n)) 0).emit (.value 0))
  else
    let k := block * 8 + n % 8
    let c := s.tele.counters.getD k {}
    let high : Word := BitVec.ofNat 32 (c.count / 2 ^ 32 + b2n c.ovf * 2 ^ 31)
    .next (({ s with tele := { s.tele with counters := s.tele.counters.set k { c with latch := some high } } } : State).emit
      (.value (BitVec.ofNat 512 (c.count % 2 ^ 32))))

/-- R107. TT_FN_LO_READ: the low half of FN is returned and its high 16 bits are latched. -/
def execTtFnLoRead (m : Master) (s0 : State) : Res :=
  let s := s0.begin
  if s.bar2There m = false then .next s
  else if s.live bTt = false then .next ((s.offRecord m bTt (regKey bTt 0x010) 0).emit (.value 0))
  else
    .next (({ s with tt := { s.tt with fnLatch := BitVec.ofNat 16 (s.tt.fn / 2 ^ 32) } } : State).emit
      (.value (BitVec.ofNat 512 (s.tt.fn % 2 ^ 32))))

/-- R590. COUNTER_WRAP: an increment carries a block counter past 2^48 − 1. -/
def execCounterWrap (block n inc : Nat) (s0 : State) : Res :=
  let s := s0.begin
  let k := block * 8 + n % 8
  let c := s.tele.counters.getD k {}
  if s.live block = true ∧ c.enable = true ∧ 2 ^ 48 ≤ c.count + inc then
    let s1 : State := { s with tele := { s.tele with counters := s.tele.counters.set k (c.add inc) } }
    .next (s1.gate (!c.ovf) fun s => s.record bCen 373 0x1101 .info [(2, blkPage block), (1, n % 8), (2, c.event)])
  else .next s

end Sys2Proof.Machine
end

