-- ==== Sys2Proof/Machine/Crypto.lean ====
section
/-!
DEFINITION. Ciphers and tags (R302, R303, R319): the tweak and the tag of a media line, the encryption of DRAM sectors under the cache
key, and the bytes of a codeword (R197–R199). XTS-AES and AES-256 are named by their standards and stand as constants of Config; GHASH
is written out from SP 800-38D (log entries 9, 150).
-/
namespace Sys2Proof.Machine

/-! ### The tag of a media line (R303) -/

/-- R303. A 16-byte block as GHASH takes it: byte 0 is the most significant. -/
def beBlock (bs : List (BitVec 8)) : BitVec 128 := BitVec.ofNat 128 (bs.foldl (fun n b => n * 256 + b.toNat) 0)

/-- R303. Bytes `i` up to `i + 16` of a line as a block. -/
def lineBlock (d : BitVec 2048) (i : Nat) : BitVec 128 := beBlock (leBytes 16 ((d >>> (8 * i)).setWidth 128).toNat)

/-- R303. One step of the product in GF(2^128) of SP 800-38D: bit `i` of `x` from the left adds the running multiple of `y`. -/
def gfStep (x : BitVec 128) (zv : BitVec 128 × BitVec 128) (i : Nat) : BitVec 128 × BitVec 128 :=
  (if x.getMsbD i then zv.1 ^^^ zv.2 else zv.1,
   if zv.2.getLsbD 0 then (zv.2 >>> 1) ^^^ (0xe1#128 <<< 120) else zv.2 >>> 1)

/-- R303. The product in GF(2^128). -/
def gfMul (x y : BitVec 128) : BitVec 128 := ((List.range 128).foldl (gfStep x) (0, y)).1

/-- R303. GHASH of a list of blocks under `h`. -/
def ghash (h : BitVec 128) (bs : List (BitVec 128)) : BitVec 128 := bs.foldl (fun y b => gfMul (y ^^^ b) h) 0

/-- R303. The context block of a line: its address, generation, POISON and key slot. -/
def macContext (addr gen slot : Nat) (poison : BitVec 4) : BitVec 128 :=
  beBlock (leBytes 5 addr ++ leBytes 1 gen ++ leBytes 1 poison.toNat ++ leBytes 1 slot ++ leBytes 8 0)

/-- R303. The MAC of a line from its ciphertext, under a key set: address DPA[44:8], generation, key slot, POISON. -/
def lineMac (key addr gen slot : Nat) (poison : BitVec 4) (c : BitVec 2048) : BitVec 64 :=
  let h := Config.macAes key 0
  let len : BitVec 128 := 2176#128 <<< 64
  let x := ghash h ((List.range 16).map (fun i => lineBlock c (16 * i)) ++ [macContext addr gen slot poison, len])
  let t := Config.macAes key (x ^^^ (0x80#128 <<< 120))
  BitVec.ofNat 64 (ofBytes ((List.range 8).map fun i => (t >>> (120 - 8 * i)).setWidth 8))

/-! ### The encryption of a media line (R302) -/

/-- R302. The tweak of a line: its address DPA[44:8], generation and key slot. -/
def lineTweak (addr gen slot : Nat) : BitVec 128 :=
  BitVec.ofNat 128 (addr % 2 ^ 37 + 2 ^ 40 * (gen % 256) + 2 ^ 48 * (slot % 128))

/-- R302. A line encrypted under a key set. -/
def sealLine (key addr gen slot : Nat) (d : BitVec 2048) : BitVec 2048 := (Config.xtsLine key (lineTweak addr gen slot)).enc d

/-- R302. A ciphertext decrypted under a key set. -/
def openLine (key addr gen slot : Nat) (c : BitVec 2048) : BitVec 2048 := (Config.xtsLine key (lineTweak addr gen slot)).dec c

/-! ### The bytes of a codeword (R8, R197–R199) -/

/-- R198. FLAGS. -/
def Codeword.flags (w : Codeword) : BitVec 8 :=
  BitVec.ofNat 8 (w.poison.toNat + 16 * b2n w.parity + 32 * b2n w.internal)

/-- R8, R197. Bytes 0 to 267 of a codeword: DATA, HOME, GEN, FLAGS and MAC. -/
def Codeword.body (w : Codeword) : List (BitVec 8) :=
  leBytes 256 w.data.toNat ++ leBytes 2 w.home.toNat ++ leBytes 1 w.gen ++ [w.flags] ++ leBytes 8 w.mac.toNat

/-- R197, R199, R231. The 288 bytes of a codeword with its check bits, which are valid for what it holds; bits 159:156 of ECC are 0. -/
def Codeword.bytes (w : Codeword) : List (BitVec 8) := w.body ++ leBytes 20 (Config.bch w.body).toNat

/-! ### The DRAM cache key (R319, R320, R428) -/

/-- R319. The tweak of a DRAM sector: the channel, and its address in the channel shifted right by 6. -/
def dramTweak (c x : Nat) : BitVec 128 := BitVec.ofNat 128 (c % 4 + 4 * (x / 64 % 2 ^ 32))

/-- R319, R320. The cipher of a DRAM sector under the cache key in force; without a key nothing that is read is known. -/
def State.dramCipher (s : State) (c x : Nat) : Config.Cipher 512 :=
  Config.xtsSector (if s.sec.cacheKey then some s.sec.cacheKeyEpoch else none) (dramTweak c x)

/-- R428. What the devices hold of a sector. The model lists a sector by its difference from the encryption of zeros that the zero-fill
wrote under the key in force, so that a sector not listed is one not written since (log entry 151). -/
def State.dramRaw (s : State) (c x : Nat) : Sector := Mem.sector s.dram (dramAddr c x) ^^^ (s.dramCipher c x).enc 0

/-- R319. Read a sector of DRAM. -/
def State.dramLoad (s : State) (c x : Nat) : Sector := (s.dramCipher c x).dec (s.dramRaw c x)

/-- R319. Write a sector of DRAM. -/
def State.dramStore (s : State) (c x : Nat) (d : Sector) : State :=
  { s with dram := Mem.setSector s.dram (dramAddr c x) ((s.dramCipher c x).enc d ^^^ (s.dramCipher c x).enc 0) }

end Sys2Proof.Machine
end

