-- ==== Sys2Proof/Machine/Path.lean ====
section
/-!
DEFINITION. The operations the data path shares: the poison list (R278, R279), codewords and the checks of a read
(R200, R306, R309), completions with the bound monitor and the sampler (R257, R599), mirrored writes leaving the lead
(R369, R370), sectors in DRAM and in landing entries (R154, R168, R172), landing space (R167) and the dirty marks (R164,
R166).
-/
namespace Sys2Proof.Machine

/-! ### The CPMU of a head (R462, R588) -/

/-- R588. The census event ID of event `e` of a block. -/
def eventId (b e : Nat) : Nat := blkType b * 1024 + e

/-- R588. A head's CPMU accepts an event ID: of HP, for its own head, and of CS, for requests of that head. -/
def cpmuTakes (id : Nat) : Bool := id / 1024 == 4 || id / 1024 == 5

/-- R462, R588. This counter counts an event ID. -/
def Cpmu.counts (c : Cpmu) (id : Nat) : Bool := cpmuTakes id && !c.frozen && c.event == id

/-- R462. A counter after `n` more events. -/
def Cpmu.add (c : Cpmu) (n : Nat) : Cpmu := { c with count := (c.count + n) % 2 ^ 48 }

/-- R462, R588. The CPMU of head `h` counts `n` events of an ID; one that overflows raises vector 6. -/
def State.cpmuAdd (s : State) (h id n : Nat) : State :=
  let on := (s.hp h).cpmu.filter fun c => c.2.counts id
  s.gate (!on.isEmpty) fun s =>
    (s.modHp h fun p => { p with cpmu := p.cpmu.map fun c => (c.1, if c.2.counts id then c.2.add n else c.2) }).gate
      (on.any fun c => decide (2 ^ 48 ≤ c.2.count + n)) fun s => s.emit (.msix h 6)

/-- R587, R588. Count events of a head's block, in the block and in its CPMU. -/
def State.countHp (s : State) (h e n : Nat) : State := (s.count (bHp h) e n).cpmuAdd h (eventId (bHp h) e) n

/-- The head that sent a request, if one did. -/
def HostReq.head (r : HostReq) : Option Nat :=
  match r.origin with
  | .host h _ => some h.val
  | _ => none

/-- R587, R588. Count an event of a slice for a request, in the slice and in the CPMU of the request's head. -/
def State.countCs (s : State) (r : HostReq) (n e : Nat) : State :=
  let s1 := s.count (bCs n) e 1
  match r.head with
  | some h => s1.cpmuAdd h (eventId (bCs n) e) 1
  | none => s1

/-! ### Requests under way -/

/-- Change every request that waits or is under way, wherever it stands. -/
def State.mapReqs (s : State) (q : HostReq → HostReq) : State :=
  { s with
    cache := { s.cache with
      waiting := s.cache.waiting.map q
      landing := s.cache.landing.map fun l => (l.1, { l.2 with waiters := l.2.waiters.map q }) }
    media := { s.media with reads := s.media.reads.map fun m => { m with joined := m.joined.map q } }
    drcs := s.drcs.map fun d => (d.1, { d.2 with subs := d.2.subs.map fun u =>
      (u.1, { u.2 with readQ := u.2.readQ.map fun r => { r with req := q r.req } }) })
    fry := { s.fry with sendQ := s.fry.sendQ.map fun w => { w with waits := w.waits.map fun x => (q x.1, x.2) } } }

/-- R249. Set a cause bit on the requests of a kind. -/
def State.blame (s : State) (p : HostReq → Bool) (m : BitVec 8) : State :=
  s.mapReqs fun r => if p r then { r with causes := r.causes ||| m } else r

/-- R153. Block reads of a slice in flight. -/
def State.tracked (s : State) (n : Nat) : Nat :=
  s.media.reads.countP fun m => s.sliceOf (s.setOf m.lpn) == n && m.use == .fill

/-- R158. The byte-enable writes that are admitted and wait for their block, with its read. -/
def State.merging (s : State) : List (MediaRead × HostReq) :=
  s.media.reads.flatMap fun m => (m.joined.filter fun r => r.kind == .byteEnable).map fun r => (m, r)

/-- R158, R250. The other clean pages of slice `n` that an admitted byte-enable write will make dirty: each has its part of the dirty share
reserved. -/
def State.dirtyOwed (s : State) (n lpn : Nat) : Nat :=
  let clean (l : Nat) : Bool := (s.findWay l).any fun w => !(s.way (s.setOf l) w).isDirty
  let carried (r : HostReq) : Bool := s.cache.landing.any fun l => l.2.waiters.any fun w => w.id == r.id
  ((s.merging.filter fun p => p.1.lpn != lpn && s.sliceOf (s.setOf p.1.lpn) == n && clean p.1.lpn && !carried p.2).map
    fun p => p.1.lpn).eraseDups.length

/-- R166, R250. The dirty share of slice `n` has room for one page more: `lpn`, or an entry of it. -/
def State.dirtyRoom (s : State) (n lpn : Nat) : Bool := decide (s.dirtyPages n + s.dirtyOwed n lpn < (s.cs n).share)

/-- R158, R250. The sectors of subchannel `u` of a channel that admitted byte-enable writes will write, and no queued write holds: each has
a place in the write queue reserved. -/
def State.writesOwed (s : State) (c u : Nat) : List Nat :=
  let q := (s.sub c u).writeQ
  (s.merging.filterMap fun p =>
    let set := s.setOf p.1.lpn
    match s.findWay p.1.lpn with
    | some w =>
      let x := s.sectorAddr set w (sectorOf p.2.dpa)
      if s.setDram set = c ∧ subOf x = u ∧ (q.any fun y => y.1 == x) = false then some x else none
    | none => none).eraseDups

/-! ### Time stamps and the poison list -/

/-- The host's nanosecond timestamp: 0 until Set Timestamp (R448's table, log entry 12). -/
def State.stamp (s : State) : Nat :=
  match s.mbox.stamp with
  | some (v, f) => v + (s.frame - f) * 4096
  | none => 0

/-- The DPA a record covers. -/
def PoisonRec.covers (r : PoisonRec) (a : Nat) : Bool := decide (r.dpa ≤ a) && decide (a < r.dpa + 64 * r.len)

/-- Insert a record in DPA order. -/
def insertRec (r : PoisonRec) : List PoisonRec → List PoisonRec
  | [] => [r]
  | x :: t => if r.dpa < x.dpa then r :: x :: t else x :: insertRec r t

/-- R278. List one sector: unchanged when it is listed, else merged with the neighbours of its page and source. -/
def listSector (l : List PoisonRec) (a : Nat) (src : PoisonSource) : List PoisonRec :=
  if l.any fun r => r.covers a then l
  else
    let joins (r : PoisonRec) : Bool := r.source == src && r.dpa / 4096 == a / 4096
      && (r.dpa + 64 * r.len == a || r.dpa == a + 64)
    let mine := l.filter joins
    let first := mine.foldl (fun m r => min m r.dpa) a
    let len := mine.foldl (fun n r => n + r.len) 1
    insertRec { dpa := first, len := len, source := src } (l.filter fun r => !joins r)

/-- R278. Take one sector off the list: its record is shortened, removed or split. -/
def unlistSector (l : List PoisonRec) (a : Nat) : List PoisonRec :=
  match l.find? fun r => r.covers a with
  | none => l
  | some r =>
    let rest := l.filter fun x => !x.covers a
    let low := (a - r.dpa) / 64
    let high := r.len - low - 1
    let l1 := if low = 0 then rest else insertRec { r with len := low } rest
    if high = 0 then l1 else insertRec { r with dpa := a + 64, len := high } l1

/-- R279. Set the overflow condition, and record POISON_LIST_FULL when it becomes set. -/
def State.poisonOverflow (s : State) : State :=
  if s.integ.overflow then s
  else
    ({ s with integ := { s.integ with overflow := true, overflowAt := s.stamp } } : State).record bMgt 382 0x0842 .warning
      [(4, s.integ.list.length), (8, s.stamp)]

/-- R278, R279. A sector at a DPA was poisoned: it enters the list, or the list overflows. -/
def State.poisonOne (s : State) (src : PoisonSource) (a : Nat) : State :=
  let l := listSector s.integ.list a src
  if l.length ≤ 32768 then { s with integ := { s.integ with list := l } } else s.poisonOverflow

/-- R278. A sector at a DPA was cleared: it leaves the list; a split that finds no room keeps the lower part. -/
def State.clearOne (s : State) (a : Nat) : State :=
  let l := unlistSector s.integ.list a
  if l.length ≤ 32768 then { s with integ := { s.integ with list := l } }
  else
    ({ s with integ := { s.integ with list := l.filter fun r => r.dpa != a + 64 } } : State).poisonOverflow

/-- Put a number into its place by rising key. -/
def insertBy (f : Nat → Nat) (x : Nat) : List Nat → List Nat
  | [] => [x]
  | y :: t => if f x < f y then x :: y :: t else y :: insertBy f x t

/-- The numbers of the set bits of a mask. -/
def bitList (m : BitVec 64) : List Nat := (List.range 64).filter fun i => m.getLsbD i

/-- One bit of a sector mask. -/
def bit64 (i : Nat) : BitVec 64 := BitVec.ofNat 64 (2 ^ i)

/-- The four bits of a block, placed in a page's sector mask. -/
def blockMask (j : Nat) (p : BitVec 4) : BitVec 64 := p.setWidth 64 <<< (4 * j)

/-- R278. The sectors of a mask in a page were poisoned. -/
def State.poisonPage (s : State) (src : PoisonSource) (lpn : Nat) (m : BitVec 64) : State :=
  (bitList m).foldl (fun s i => s.poisonOne src (lpn * 4096 + 64 * i)) s

/-- R276. The sectors of a mask in a page were cleared. -/
def State.clearPage (s : State) (lpn : Nat) (m : BitVec 64) : State :=
  (bitList m).foldl (fun s i => s.clearOne (lpn * 4096 + 64 * i)) s

/-! ### Codewords (R197–R201, R302–R309) -/

/-- Where a codeword is kept: channel and PSN. -/
def cellKey (c psn : Nat) : Nat := c * 2 ^ 33 + psn

/-- R136, R231. The home tag of a factory blank: in a district slot that of the page the factory state puts there, in the internal area
the index; a spare stripe holds no page. -/
def factoryHome (psn : Nat) : BitVec 16 :=
  if psn < 6442451328 then BitVec.ofNat 16 (psn % 16777217 % 16777216 % 4096)
  else if isInternal psn then BitVec.ofNat 16 (psn - 6442451456)
  else 0

/-- R335, R337. The PSNs that a Sanitize writes blank: the internal area, and every stripe in use. Retired stripes, the old places
of retired berths and the margins are not written. -/
def State.blanked (s : State) (psn : Nat) : Bool :=
  if isInternal psn then true
  else if isMargin psn || (s.stripeMap psn).isSome || (s.berthMap psn).isSome then false
  else decide (psn < 6442451328) || (s.xl.stripes.any fun p => p.2.2 == psn)
    || s.xl.berths.any fun p => decide (p.2.target * 512 ≤ psn) && decide (psn < (p.2.target + p.2.len) * 512)

/-- R136. The home tag of a stripe that a Sanitize writes blank: that of the page the translation puts there; in the gap the one by which
R139 finds it (log entry 166). -/
def State.blankHome (s : State) (psn : Nat) : BitVec 16 :=
  let p := s.unmapped psn
  if p < 6442451328 then
    let d := s.district (p / 16777217)
    let q := p % 16777217
    let o := if q = d.gap then (q + distN - d.start) % distN else d.offOf q
    BitVec.ofNat 16 (o % 4096 + d.start % 16 * 4096)
  else factoryHome psn

/-- R136, R231, R335. The home tag of a stripe that was not written since the last Sanitize that wrote it blank, or since the factory. -/
def State.homeAt (s : State) (psn : Nat) : BitVec 16 :=
  match s.media.wiped.find? fun x => ({ s with xl := x } : State).blanked psn with
  | some x => ({ s with xl := x } : State).blankHome psn
  | none => factoryHome psn

/-- R231. The codeword channel `c` holds of stripe `psn`; a blank where none was written. -/
def State.cell (s : State) (c psn : Nat) : Codeword := s.media.cells.getD (cellKey c psn) { home := s.homeAt psn }

/-- Write a codeword. -/
def State.setCell (s : State) (c psn : Nat) (w : Codeword) : State :=
  { s with media := { s.media with cells := s.media.cells.set (cellKey c psn) w } }

/-- R201, R203. The XOR of codewords: DATA, MAC and POISON; HOME, GEN and INTERNAL are those of `like`. -/
def xorCws (like : Codeword) (ws : List Codeword) : Codeword :=
  ws.foldl (fun a w => { a with data := a.data ^^^ w.data, mac := a.mac ^^^ w.mac, poison := a.poison ^^^ w.poison })
    { like with data := 0, mac := 0, poison := 0 }

/-- R308. The key set of a slot's generation: the current one, or the one before. -/
def KeySlot.keyOf (k : KeySlot) (g : Nat) : Nat := if g = k.cur then k.curKey else k.prevKey

/-- R115. The key slot of the region that holds an LPN, in XL's copy; 64 where none does. -/
def State.slotOfLpn (s : State) (lpn : Nat) : Nat :=
  match s.regionAt bXl (lpn * 4096) with
  | some n => (s.region bXl n).keySlot
  | none => 64

/-- R302–R304. The line of block `j` under the current generation of its slot. -/
def State.encryptLine (s : State) (lpn j : Nat) (data : BitVec 2048) (poison : BitVec 4) : Codeword :=
  let k := s.slotOfLpn lpn
  let ks := s.keySlot k
  let c := sealLine ks.curKey (lpn * 16 + j) ks.cur k data
  { data := c, home := s.homeTag lpn, gen := ks.cur, poison := poison
    mac := lineMac ks.curKey (lpn * 16 + j) ks.cur k poison c }

/-- R200. The parity codeword of 16 data codewords; GEN is that of the page's lines, which a line written blank for lost data does not
carry. -/
def parityOf (ws : List Codeword) : Codeword :=
  { xorCws ((ws.find? fun w => w.gen != 0).getD (ws.headD {})) ws with parity := true }

/-- The outcome of one codeword read. -/
inductive Decoded where
  | good (data : BitVec 2048) (poison : BitVec 4)
  | undecodable
  | macFailed (ahead : Bool)
deriving DecidableEq, Repr

/-- R199, R306, R309. Decode with `errs` bit errors (14 or more fail, or decode to a wrong word when `wrong`), then the
generation, then the MAC; a line that passes is decrypted. -/
def State.checkCw (s : State) (lpn j : Nat) (w : Codeword) (errs : Nat) (wrong : Bool) : Decoded :=
  if 14 ≤ errs then (if wrong then .macFailed false else .undecodable)
  else if w.gen = 0 then .good 0 w.poison
  else
    let k := s.slotOfLpn lpn
    let ks := s.keySlot k
    let age := (ks.cur + 255 - w.gen) % 255
    if age = 0 ∨ (age = 1 ∧ ks.prevLive = true) then
      if w.mac = lineMac (ks.keyOf w.gen) (lpn * 16 + j) w.gen k w.poison w.data then
        .good (openLine (ks.keyOf w.gen) (lpn * 16 + j) w.gen k w.data) w.poison
      else .macFailed false
    else if age ≤ 127 then .good 0 0
    else .macFailed true

/-- R270, R271. Count a MAC-only failure in CRY, and record MAC_STORM at the sixteenth of a window. -/
def State.macOnly (s : State) (psn : Nat) : State :=
  let n := s.integ.macFails + 1
  let s1 : State := ({ s with
    integ := { s.integ with macFails := n, macStorm := s.integ.macStorm || decide (16 ≤ n) }
    sec := { s.sec with macFail := s.sec.macFail + 1 } } : State).count bCry 0x42 1
  s1.gate (decide (16 ≤ n) && !s.integ.macStorm) fun s => s.record bCry 288 0x0821 .error [(4, n), (5, psn)]

/-- Sector `i` (0–3) of a line. -/
def lineSector (d : BitVec 2048) (i : Nat) : Sector := (d >>> (512 * i)).setWidth 512

/-- A line from its four sectors. -/
def lineOf (f : Nat → Sector) : BitVec 2048 :=
  (List.range 4).foldl (fun d i => d ||| ((f i).setWidth 2048 <<< (512 * i))) 0

/-! ### Bandwidth and beats (R594, R595) -/

/-- R595. Count `n` bytes at a port (HP0, HP1, FRY, MCH0–17, DRC0–3) in a direction (0 RD, 1 WR). -/
def State.bwAdd (s : State) (port dir n : Nat) : State :=
  { s with cen := { s.cen with bw := Kv.mod s.cen.bw (port * 2 + dir) 0 (· + n) } }

/-- R594. Count `n` beats of channel `c` in class `k` (1 wasted to 7 front-starved). -/
def State.beat (s : State) (c k n : Nat) : State :=
  let s1 : State := { s with cen := { s.cen with beats := Kv.mod s.cen.beats (c * 8 + k) 0 (· + n) } }
  s1.count (bMch c) (0x4f + k) n

/-- R594. One beat of class `k` on each channel of a list. -/
def State.beatAll (s : State) (cs : List Nat) (k : Nat) : State := cs.foldl (fun s c => s.beat c k 1) s

/-! ### Power states (R533) -/

/-- R533. PWR enters a state, with STATE_CHANGED; the cause is numbered as log entry 22 says. -/
def State.pwrTo (s : State) (new cause : Nat) : State :=
  if s.pwr.state = new then s
  else
    let s1 := s.record bPwr 304 0x0F01 .info [(1, s.pwr.state), (1, new), (1, cause)]
    { s1 with pwr := { s1.pwr with state := new } }

/-! ### Completions (R242, R247, R257, R599) -/

/-- R599. Step a head's LFSR, x³² + x²² + x² + x + 1 (log entry 13). -/
def lfsrStep (x : BitVec 32) : BitVec 32 :=
  let b := x.getLsbD 31 != (x.getLsbD 21 != (x.getLsbD 1 != x.getLsbD 0))
  (x <<< 1) ||| (if b then 1#32 else 0#32)

/-- R599, R603. CEN_CTRL.N: 0 off; 1 to 3 act as 4, and above 24 acts as 24. -/
def State.sampleN (s : State) : Nat :=
  let n := s.regF bCen 0x010 16 5
  if n = 0 then 0 else min 24 (max 4 n)

/-- R599. A request is admitted by head `h`: the LFSR steps, and the answer tells whether the request is sampled. -/
def State.sample (s : State) (h : Nat) : State × Bool :=
  let n := s.sampleN
  if n = 0 then (s, false)
  else
    let x := lfsrStep (s.head h).lfsr
    (s.modHead h fun d => { d with lfsr := x }, (x.toNat % 2 ^ n) == 2 ^ n - 1)

/-- R248. The bound of a row in ns; row 6 has two, by whether the request completes at commit. -/
def rowBound (row : Nat) (atCommit : Bool) : Nat :=
  match row with
  | 0 => 250
  | 1 => 1600
  | 2 => 1900
  | 3 => 200
  | 4 => 900
  | 5 => 12300
  | _ => if atCommit then 13900 else 1800

/-- R247. The service time of a request so far: what passed since its admission, and the wake from Moored it waited for. -/
def State.service (s : State) (r : HostReq) : Nat := s.ns - r.admitNs + r.wake

/-- R257, R258. Measure a completed request: its service time against its row's bound. -/
def State.measure (s : State) (h : Nat) (r : HostReq) (atCommit : Bool) : State :=
  let service := s.service r
  let late := decide (rowBound r.row atCommit < service)
  s.gate late fun s =>
    let causes := (List.range 7).filter fun i => r.causes.getLsbD i
    let s2 := s.modHead h fun d => { d with
      exc := (if causes.isEmpty then [7] else causes).foldl (fun m i => Kv.mod m i 0 fun n => sat32 n 1) d.exc
      excRow := r.row, excCauses := r.causes, excService := service, excFn := s.tt.fn
      unexplained := d.unexplained + b2n causes.isEmpty
      unexplainedRow := if causes.isEmpty ∧ d.unexplained = 0 then r.row else d.unexplainedRow
      unexplainedNs := if causes.isEmpty ∧ d.unexplained = 0 then service else d.unexplainedNs }
    s2.countHp h 0x45 1

/-- R600. The opcode byte of a sample record. -/
def sampleOp (r : HostReq) : Nat :=
  if r.dpa / 4096 = 0x18000ffff then 3 else match r.kind with
  | .read => 0
  | .write => 1
  | .byteEnable => 2

/-- R600, R601. Make the sample record of a completed request. -/
def State.sampleRecord (s : State) (h : Nat) (r : HostReq) (bad : Bool) : State :=
  if r.sampled && s.live bCen then
    let mirror := match s.regionAt (bHp h) r.dpa with
      | some n => (s.region (bHp h) n).mirror
      | none => false
    let bs := leBytes 6 s.tt.fn ++ leBytes 6 r.dpa ++ leBytes 1 (sampleOp r)
      ++ leBytes 1 (h + 2 * b2n mirror + 4 * b2n r.susp + 8 * b2n bad) ++ leBytes 1 r.outcome ++ leBytes 1 r.step
      ++ leBytes 4 (s.service r) ++ leBytes 4 (r.admitNs - r.recv - r.wake) ++ leBytes 1 (r.admitNs / 256 % 16)
      ++ leBytes 1 r.mch ++ leBytes 1 r.region ++ leBytes 1 r.causes.toNat ++ leBytes 4 s.cen.sampleSeq
    let s1 : State := { s with cen := { s.cen with sampleSeq := (s.cen.sampleSeq + 1) % 2 ^ 32 } }
    (s1.pushQ .samples (BitVec.ofNat 512 (ofBytes bs)) true).count bCen 0x41 1
  else s

/-- R324, R548, R568. A head that is in reset, whose link is idle for a flush, or whose CXL.mem stream is insecure takes no
request and discards its responses; so does HP1 while it is not used. -/
def State.deaf (s : State) (h : Nat) : Bool :=
  (s.hp h).inReset || s.pwr.flush.isSome || (h == 1 && !s.dual)
    || (s.sec.ide.getD (h * 8) {}).insecure || (s.sec.ide.getD (h * 8 + 1) {}).insecure

/-- Send a CXL.mem response through head `h`. -/
def State.hostSend (s : State) (h : Nat) (o : Output) : State := if s.deaf h then s else s.emit o

/-- R568. Answer a request: a request that its head's reset overtook gets no response. -/
def State.hostReply (s : State) (r : HostReq) (h : Nat) (o : Output) : State := if r.mute then s else s.hostSend h o

/-- R277. A read completes: a poisoned sector returns zeros with the poison indication. -/
def State.respondRead (s : State) (r : HostReq) (data : Sector) (poison : Bool) : State :=
  match r.origin with
  | .host h t =>
    let s1 := s.hostReply r h.val (.memData h.val t (if poison then 0 else data) poison (s.head h.val).devload)
    let s2 := (s1.gate poison fun s => s.countHp h.val 0x46 1).bwAdd h.val 0 64
    (s2.measure h.val r false).sampleRecord h.val r poison
  | _ => s

/-! ### Ferry messages (R360, R361) -/

/-- R360. The length of a ferry message without its payload: MIRROR_WRITE, MIRROR_ACK, BELL, STATE, ROLE, FENCE, RESYNC_PAGE,
CONFIG_AT_FN, BARGE_AT_FN, HEARTBEAT. -/
def ferryLen (kind : Nat) : Nat := [8, 16, 16, 32, 16, 48, 24, 32, 24, 16].getD (kind - 1) 0

/-- R8, R355, R360. The bytes of a ferry message of a type, from its fields in the order of R360 and its payload; type 0 stands for bytes 8
to 15 of a flit. Bytes 16 to 31 of CONFIG_AT_FN hold the index and the value in eight bytes each (log entry 154). -/
def ferryBytes (kind : Nat) (fields : List Nat) (payload : List (BitVec 8)) : List (BitVec 8) :=
  let f (i : Nat) : Nat := fields.getD i 0
  let one (i : Nat) : List (BitVec 8) := leBytes 1 (f i)
  let zeros (n : Nat) : List (BitVec 8) := List.replicate n 0
  let body := match kind with
    | 0 => leBytes 4 (f 0) ++ one 1 ++ one 2 ++ one 3 ++ zeros 1
    | 1 => leBytes 7 (f 0 % 2 ^ 33 + 2 ^ 33 * f 1 + 2 ^ 39 * f 2 + 2 ^ 41 * f 3 + 2 ^ 45 * f 4)
    | 2 => zeros 7 ++ leBytes 8 (f 0)
    | 3 => one 0 ++ leBytes 6 (f 1) ++ leBytes 4 (f 2) ++ leBytes 4 (f 3)
    | 4 => one 0 ++ leBytes 6 (f 1) ++ leBytes 6 (f 2) ++ zeros 2 ++ leBytes 8 (f 3) ++ leBytes 8 (f 4)
    | 5 => one 0 ++ zeros 6 ++ leBytes 8 (f 1)
    | 6 => one 0 ++ one 1 ++ zeros 5 ++ leBytes 8 (f 2) ++ leBytes 8 (f 3) ++ leBytes 8 (f 4) ++ leBytes 8 (f 5) ++ leBytes 6 (f 6)
        ++ zeros 2
    | 7 => one 0 ++ zeros 6 ++ leBytes 8 (f 1) ++ leBytes 8 (f 2)
    | 8 => one 0 ++ one 1 ++ one 2 ++ zeros 4 ++ leBytes 6 (f 3) ++ zeros 2 ++ leBytes 8 (f 4) ++ leBytes 8 (f 5)
    | 9 => one 0 ++ one 1 ++ one 2 ++ zeros 4 ++ leBytes 6 (f 3) ++ zeros 2 ++ leBytes 8 (f 4)
    | _ => one 0 ++ one 1 ++ one 3 ++ zeros 4 ++ leBytes 8 (f 2)
  (if kind = 0 then [] else leBytes 1 kind) ++ body ++ payload

/-- A ferry message that leaves the module. -/
def ferryOut (kind : Nat) (fields : List Nat) (payload : List (BitVec 8)) : Output := .ferry (ferryBytes kind fields payload)

/-- R360, R595. Send a ferry message while the link is up: its type, its fields in the order of R360, and its payload. Its bytes count once. In
the error state the ferry keys are zeroized, and nothing is sent (R344). -/
def State.ferry (s : State) (kind : Nat) (fields : List Nat) (payload : List (BitVec 8)) : State :=
  if s.fry.rate = 0 ∨ s.sec.error = true then s
  else (s.emit (ferryOut kind fields payload)).bwAdd 2 1 (ferryLen kind + payload.length)

/-- R372. Take a sector off what an index still waits for. -/
def strikeSector (m : Kv (List Nat)) (w i : Nat) : Kv (List Nat) := m.map fun p => if p.1 = w then (w, p.2.filter fun j => j != i) else p

/-- R371, R372. The index below which nothing waits any more, from `w` up, and what is left of the table. -/
def advanceIndex : Kv (List Nat) → Nat → Kv (List Nat) × Nat
  | [], w => ([], w)
  | p :: m, w => if p.1 = w + 1 ∧ p.2 = [] then advanceIndex m (w + 1) else (p :: m, w)

/-- R361, R372. Sector `i` of a MIRROR_WRITE is durable here; MIRROR_ACK reports the highest index that is. -/
def State.mirrorDurable (s : State) (w i : Nat) : State :=
  let a := advanceIndex (strikeSector s.fry.durableBy w i) s.fry.widxAcked
  let s1 : State := { s with fry := { s.fry with durableBy := a.1, widxAcked := a.2 } }
  s1.gate (decide (s.fry.widxAcked < a.2)) fun s => s.ferry 2 [a.2] []

/-- R371, R398. Sector `i` of a MIRROR_WRITE is applied, and leaves the receive buffer. -/
def State.mirrorApplied (s : State) (w i : Nat) : State :=
  let a := advanceIndex (strikeSector s.fry.applyBy w i) s.fry.widxSent
  { s with fry := { s.fry with applyBy := a.1, widxSent := a.2, wcredOwed := s.fry.wcredOwed + 1 } }

/-- R392. The follower answers kind 4 once every page it received is durable, and both modules enter JOINED at the next tick. -/
def State.resyncAnswer (s : State) : State :=
  if s.fry.doneRecv && s.fry.pageOwed.isEmpty && s.fry.pstate == .resyncing && s.fry.role == .follower
      && s.fry.pendingRole.isNone then
    let s1 : State := { s with fry := { s.fry with doneRecv := false, pendingRole := some (.joined, .follower) } }
    s1.ferry 7 [4, s.fry.fetched.length, s.fry.widxSent] []
  else s

/-- R390, R392. A sector of a resync page is durable here. -/
def State.pageDurable (s : State) (lpn i : Nat) : State :=
  let m := (strikeSector s.fry.pageOwed lpn i).filter fun p => !p.2.isEmpty
  let owed := s.fry.pcredOwed + (s.fry.pageOwed.length - m.length)
  let s1 : State := { s with fry := { s.fry with pageOwed := m, pcredOwed := owed } }
  s1.resyncAnswer

/-- A write completes to its sender with a normal NDR. -/
def State.respondWrite (s : State) (r : HostReq) (atCommit : Bool) : State :=
  match r.origin with
  | .host h t => ((s.hostReply r h.val (.ndr h.val t (s.head h.val).devload)).measure h.val r atCommit).sampleRecord h.val r false
  | .command _ => s
  | .barge ch => s.modBrg ch.val fun c => { c with outstanding := c.outstanding - 1 }
  | .mirror w => s.mirrorDurable w (sectorOf r.dpa)
  | .page => s.pageDurable (lpnOfDpa r.dpa) (sectorOf r.dpa)

/-- R28, R373. A write reached its R28 point here: it completes, or waits for its MIRROR_ACK when it is on-mirror. -/
def State.writeDone (s : State) (r : HostReq) (atCommit : Bool) : State :=
  let mine (m : MirrorWrite) : Bool := m.waits.any fun w => w.1.id == r.id
  let done (w : HostReq × Option Bool) : HostReq × Option Bool := if w.1.id = r.id then (r, some atCommit) else w
  if s.fry.sendQ.any mine then
    { s with fry := { s.fry with sendQ := s.fry.sendQ.map fun m => { m with waits := m.waits.map done } } }
  else s.respondWrite r atCommit

/-- R246. The GPF DVSEC's Phase 2 Duration in ns. -/
def gpfDuration : Nat := 10000

/-- R246. A Phase 2 flush waits for a write that its head received before it, accepted in frame `fn`. -/
def Head.gpfTake (d : Head) (r : HostReq) (fn : Nat) : Head :=
  { d with gpf := d.gpf.map fun g => if r.recv ≤ g.1 then (g.1, max g.2 fn) else g }

/-- R242, R371, R372. A write is accepted in this frame: its head learns of it. A MIRROR_WRITE or a resync page is applied, and durable
unless gating is in force. -/
def State.accepted (s : State) (r : HostReq) : State :=
  match r.origin with
  | .host h _ =>
    (s.modHead h.val fun d => { d.gpfTake r s.tt.fn with acceptedFn := max d.acceptedFn s.tt.fn }).bwAdd h.val 1 64
  | .command h => s.modHead h.val fun d => { d with acceptedFn := max d.acceptedFn s.tt.fn }
  | .barge _ => s
  | .mirror w =>
    let s1 := s.mirrorApplied w (sectorOf r.dpa)
    s1.gate (!s.pwr.gated) fun s => s.mirrorDurable w (sectorOf r.dpa)
  | .page => s.gate (!s.pwr.gated) fun s => s.pageDurable (lpnOfDpa r.dpa) (sectorOf r.dpa)

/-! ### Mirrored regions (R366–R370) -/

/-- The region's writes are mirrored. -/
def State.mirrored (s : State) (b n : Nat) : Bool := s.pairCfg && (s.region b n).mirror

/-- R366, R367. The state refuses host writes to mirrored regions. -/
def State.refusesMirror (s : State) : Bool :=
  match s.fry.pstate with
  | .joined | .resyncing => s.fry.role != .lead
  | .stranded => true
  | .joining => s.fry.role != .lead
  | _ => false

/-- R358, R370. Send one MIRROR_WRITE, when it is the next in order, the link is up and credits cover its sectors. -/
def State.mirrorSendOne (s : State) (m : MirrorWrite) : State :=
  let n := m.data.length
  if s.fry.rate ≠ 0 ∧ s.fry.widxSent + 1 = m.widx ∧ n ≤ s.fry.wcred then
    let poison := (List.range n).foldl (fun a i => a + 2 ^ i * b2n ((m.data.getD i (0, false)).2)) 0
    let bytes := m.data.flatMap fun d => leBytes 64 d.1.toNat
    let s1 := (s.ferry 1 [m.lpn, m.sector, n - 1, poison, b2n m.onMirror] bytes).count bFry 0x43 n
    { s1 with fry := { s1.fry with
      widxSent := m.widx, wcred := s1.fry.wcred - n
      sendQ := s1.fry.sendQ.map fun x => if x.widx = m.widx then { x with sent := true } else x } }
  else s

/-- R370. Send what the queue holds, in order; `hold` leaves out the last message, which may still take sectors. -/
def State.mirrorSend (s : State) (hold : Bool) : State :=
  let ws := s.fry.sendQ.filter fun m => !m.sent
  (if hold then ws.dropLast else ws).foldl State.mirrorSendOne s

/-- R28, R370. Send what the queue holds. The last message stays while a write of the next cycle could still join it. -/
def State.mirrorDue (s : State) : State :=
  s.mirrorSend (s.fry.sendQ.getLast?.any fun m => m.fn == s.tt.fn && decide (s.tt.cyc ≤ m.cyc + 1) && decide (m.data.length < 4))

/-- R369, R374. Sectors in the send queue not yet packed. -/
def State.sendHeld (s : State) : Nat := s.fry.sendQ.foldl (fun n m => if m.sent then n else n + m.data.length) 0

/-- R384, R396, R397. Mirrored writes are held: during a handover or a resignation, at the low rate, and until the peer reports Open. -/
def State.mirrorHeld (s : State) : Bool :=
  s.joined && s.isLead && (s.fry.handover.isSome || s.fry.resign.isSome || s.fry.rate == 1 || s.fry.peerPower == 2)

/-- R388. The page's bit is set in the resync bitmap. -/
def Fry.marked (f : Fry) (lpn : Nat) : Bool :=
  f.bitmap.contains lpn || f.spans.any fun p => decide (p.1 ≤ lpn) && decide (lpn < p.2)

/-- R388. A bit is set in the resync bitmap. -/
def Fry.anyMarked (f : Fry) : Bool := !f.bitmap.isEmpty || !f.spans.isEmpty

/-- R406. The channel that holds data unit `k` (0 to 2) of bitmap stripe `j`; the stripe's parity is on channel `j mod 4`. -/
def bitmapChan (j k : Nat) : Nat := if k < j % 4 then k else k + 1

/-- R404, R406. The channel-local address of sector `i` of bitmap stripe `j`. -/
def bitmapAddr (j i : Nat) : Nat := 0x79e000000 + 4096 * j + 64 * i

/-- R388, R406. Sector `i` of bitmap page `p`, which is data unit `p mod 3` of stripe `p div 3`: the bits of 512 pages. -/
def Fry.bitmapData (f : Fry) (p i : Nat) : Sector :=
  BitVec.ofNat 512 ((List.range 512).foldl (fun a b => a + 2 ^ b * b2n (f.marked (32768 * p + 512 * i + b))) 0)

/-- R406. What channel `c` holds of sector `i` of a bitmap stripe: its data unit, or the parity of the other three. -/
def Fry.bitmapSector (f : Fry) (c j i : Nat) : Sector :=
  if c = j % 4 then (List.range 3).foldl (fun a k => a ^^^ f.bitmapData (3 * j + k) i) 0
  else f.bitmapData (3 * j + (if c < j % 4 then c else c - 1)) i

/-- R406, R430. A read of sector `i` of bitmap page `p`: from its channel, else rebuilt from the other three; nothing with two of them
gone. With three channels in use the bitmap has no parity. -/
def State.bitmapRead (s : State) (f : Fry) (p i : Nat) : Option Sector :=
  let c := bitmapChan (p / 3) (p % 3)
  let others := (List.range 4).filter fun d => d != c
  if (s.drc c).failed = false then some (f.bitmapData p i)
  else if others.all fun d => !(s.drc d).failed then
    some (others.foldl (fun a d => a ^^^ f.bitmapSector d (p / 3) i) 0)
  else none

/-- R388. Mark a page in the resync bitmap. -/
def State.markPage (s : State) (lpn : Nat) : State :=
  { s with fry := { s.fry with bitmap := if s.fry.marked lpn then s.fry.bitmap else s.fry.bitmap ++ [lpn] } }

/-- R395. Mark every page from `a` up to `b`. -/
def State.markSpan (s : State) (a b : Nat) : State :=
  { s with fry := { s.fry with
    spans := (s.fry.spans.filter fun p => decide (p.2 ≤ a) || decide (b ≤ p.1)) ++ [(a, b)]
    bitmap := s.fry.bitmap.filter fun l => decide (l < a) || decide (b ≤ l) } }

/-- R28, R370. A new message at the end of the send queue; those before it are sent, and it when no more sectors can join it. -/
def State.mirrorNew (s : State) (r : HostReq) (onMirror : Bool) (sector : Sector) (poison : Bool)
    (waits : List (HostReq × Option Bool)) : State :=
  let w : MirrorWrite := { widx := s.fry.widxNext, lpn := lpnOfDpa r.dpa, sector := sectorOf r.dpa, data := [(sector, poison)]
                           fn := s.tt.fn, cyc := s.tt.cyc, onMirror := onMirror, waits := waits }
  let s1 : State := { s with fry := { s.fry with sendQ := s.fry.sendQ ++ [w], widxNext := s.fry.widxNext + 1 } }
  s1.mirrorDue

/-- R369, R370, R373. An accepted write to a mirrored region: the lead of a joined pair queues it, joining it to the message
before it where R370 allows, and sends the messages before; a lead outside the pair marks its page in the resync bitmap. A
barge of a joined pair writes on both modules itself (R396). -/
def State.mirrorOut (s : State) (r : HostReq) (sector : Sector) (poison : Bool) (onMirror : Bool) : State :=
  let lpn := lpnOfDpa r.dpa
  let alone := match r.origin with
    | .mirror _ => true
    | .page => true
    | .barge _ => s.joined
    | .command _ => false
    | .host _ _ => false
  if alone then s
  else if s.joined && s.isLead then
    let i := sectorOf r.dpa
    let waits : List (HostReq × Option Bool) := if onMirror then [(r, none)] else []
    let s1 : State := { s with fry := { s.fry with admitted := s.fry.admitted + 1 } }
    let joins (m : MirrorWrite) : Bool := !m.sent && m.lpn == lpn && m.fn == s.tt.fn && m.cyc + 1 == s.tt.cyc
      && m.sector + m.data.length == i && decide (m.data.length < 4) && m.onMirror == onMirror
    match s.fry.sendQ.getLast? with
    | some m =>
      if joins m then
        let m' := { m with data := m.data ++ [(sector, poison)], cyc := s.tt.cyc, waits := m.waits ++ waits }
        ({ s1 with fry := { s1.fry with sendQ := s1.fry.sendQ.dropLast ++ [m'] } } : State).mirrorDue
      else s1.mirrorNew r onMirror sector poison waits
    | none => s1.mirrorNew r onMirror sector poison waits
  else if s.isLead then s.markPage lpn
  else s

/-- R31, R158, R250. The mirrored byte-enable writes that are admitted and wait for their block: each has its place on the ferry. -/
def State.mirrorOwed (s : State) : Nat :=
  s.merging.countP fun p => s.mirrored (bCs (s.sliceOf (s.setOf p.1.lpn))) p.2.region

/-- R31, R369, R374, R380, R384, R397. Room for a mirrored write: a place among 16,384 sectors not yet packed, and the frame's
limit of 50 GB/s × w / 8; none while the lead hands over or resigns, at the low rate, or until the follower reports Open. -/
def State.mirrorRoom (s : State) : Bool :=
  let owed := s.mirrorOwed
  !(s.joined && s.isLead)
    || (decide (s.sendHeld + owed < 16384) && !s.mirrorHeld && decide ((s.fry.admitted + owed) * 64 < 25600 * s.fry.width))

/-! ### Sectors in DRAM (R149, R150, R410) -/

/-- R410. The newest data of a channel-local address: a queued write, or else DRAM. -/
def State.dramSector (s : State) (c x : Nat) : Sector :=
  match (s.sub c (subOf x)).writeQ.find? fun p => p.1 == x with
  | some p => p.2
  | none => s.dramLoad c x

/-- R410. A write enters the subchannel's write queue; a later write to the sector replaces the earlier in its entry. -/
def State.dramPut (s : State) (c x : Nat) (d : Sector) : State :=
  s.modSub c (subOf x) fun u =>
    if u.writeQ.any fun p => p.1 == x then { u with writeQ := u.writeQ.map fun p => if p.1 = x then (x, d) else p }
    else { u with writeQ := u.writeQ ++ [(x, d)] }

/-- R250, R407, R410. The write queue takes a write to this address, beside those that have a place reserved. -/
def State.dramRoom (s : State) (c x : Nat) : Bool :=
  let q := (s.sub c (subOf x)).writeQ
  let owed := (s.writesOwed c (subOf x)).filter fun y => y != x
  decide (q.length + owed.length < 128) || q.any fun p => p.1 == x

/-- R152, R407. The addresses of the read entries that subchannel `u` of a channel holds, those of metadata lines among them. -/
def State.heldReads (s : State) (c u : Nat) : List Nat :=
  let all := (s.sub c 0).readQ ++ (s.sub c 1).readQ
  ((all.map fun r => r.addr) ++ all.filterMap fun r => r.metaAddr).filter fun x => subOf x == u

/-- R407, R414. The DRC withholds the read entries of the bank of this address, for a refresh, a mitigation or RFM. -/
def State.withheld (s : State) (c x : Nat) : Bool :=
  let u := s.sub c (subOf x)
  decide (s.ns < u.forcedTill) || decide (s.ns < u.refreshTill) || decide (s.ns < u.busyTill.getD (bankOf x) 0)

/-- R407. A read entry is granted for this address beside those held: the channel is in service, and of 32 entries in all a bank holds
one, or up to 4 of one row. -/
def State.readFits (s : State) (c x : Nat) (held : List Nat) : Bool :=
  let u := s.sub c (subOf x)
  let mine := held.filter fun y => bankOf y == bankOf x
  (s.drc c).state == 3 && !s.withheld c x && !u.selfRefresh && decide (held.length < 32) && (mine.isEmpty
    || (decide (mine.length < 4) && mine.all fun y => dramRow y == dramRow x))

/-- R152, R407. Read entries are granted for a sector, and for the metadata line read beside it. -/
def State.readRoom (s : State) (c x : Nat) (line : Option Nat) : Bool :=
  s.readFits c x (s.heldReads c (subOf x)) && match line with
    | some y => s.readFits c y (s.heldReads c (subOf y) ++ (if subOf x = subOf y then [x] else []))
    | none => true

/-- R250. A read served from a landing entry finds a place in a read queue of its set's channel (log entry 134). -/
def State.landingRead (s : State) (set : Nat) : Bool :=
  [0, 1].any fun u => decide ((s.heldReads (s.setDram set) u).length < 32)

/-- Data of sector `i` of way `w` of a set; nothing is left of it on a channel that failed. -/
def State.waySector (s : State) (set w i : Nat) : Sector :=
  if s.lostSet set then 0 else s.dramSector (s.setDram set) (s.sectorAddr set w i)

/-- R149. The metadata line of a way. -/
def metaLine (w : Way) : Sector :=
  BitVec.ofNat 512 (w.valid.toNat + w.dirty.toNat * 2 ^ 64 + w.poison.toNat * 2 ^ 128 + (w.lpn % 2 ^ 33) * 2 ^ 192
    + (w.region % 64) * 2 ^ 232)

/-- Store a way, and its metadata line while PARTIAL is 1 or at allocation (R150). -/
def State.setWay (s : State) (set w : Nat) (v : Way) (alloc : Bool := false) : State :=
  let s1 : State := { s with cache := { s.cache with ways := s.cache.ways.set (set * 8 + w) v } }
  let c := s.setDram set
  s1.gate (alloc || v.partialBit) fun s => s.dramStore c (s.metaAddr set w) (metaLine v)

/-- R160. Way `w` of a set is used: its AGE becomes 0 and the ways that were more recent gain 1. -/
def State.touch (s : State) (set w : Nat) : State :=
  let a := (s.way set w).age
  let older (m : Kv Way) (k : Nat) : Kv Way :=
    let v := s.way set k
    if k = w then m.set (set * 8 + k) { v with age := 0 }
    else if v.age < a then m.set (set * 8 + k) { v with age := v.age + 1 }
    else m
  { s with cache := { s.cache with ways := (List.range 8).foldl older s.cache.ways } }

/-- R156. Write sector `i` of a way: its data enters the DRC write queue and its state bits change. A sector that a landing entry carries,
or that a fill brings, is clean. -/
def State.writeWay (s : State) (set w i : Nat) (d : Sector) (dirty poison : Bool) : State :=
  let v := s.way set w
  let b := bit64 i
  let v1 := { v with
    valid := v.valid ||| b
    dirty := if dirty then v.dirty ||| b else v.dirty &&& ~~~b
    poison := if poison then v.poison ||| b else v.poison &&& ~~~b }
  (s.dramPut (s.setDram set) (s.sectorAddr set w i) d).setWay set w v1

/-- The dropped form of a way: free, keeping its AGE. -/
def Way.dropped (v : Way) : Way := { age := v.age }

/-- R148. A way that has lost sector `i`; its entry is free once nothing is left in it. -/
def Way.without (v : Way) (i : Nat) : Way :=
  let m := ~~~(bit64 i)
  let v1 := { v with valid := v.valid &&& m, dirty := v.dirty &&& m, poison := v.poison &&& m }
  if v1.free then v1.dropped else v1

/-! ### Landing entries (R154, R167, R168, R172) -/

/-- Change landing entry `k` (slice × 512 + entry). -/
def State.modEntry (s : State) (k : Nat) (f : Landing → Landing) : State :=
  { s with cache := { s.cache with landing := Kv.mod s.cache.landing k {} f } }

/-- Landing entry of key `k`. -/
def State.entryK (s : State) (k : Nat) : Landing := s.cache.landing.getD k {}

/-- R168. Filling becomes Ready when all 64 sectors are present. -/
def Landing.settle (l : Landing) : Landing :=
  if l.st = .filling ∧ l.valid = BitVec.allOnes 64 then { l with st := .ready } else l

/-- Put a sector into an entry. -/
def Landing.put (l : Landing) (i : Nat) (d : Sector) (poison : Bool) : Landing :=
  let b := bit64 i
  ({ l with valid := l.valid ||| b, poison := if poison then l.poison ||| b else l.poison &&& ~~~b
            data := l.data.set i d } : Landing).settle

/-- Sector `i` of an entry. -/
def Landing.sector (l : Landing) (i : Nat) : Sector := l.data.getD i 0

/-- R166. Note the dirty count of slice `n`: the marks of the background destage (R164) and DIRTY_LIMIT. -/
def State.noteDirty (s : State) (n : Nat) : State :=
  let c := s.cs n
  let d := s.dirtyPages n
  let mark := s.actW (bCs n) 0x020
  let start := max (bits mark 0 4) 1
  let stop := if start ≤ bits mark 4 4 then start - 1 else bits mark 4 4
  let s1 := s.modCs n fun c =>
    if 16 * d ≥ start * c.share then { c with destaging := true }
    else if 16 * d ≤ stop * c.share then { c with destaging := false } else c
  let s2 := s1.gate (decide (c.share ≤ d)) fun s => (s.modHead 0 fun h => { h with holdSeen := true }).modHead 1 fun h => { h with holdSeen := true }
  s2.gate (decide (c.share ≤ d) && decide (c.dirtyAtTick < c.share) && !c.limitRecorded) fun s =>
    (s.modCs n fun c => { c with limitRecorded := true }).record (bCs n) (185 + 4 * n) 0x0512 .warning [(4, d), (4, c.share)]

/-- R167. The number of the lowest free entry of slice `n`, which is the next to be taken (log entry 135). -/
def State.freeEntry (s : State) (n : Nat) : Option Nat := (List.range 512).find? fun e => !(s.entry n e).busy

/-- R167. An entry may be taken: evictions only from the pool of 448; writes from the other 64, then from the pool. -/
def State.landingRoom (s : State) (n : Nat) (evict : Bool) : Bool :=
  decide (s.landingUsed n < 512) &&
    (if evict then decide (s.evictUsed n < 448)
     else decide (s.landingUsed n - s.evictUsed n < 64) || decide (s.evictUsed n < 448))

/-- R167, R168. Take an entry for an LPN; the answer is its key. -/
def State.takeEntry (s : State) (n lpn region : Nat) (evict : Bool) (kind : LKind) : State × Nat :=
  let e := (s.freeEntry n).getD 0
  let pool := evict || decide (64 ≤ s.landingUsed n - s.evictUsed n)
  let l : Landing := { st := .filling, evict := pool, kind := kind, lpn := lpn, region := region, fn := s.tt.fn
                       ord := s.cache.nextOrd }
  let s1 : State := { s with cache := { s.cache with
    landing := s.cache.landing.set (n * 512 + e) l, nextOrd := s.cache.nextOrd + 1 } }
  let c := s.cs n
  let full := decide (s1.landingUsed n = 512) && decide (64 ≤ c.freeAtTick) && !c.fullRecorded
  let s2 := s1.gate full fun s => (s.modCs n fun c => { c with fullRecorded := true }).record (bCs n) (185 + 4 * n) 0x0511
    .info [(4, s.evictUsed n), (4, s.landingUsed n)]
  (s2, n * 512 + e)

/-- Sector `i` of a page as the cache holds it, with its poison bit. -/
def State.cacheSector (s : State) (lpn i : Nat) : Option (Sector × Bool) :=
  let set := s.setOf lpn
  (s.findWay lpn).bind fun w =>
    let v := s.way set w
    if v.valid.getLsbD i then some (s.waySector set w i, v.poison.getLsbD i) else none

/-- Sector `i` of a page as the newest of its landing entries that `sel` selects holds it, with its poison bit. -/
def State.landingSector (s : State) (lpn i : Nat) (sel : Landing → Bool) : Option (Sector × Bool) :=
  (newest ((s.landingsOf lpn).filter fun p => sel p.2 && p.2.valid.getLsbD i)).map fun p =>
    (p.2.sector i, p.2.poison.getLsbD i)

/-- R172 items 1 and 2. Where an entry gets missing sector `i` from within the slice: the cache, or the newest older entry that holds
it. -/
def State.entrySource (s : State) (k i : Nat) : Option (Sector × Bool) :=
  let l := s.entryK k
  (s.cacheSector l.lpn i).or (s.landingSector l.lpn i fun x => decide (x.ord < l.ord))

/-- R172 items 1 and 2. Fill an entry's missing sectors from within the slice. -/
def State.fillFromSlice (s : State) (k : Nat) : State :=
  let fill (l : Landing) (i : Nat) : Landing :=
    if l.valid.getLsbD i then l
    else match s.entrySource k i with
      | some d => l.put i d.1 d.2
      | none => l
  s.modEntry k fun l => (List.range 64).foldl fill l

/-! ### Retirement triggers and media errors (R206, R221) -/

/-- Channel and die as an event source. -/
def dieSrc (c d : Nat) : Nat := c * 8 + d

/-- R222. The tables are full: record RETIRE_BLOCKED once for the stripe, from the channel named. -/
def State.retireBlocked (s : State) (c psn : Nat) : State :=
  if s.media.blocked.contains psn then s
  else
    ({ s with media := { s.media with blocked := s.media.blocked ++ [psn] } } : State).record (bMch c)
      (dieSrc c (dieOf psn)) 0x0612 .error [(5, psn)]

/-- R221, R222. Queue a stripe for retirement by a copy. -/
def State.retire (s : State) (c psn : Nat) : State :=
  if s.xl.full then s.retireBlocked c psn
  else if s.xl.retireQ.contains (false, psn) then s
  else { s with xl := { s.xl with retireQ := s.xl.retireQ ++ [(false, psn)] } }

/-- R221. Enter a stripe in the watch list of channel `c` with its position marked as given; a full list retires its
oldest stripe by a copy, ahead of its turn. -/
def State.watchStripe (s : State) (c psn pos : Nat) (bad : Bool) : State :=
  let m := s.mch c
  match m.watch.find? fun w => w.psn == psn with
  | some _ => s.modMch c fun m => { m with
      watch := m.watch.map fun w => if w.psn = psn then { w with bad := w.bad || bad, altSeen := w.altSeen || !bad } else w }
  | none =>
    let w : Watch := { psn := psn, pos := pos, bad := bad, altSeen := !bad }
    if m.watch.length < 256 then s.modMch c fun m => { m with watch := m.watch ++ [w] }
    else if s.xl.full then s
    else
      let old := m.watch.headD w
      let s1 : State := { s with xl := { s.xl with retireQ := (false, old.psn) :: s.xl.retireQ } }
      s1.modMch c fun m => { m with watch := m.watch.drop 1 ++ [w] }

/-- R209, R221. A codeword needed step 2 or 3: it is watched, and at the next read after its rewrite that needs them again its
stripe retires. -/
def State.weakCw (s : State) (c psn pos : Nat) : State :=
  match (s.mch c).watch.find? fun w => w.psn == psn with
  | some w => if w.altSeen && w.rewritten then s.retire c psn else s.watchStripe c psn pos false
  | none => s.watchStripe c psn pos false

/-- R221. A codeword passed at step 1: once it has been rewritten, its weakness is over. -/
def State.soundCw (s : State) (c psn : Nat) : State :=
  s.modMch c fun m => { m with watch := (m.watch.map fun w =>
    if w.psn = psn ∧ w.rewritten = true then { w with altSeen := false, rewritten := false } else w).filter fun w =>
      w.bad || w.altSeen || w.psn != psn }

/-- R209, R221. The rewrite of a watched codeword is done. -/
def State.cwRewritten (s : State) (c psn : Nat) : State :=
  s.modMch c fun m => { m with watch := m.watch.map fun w => if w.psn = psn then { w with rewritten := w.altSeen } else w }

/-- R209, R471. Owe a rewrite in place of a codeword, unless its die has failed, the same rewrite is owed, or a crossing of the
stripe is in flight, which writes the codeword anew. -/
def State.oweRewrite (s : State) (kind : RewriteKind) (c psn : Nat) (w : Codeword) : State :=
  if s.role c (dieOf psn) = 31 ∨ (s.mch c).failed = true ∨ (s.media.crossings.any fun x => x.psn == psn) = true
      ∨ (s.media.rewrites.any fun x => x.kind == kind && x.mch == c && x.psn == psn && x.slot.isNone) = true then s
  else
    let r : CwWrite := { id := s.media.nextId, kind := kind, mch := c, psn := psn, cw := w }
    { s with media := { s.media with rewrites := s.media.rewrites ++ [r], nextId := s.media.nextId + 1 } }

/-- R283, R625. Record UNCORRECTABLE for a position of a stripe, at the channel it is assigned to. -/
def State.uncorrectable (s : State) (psn pos reader : Nat) (poisoned : BitVec 4) : State :=
  let c := s.assigned (dieOf psn) pos
  s.record (bMch c) (dieSrc c (dieOf psn)) 0x0602 .error
    [(5, psn), (1, planeOf psn), (4, rowOf psn), (1, reader), (1, poisoned.toNat)]

/-- R391, R393. Ask the peer for a page: RESYNC_PAGE of kind 0 with the highest write index sent or applied. -/
def State.askPage (s : State) (lpn : Nat) : State := s.ferry 7 [0, lpn, s.fry.widxSent] []

/-- R187, R265, R281, R393. Blocks of a page of a mirrored region are taken from the peer. -/
def State.askPeer (s : State) (lpn : Nat) (js : List Nat) : State :=
  ({ s with integ := { s.integ with fromPeer := s.integ.fromPeer ++ js.map fun j => lpn * 16 + j } } : State).askPage lpn

/-- R206, R281. The ladder of a read ends at step 4, counted in the channel the position is assigned to. A block of a mirrored region of a
joined pair, which would be poisoned, is asked of the peer instead (step 5). -/
def State.ladderEnd (s : State) (m : MediaRead) : State :=
  let c := s.assigned (dieOf m.psn) m.pos
  let peer := m.use.asksPeer && decide (m.block < 16) && s.joined && (match s.regionAt bXl (m.lpn * 4096) with
    | some n => s.mirrored bXl n
    | none => false)
  let s1 := s.modMch c fun x => { x with uncorr := sat32 x.uncorr 1 }
  let s2 : State := { s1 with media := { s1.media with reads := s1.media.reads.map fun x =>
    if x.id = m.id then { x with step := if peer then 5 else 4, result := none, beat := none, bad := [] } else x } }
  s2.gate peer fun s => s.askPage m.lpn

/-- R119. XL serves a page: it lies in a valid region of XL's copy, or is no page of user memory. -/
def State.xlServes (s : State) (lpn : Nat) : Bool := decide (userPages ≤ lpn) || (s.regionAt bXl (lpn * 4096)).isSome

/-- R119. A block that XL does not serve: the read completes with poison and zeros, and nothing is recorded. -/
def State.unserved (s : State) (m : MediaRead) : State :=
  let x : MediaRead := { m with id := s.media.nextId, step := 4, told := true }
  { s with media := { s.media with reads := s.media.reads ++ [x], nextId := s.media.nextId + 1 } }

/-- R72, R119, R173, R206. Begin a media read that waits for a beat. At a missing position its ladder starts at step 3; with a second
position missing it ends at once. -/
def State.queueRead (s : State) (m : MediaRead) : State :=
  let d := dieOf m.psn
  let others := (List.range 17).filter fun q => q != m.pos
  let gone := s.missing m.psn m.pos
  let x : MediaRead := { m with
    id := s.media.nextId, step := if gone then 3 else 1, slot := s.now, waits := true
    chans := if gone then others.map fun q => s.assigned d q else [s.assigned d m.pos] }
  let s1 : State := { s with media := { s.media with reads := s.media.reads ++ [x], nextId := s.media.nextId + 1 } }
  if m.use == .fill && !s.xlServes m.lpn then s.unserved m
  else s1.gate (gone && others.any fun q => s.missing m.psn q) fun s => s.ladderEnd x

/-! ### Leaving for media (R165, R172, R173) -/

/-- R587. XL translates an LPN `n` times: counted, and counted apart where a remap entry covers the stripe. -/
def State.translates (s : State) (lpn n : Nat) : State :=
  let d := distOf lpn
  let p := psnOf d.1 ((s.district d.1).slotOf d.2)
  (s.count bXl 0x40 n).count bXl 0x43 (if s.remap p = p then 0 else n)

/-- R153, R173. Ask media for the blocks an entry still misses, one merge read each, while the slice can track one more. -/
def State.mergeReads (s : State) (k : Nat) : State :=
  let l := s.entryK k
  if l.st = .filling then
    let psn := s.readPsn l.lpn
    let need := ((List.range 16).filter fun j => blockBits l.valid j != 15
      && !(s.media.reads.any fun m => m.lpn == l.lpn && m.block == j && m.entry == some k)).take (256 - s.tracked (k / 512))
    need.foldl (fun s j => s.queueRead { id := 0, kind := .merge, lpn := l.lpn, block := j, psn := psn, pos := blockPos psn j
                                         chans := [], slot := 0, entry := some k }) (s.translates l.lpn need.length)
  else s

/-- R164, R165, R172. A dirty page leaves for media: a new entry holds its valid sectors, and fills what is missing; the page is clean from
the same cycle on. -/
def State.copyOut (s : State) (set w : Nat) (evict : Bool) (kind : LKind) : State × Nat :=
  let v := s.way set w
  let n := s.sliceOf set
  let t := s.takeEntry n v.lpn v.region evict kind
  let s1 := t.1.fillFromSlice t.2
  let s2 := (s1.mergeReads t.2).setWay set w { v with dirty := 0 }
  let s3 := s2.gate (s.pwr.gated && v.isDirty) fun s => s.modEntry t.2 fun l => { l with minAcc := some s.pwr.gateFn }
  (s3.noteDirty n, t.2)

/-- R285. Record MERGE_POISONED once for an entry that holds all 64 sectors with sectors its merges poisoned. -/
def State.noteMerge (s : State) (k : Nat) : State :=
  let l := s.entryK k
  if l.valid = BitVec.allOnes 64 ∧ l.merged ≠ 0 ∧ l.noted = false then
    let n := k / 512
    (s.modEntry k fun l => { l with noted := true }).record (bCs n) (185 + 4 * n) 0x0841 .error
      [(6, l.lpn * 4096 + 64 * (lowestBit l.merged).getD 0), (8, l.merged.toNat)]
  else s

/-! ### DRAM errors (R268) -/

/-- R298, R575. The lowest source ID of block `b`; log entry 20 for blocks the map does not name. -/
def blkSource (b : Nat) : Nat :=
  if b = bTop then 380 else if b = bTt then 368 else if b = bSq then 296
  else if b < 5 then 248 + 12 * blkInst b
  else if b < 21 then 184 + 4 * blkInst b
  else if b = bXl then 372
  else if b < 40 then 8 * blkInst b
  else if b < 44 then 144 + 10 * blkInst b
  else if b = bCry then 288 else if b = bSec then 289 else if b = bMnt then 336 else if b = bBrg then 344
  else if b = bFry then 272 else if b = bEvq then 381 else if b = bCen then 373 else if b = bPwr then 304
  else if b = bPst then 383 else 352

/-- R298. The source of a DRAM device. -/
def dramSrc (c u dev : Nat) : Nat := 144 + 10 * c + 5 * u + dev

/-- R268, R298. A burst failed twice: the record, at most once per frame for its subchannel. The state item is 0 clean,
1 dirty, 2 no valid cache sector. -/
def State.dramUncorrectable (s : State) (c u x lpn sector st : Nat) : State :=
  let s1 := s.modDrc c fun d => { d with uncorr := sat32 d.uncorr 1 }
  let s2 := s1.modSub c u fun v => { v with uncorrFns := v.uncorrFns ++ [s.tt.fn] }
  s2.recordOnce (2 * c + u) (bDrc c) (dramSrc c u 4) 0x0812 .error [(5, x), (5, lpn), (1, sector), (1, st)]

end Sys2Proof.Machine
end

