-- ==== Sys2Proof/Machine/Sched.lean ====
section
/-!
DEFINITION. The timetable's schedule: beats and maps (R68–R76), the planes' occupation (R83, R84, R92), the reservation
of media reads (R251, R252), and what a crossing needs to be granted (R83, R85, R86, R126, R171, R225, R253, R254).
-/
namespace Sys2Proof.Machine

/-! ### Beat maps -/

/-- R70. The slot word of slot `n` of map `m`: map 3 is fixed, maps 0 to 2 are loaded. -/
def State.slotWord (s : State) (m n : Nat) : BitVec 16 :=
  if m = 3 then 0x0555#16 else (s.tt.maps.getD m []).getD n 0

/-- R69. The class of beat `b` of a slot word: 0 read, 1 write, 2 maintenance, 3 invalid. -/
def beatOf (w : BitVec 16) (b : Nat) : Nat := bits w (2 * b) 2

/-- The class of beat `b` of slot `n` under the map in force. -/
def State.beatClass (s : State) (n b : Nat) : Nat := beatOf (s.slotWord s.tt.map n) b

/-- R252 item 1. The read beats of absolute slot `u`: of a later frame, only the beats that are read in the map in force
and in every map that may be selected. -/
def State.readBeats (s : State) (u : Nat) : Nat :=
  let n := u % 16
  let maps := if u / 16 = s.frame then [s.tt.map]
    else s.tt.map :: ((List.range 3).filter fun m => (s.actW bTt 0x028).getLsbD m)
  (List.range 6).countP fun b => maps.all fun m => beatOf (s.slotWord m n) b == 0

/-- R254. The write beats per frame of the map in force. -/
def State.writeBeats (s : State) : Nat :=
  (List.range 16).foldl (fun a n => a + (List.range 6).countP fun b => s.beatClass n b == 1) 0

/-! ### Planes -/

/-- The channels a crossing writes. -/
def Crossing.chans (x : Crossing) : List Nat := x.cws.map fun p => p.1

/-- R84. Suspensions of a crossing on channel `c`. -/
def Crossing.k (x : Crossing) (c : Nat) : Nat := x.susp.getD c 0

/-- R84. The largest number of suspensions on any channel. -/
def Crossing.kMax (x : Crossing) : Nat := x.susp.foldl (fun m p => max m p.2) 0

/-- R84. The crossing holds its plane on channel `c` in absolute slot `u`, when `owed` more suspensions are to come. -/
def Crossing.holds (x : Crossing) (c u : Nat) (owed : Nat := 0) : Bool :=
  x.chans.contains c && !x.done.contains c && decide (x.slot ≤ u) && decide (u ≤ x.slot + 9 + x.k c + owed)

/-- R84. The write holds its plane in absolute slot `u`, when `owed` more suspensions are to come. -/
def CwWrite.holds (w : CwWrite) (u owed : Nat) : Bool :=
  match w.slot with
  | some t => decide (t ≤ u) && decide (u ≤ t + 9 + w.susp + owed)
  | none => false

/-- R92. The suspensions that reserved reads still ask of a write of a plane that begins in slot `start`; `now` is the slot for
which it is suspended already. -/
def State.owed (s : State) (c d p start : Nat) (now : Option Nat) : Nat :=
  s.media.reads.countP fun m => m.suspends && m.beat.isNone && m.chans.contains c && dieOf m.psn == d && planeOf m.psn == p
    && decide (s.now < m.slot) && decide (start < m.slot) && now != some m.slot

/-- R84, R92. The write that holds a plane of a channel in a slot: its first slot, and its suspensions, made and owed. -/
def State.planeWrite (s : State) (c d p u : Nat) : Option (Nat × Nat) :=
  let xOwed (x : Crossing) : Nat := s.owed c d p x.slot (x.suspended.get? c)
  let wOwed (w : CwWrite) : Nat := s.owed c d p (w.slot.getD 0) w.suspended
  match s.media.crossings.find? fun x => dieOf x.psn == d && planeOf x.psn == p && x.holds c u (xOwed x) with
  | some x => some (x.slot, x.k c + xOwed x)
  | none =>
    (s.media.rewrites.find? fun w => w.mch == c && dieOf w.psn == d && planeOf w.psn == p && w.holds u (wOwed w)).map fun w =>
      (w.slot.getD 0, w.susp + wOwed w)

/-- A media read is reserved or commanded on channel `c` for slot `u`. -/
def MediaRead.at (m : MediaRead) (c u : Nat) : Bool :=
  m.chans.contains c && m.slot == u && !m.got.contains c && (m.beat.isSome || !m.waits)

/-- R252. Slot `u` is eligible on channel `c` for a read of a plane: the answer tells whether a write is suspended. -/
def State.eligible (s : State) (c d p u : Nat) : Option Bool :=
  let mine := s.media.reads.filter fun m => m.at c u
  if s.readBeats u ≤ mine.length then none
  else if mine.any fun m => dieOf m.psn == d && planeOf m.psn == p then none
  else match s.planeWrite c d p u with
    | none => some false
    | some (start, k) => if k < 4 ∧ start < u ∧ (mine.any fun m => m.suspends) = false then some true else none

/-- R3, R84. The row of a stripe may be read on channel `c` in the slot that runs: no write of it is in flight, and its settle slot
has passed. `strict` counts a crossing from its grant, not from its launch (R126). -/
def State.rowReady (s : State) (c psn : Nat) (strict : Bool) : Bool :=
  !(s.media.crossings.any fun x => x.psn == psn && x.chans.contains c && (strict || decide (x.slot ≤ s.now)))
    && !(s.media.rewrites.any fun w => w.psn == psn && w.mch == c && w.slot.isSome)
    && !(s.media.settling.any fun e => e.1 == psn && e.2.1.contains c && decide (s.now < e.2.2))

/-- R126. A crossing of this stripe has been granted, or its row may not yet be read. -/
def State.crossingOn (s : State) (psn : Nat) : Bool := (List.range 18).any fun c => !s.rowReady c psn true

/-- R3, R84. A row was written: it may be read from absolute slot `t` on. -/
def State.settleRow (s : State) (psn : Nat) (cs : List Nat) (t : Nat) : State :=
  { s with media := { s.media with
    settling := (s.media.settling.filter fun e => decide (s.now < e.2.2)) ++ [(psn, cs, t)] } }

/-- R206, R251. Reserve a read of position `pos` of a stripe admitted in slot `t`: step, channels, slot, and whether it
suspends a write. A position that is missing reconstructs; a stripe with two missing ends at step 4. -/
def State.reserve (s : State) (psn pos t : Nat) : Option (Nat × List Nat × Nat × Bool) :=
  let d := dieOf psn
  let p := planeOf psn
  if s.missing psn pos then
    let others := (List.range 17).filter fun q => q != pos
    if others.any fun q => s.missing psn q then some (4, [], t, false)
    else
      let cs := others.map fun q => s.assigned d q
      let ok (u : Nat) : Bool := cs.all fun c => (s.eligible c d p u).isSome
      ([t + 1, t + 2, t + 3, t + 4].find? ok).map fun u => (3, cs, u, cs.any fun c => s.eligible c d p u == some true)
  else
    let c := s.assigned d pos
    ([t + 1, t + 2, t + 3].find? fun u => (s.eligible c d p u).isSome).map fun u =>
      (1, [c], u, s.eligible c d p u == some true)

/-! ### Grants -/

/-- The class whose caps hold: 3 while a hold-up flush runs on the bank (R541). -/
def State.capClass (s : State) : Nat := if s.tt.forced && s.pwr.onBank then 3 else s.tt.cls

/-- R254. Write completions wait for this entry. -/
def Landing.waits (l : Landing) : Bool := !l.waiters.isEmpty

/-- R171. No older entry of the LPN is short of Released. -/
def State.oldest (s : State) (l : Landing) : Bool :=
  (s.landingsOf l.lpn).all fun p => !(decide (p.2.ord < l.ord)) || p.2.st == .released

/-- R158. A byte-enable write that waits for its block has the entry reserved: its merge comes before the crossing. -/
def State.reserved (s : State) (l : Landing) : Bool :=
  s.media.reads.any fun m => m.joined.any fun r => r.kind == .byteEnable && l.waiters.any fun w => w.id == r.id

/-- R158, R168, R171. The entry is offered to TT. -/
def State.offered (s : State) (l : Landing) : Bool :=
  l.st == .ready && !s.moving l && s.oldest l && !s.reserved l && !s.sec.error

/-- R254. The entry has the priority of WAITERS: it has waiters, or a younger entry of its LPN that has. -/
def State.urgent (s : State) (l : Landing) : Bool :=
  l.waits || (s.landingsOf l.lpn).any fun p => decide (l.ord < p.2.ord) && p.2.waits

/-- R254. The order that counts among waiting entries: that of the waiting entry itself. -/
def State.urgentOrd (s : State) (l : Landing) : Nat :=
  if l.waits then l.ord
  else ((s.landingsOf l.lpn).filter fun p => p.2.waits).foldl (fun m p => min m p.2.ord) (s.cache.nextOrd + l.ord)

/-- R314, R469. The crossing of the entry is the host's: that of a page the repaver rewrites is a maintenance start. -/
def Landing.isHost (l : Landing) : Bool := l.kind != .rekey

/-- R254, R469. The rank of an entry: waiting ones first, then the repaver's, then all others. -/
def State.rank (s : State) (l : Landing) : Nat := if s.urgent l then 0 else if l.isHost then 2 else 1

/-- R254, R469. Entry `a` goes ahead of entry `b`. -/
def State.ahead (s : State) (a b : Landing) : Bool :=
  decide (s.rank a < s.rank b) || (s.rank a == s.rank b &&
    (if s.rank a = 0 then
      decide (s.urgentOrd a < s.urgentOrd b) || (s.urgentOrd a == s.urgentOrd b && decide (a.ord < b.ord))
     else decide (a.ord < b.ord)))

/-- R83, R253, R88. The channels of a stripe can all start a write of it in slot `u` at beat `b`. Condition 3 of R83 is kept where a
read is commanded: none takes a later beat of the slot before than the write's. -/
def State.planesFree (s : State) (cs : List Nat) (psn u b : Nat) : Bool :=
  let d := dieOf psn
  let p := planeOf psn
  !(s.tt.excluded.getLsbD d) && cs.all fun c =>
    (s.planeWrite c d p u).isNone
      && !(s.media.crossings.any fun x => x.slot == u && x.chans.contains c && (dieOf x.psn == d || x.beat == b))
      && !(s.media.rewrites.any fun w => w.mch == c && dieOf w.psn == d && w.slot == some u)
      && !s.media.transfers.contains (c, u, b)
      && !(s.media.reads.any fun m => m.chans.contains c && dieOf m.psn == d && planeOf m.psn == p && !m.got.contains c
            && (m.beat.isSome || !m.waits) && decide (u ≤ m.slot) && decide (m.slot ≤ u + 2))

/-- R85, R86. The caps leave a start in absolute slot `u`: per slot and per frame, with the frame's reserved start kept
from host crossings until slot 15 begins. -/
def State.capRoom (s : State) (u : Nat) (host : Bool) : Bool :=
  let caps := classCaps s.capClass
  let f := u / 16
  let inFrame := s.tt.starts.foldl (fun a p => if p.1 / 16 = f then a + p.2 else a) 0
  let cw (v : Nat) : Nat := b2n (s.tt.cwSlots.contains v)
  let cws := ((List.range 16).map fun i => cw (f * 16 + i)).sum
  let hosts := s.tt.hostStarts.foldl (fun a p => if p.1 / 16 = f then a + p.2 else a) 0
  decide (s.tt.starts.getD u 0 + cw u < caps.1) && decide (inFrame + cws < caps.2.1)
    && (!host || s.capClass == 3 || decide (u % 16 = 15) || decide (hosts < caps.2.2))

/-- R225. The guard of the district lets a host crossing of this PSN be granted: a repeat waits 8 frames. -/
def State.guardOk (s : State) (d psn : Nat) : Bool :=
  let g := s.media.guards.getD d {}
  !(g.psns.contains psn) || (match g.lastRepeat with
    | some f => decide (f + 8 ≤ s.frame)
    | none => true)

/-- R126 item 2. A page in motion is granted a crossing no earlier than the slot after its copy commits; grants are made two slots
ahead. -/
def State.moveOk (s : State) (lpn u : Nat) : Bool :=
  match s.moveOf (s.psnOfLpn lpn) with
  | some m => (match m.readableAt with
      | some t => decide (t + 2 ≤ u)
      | none => !m.started)
  | none => true

/-- R74. A crossing may take a beat of this class. -/
def State.beatOk (s : State) (n b : Nat) : Bool := s.beatClass n b == 1 || s.beatClass n b == 2

/-- R75. While it applies, under a map with no maintenance beats, the last write beat of slots 3, 7, 11 and 15 serves eligible
maintenance work first. -/
def State.r75Beat (s : State) (n b : Nat) : Bool :=
  let last := ((List.range 6).filter fun i => s.beatClass n i == 1).getLast? == some b
  let bare := (List.range 16).all fun i => (List.range 6).all fun j => s.beatClass i j != 2
  s.mnt.r75 && bare && n % 4 == 3 && last

/-- The PSN that a landing entry's crossing writes. -/
def State.landingPsn (s : State) (l : Landing) : Nat := s.writePsn l.lpn

/-- R83, R85, R86. A maintenance crossing of a stripe can be granted slot `u`, beat `b`. -/
def State.maintStart (s : State) (psn u b : Nat) : Bool :=
  s.planesFree (s.stripeChans psn) psn u b && s.capRoom u false && s.beatOk (u % 16) b

/-- R82, R124, R134. A copy whose codewords are held can be granted slot `u`, beat `b`. -/
def State.copyStart (s : State) (m : Move) (u b : Nat) : Bool := !m.granted && !m.ws.isEmpty && s.maintStart m.dst u b

/-- R82, R314, R475. The blank of a page can be granted slot `u`, beat `b`. -/
def State.blankStart (s : State) (lpn u b : Nat) : Bool := s.moveOk lpn u && s.maintStart (s.writePsn lpn) u b

/-- R469. A maintenance crossing other than the repaver's could take slot `u`, beat `b`. -/
def State.otherStart (s : State) (u b : Nat) : Bool :=
  (s.xl.moves.any fun m => s.copyStart m u b) || s.media.internal.any fun p => s.maintStart p.1 u b

/-- R72, R74, R75, R468. Some maintenance work could take beat `b` of slot `u` on one of the channels: a crossing, a rewrite owed, or a
read that waits. -/
def State.maintEligible (s : State) (cs : List Nat) (u b : Nat) : Bool :=
  s.otherStart u b || (s.sec.blank.any fun l => s.blankStart l u b)
    || (s.media.rewrites.any fun w => w.slot.isNone && cs.contains w.mch && !s.tt.excluded.getLsbD (dieOf w.psn)
          && (s.planeWrite w.mch (dieOf w.psn) (planeOf w.psn) u).isNone)
    || s.media.reads.any fun m => m.kind == .maintenance && m.beat.isNone && m.bad.isEmpty && m.result.isNone
          && decide (m.step ≤ 3) && (m.chans.any fun c => cs.contains c)
          && m.chans.all fun c => (s.planeWrite c (dieOf m.psn) (planeOf m.psn) u).isNone

/-- R74, R75. A host crossing may take beat `b` of slot `u`: a maintenance beat, or a beat R75 gives to maintenance, only when no
maintenance work is eligible for it. -/
def State.hostBeat (s : State) (cs : List Nat) (u b : Nat) : Bool :=
  s.beatOk (u % 16) b && ((s.beatClass (u % 16) b == 1 && !s.r75Beat (u % 16) b) || !s.maintEligible cs u b)

/-- R83–R86, R126, R225, R253. A landing entry can be granted slot `u`, beat `b`. -/
def State.canCross (s : State) (l : Landing) (u b : Nat) : Bool :=
  let psn := s.landingPsn l
  let cs := s.stripeChans psn
  s.offered l && s.moveOk l.lpn u && s.guardOk (distOf l.lpn).1 psn && s.planesFree cs psn u b && s.capRoom u l.isHost
    && (if l.isHost then s.hostBeat cs u b else s.beatOk (u % 16) b)

/-- R254, R469. Nothing that goes ahead of this entry could take the same slot and beat: another entry, or a maintenance start, of
which the repaver's yields to entries that wait. -/
def State.isNext (s : State) (k : Nat) (l : Landing) (u b : Nat) : Bool :=
  (s.cache.landing.all fun p => p.1 == k || !(s.canCross p.2 u b) || !(s.ahead p.2 l))
    && !(l.isHost && (s.otherStart u b || (!s.urgent l && s.sec.blank.any fun x => s.blankStart x u b)))

end Sys2Proof.Machine
end

