-- ==== Sys2Proof/Machine/HostMem.lean ====
section
/-!
DEFINITION. CXL.mem: decode at the head (R109, R440), lookup (R151), choice of a way (R161), admission (R250), write
policies (R156, R175, R236), the commit page (R238–R240), fills (R154, R285), and their commands.
-/
namespace Sys2Proof.Machine

/-! ### Decode -/

/-- R109, R440. The DPA a head's committed decoders give a host physical address. -/
def State.hdmDecode (s : State) (h hpa : Nat) : Option Nat :=
  ((s.hp h).hdms.find? fun p => decide (p.2.base * 2 ^ 28 ≤ hpa) && decide (hpa < (p.2.base + p.2.size) * 2 ^ 28)).map
    fun p =>
      let off := hpa - p.2.base * 2 ^ 28
      p.2.dpa * 2 ^ 28 + off / (p.2.gran * p.2.ways) * p.2.gran + off % p.2.gran

/-- R559, R332, R344, R432. Why user memory is not served: 0 served, 1 before Memory_Active or disabled, 2 locked, 3 the
error state. -/
def State.closed (s : State) : Nat :=
  if s.start.memActive = false ∨ s.start.disabled = true then 1
  else if s.sec.pass.locked then 2
  else if s.sec.error then 3
  else 0

/-- R114, R119. The region of a DPA that head `h` owns in its own copy. -/
def State.headRegion (s : State) (h dpa : Nat) : Option Nat :=
  (s.regionAt (bHp h) dpa).filter fun n => s.owner (s.region (bHp h) n) == h

/-- R332, R622. Count a read or a write made while the module is locked. -/
def State.lockedAccess (s : State) (h : Nat) (write : Bool) : State := s.tally 0x0952 294 (2 * h + b2n write) 1

/-! ### The commit page -/

/-- R238, R239. The 40 + 8 bytes of a head's commit page, and zeros after them. -/
def State.commitBytes (s : State) (h : Nat) : List (BitVec 8) :=
  let d := s.head h
  leBytes 8 s.tt.fn ++ leBytes 8 d.acceptedFn ++ leBytes 8 d.mediaFn ++ leBytes 8 d.pairFn
    ++ leBytes 8 (s.commitState h) ++ leBytes 8 d.firstFn

/-- R112, R240. A read in the commit window: the snapshot in the commit page, zeros elsewhere. -/
def State.windowRead (s : State) (h dpa : Nat) : Sector :=
  if dpa / 64 = commitPage / 64 then BitVec.ofNat 512 (ofBytes (s.commitBytes h)) else 0

/-! ### Choosing a way -/

/-- The unlocked ways of a set, by falling AGE. -/
def State.victims (s : State) (set : Nat) : List Nat :=
  let cs := (List.range 8).filter fun w => !(s.way set w).lock
  (List.range 8).reverse.filterMap fun a => cs.find? fun w => (s.way set w).age == a

/-- R148, R161. The free way that is taken first: the lowest-numbered one allocated to no page, or else the lowest-numbered one whose
page holds nothing yet (log entry 136). -/
def State.freeWay (s : State) (set : Nat) : Option Nat :=
  ((List.range 8).find? fun w => (s.way set w).free && !(s.way set w).used).or ((List.range 8).find? fun w => (s.way set w).free)

/-- R161. The way a page miss takes, and whether its dirty page moves to a landing entry. -/
def State.chooseWay (s : State) (set : Nat) : Option (Nat × Bool) :=
  match s.freeWay set with
  | some w => some (w, false)
  | none =>
    match s.victims set with
    | [] => none
    | w :: t =>
      if (s.way set w).isDirty = false then some (w, false)
      else if s.landingRoom (s.sliceOf set) true then some (w, true)
      else (t.find? fun v => !(s.way set v).isDirty).map fun v => (v, false)

/-- R26, R161. Free a way: a clean page is dropped, a dirty one begins its move to a landing entry, whose key is the answer. -/
def State.evictWay (s : State) (set w : Nat) : State × Option Nat :=
  let v := s.way set w
  let n := s.sliceOf set
  if v.isDirty then
    let t := s.copyOut set w true .host
    let s1 := t.1.modEntry t.2 fun l => { l with moving := true, moveNs := s.ns }
    ((s1.setWay set w v.dropped).count (bCs n) 0x45 1, some t.2)
  else ((s.setWay set w v.dropped).count (bCs n) 0x44 (b2n !v.free), none)

/-- R150, R160. Allocate a way for a page; the entry a fill must wait for is part of the answer. -/
def State.allocWay (s : State) (set w lpn region : Nat) : State × Option Nat :=
  let t := s.evictWay set w
  let v := t.1.way set w
  ((t.1.setWay set w { lpn := lpn, age := v.age, region := region, used := true } true).touch set w, t.2)

/-- R161. The page of a write takes the way chosen for it, if one was. -/
def State.allocChosen (s : State) (c : Option (Nat × Bool)) (set lpn region : Nat) : State :=
  match c with
  | some c => (s.allocWay set c.1 lpn region).1
  | none => s

/-! ### Media reads of a request -/

/-- R119, R151, R251. Begin a block read for a request, with its reservation. -/
def State.startRead (s : State) (r : HostReq) (j : Nat) (kind : ReadKind) (way entry after : Option Nat) :
    Option State :=
  let lpn := lpnOfDpa r.dpa
  if 256 ≤ s.tracked (s.sliceOf (s.setOf lpn)) then none
  else if s.xlServes lpn = false then
    some (s.unserved { id := 0, kind := kind, lpn := lpn, block := j, psn := s.readPsn lpn, pos := 0, chans := [], slot := s.now
                       joined := [r], way := way, entry := entry, after := after })
  else
    let psn := s.readPsn lpn
    (s.reserve psn (blockPos psn j) s.now).map fun v =>
      let pos := blockPos psn j
      let q := { r with row := if v.1 = 3 then 2 else if r.kind = .read then 1 else 6
                        susp := v.2.2.2, mch := s.assigned (dieOf psn) pos }
      let m : MediaRead := { id := s.media.nextId, kind := kind, lpn := lpn, block := j
                             psn := psn, pos := pos, step := v.1, chans := v.2.1, slot := v.2.2.1, suspends := v.2.2.2
                             joined := [q], way := way, entry := entry, after := after }
      let s1 : State := { s with media := { s.media with reads := s.media.reads ++ [m], nextId := s.media.nextId + 1 } }
      (s1.translates lpn 1).gate (v.1 == 4) fun s => s.ladderEnd m

/-- R153. Join a request to the read of its block that is in flight, if one has a place; the answer is none inside when it
must wait. The block then fills the request's way too. -/
def State.joinRead (s : State) (r : HostReq) (j : Nat) (way after : Option Nat) : Option (Option State) :=
  let lpn := lpnOfDpa r.dpa
  match s.media.reads.find? fun m => m.lpn == lpn && m.block == j && m.use == .fill && !m.apart with
  | none => none
  | some m =>
    if m.joined.length < 16 then
      let q := { r with row := if m.step = 3 then 2 else if r.kind = .read then 1 else 6, susp := m.suspends
                        mch := s.assigned (dieOf m.psn) m.pos }
      some (some { s with media := { s.media with
        reads := s.media.reads.map fun x =>
          if x.id = m.id then { x with joined := x.joined ++ [q], way := x.way.or way, after := x.after.or after } else x } })
    else some none

/-- R153. The block read of a request: it joins the one in flight, or begins one; none when it must wait. -/
def State.blockRead (s : State) (r : HostReq) (j : Nat) (way entry after : Option Nat) : Option State :=
  match s.joinRead r j way after with
  | some t => t
  | none => s.startRead r j .host way entry after

/-! ### Reads -/

/-- R151, R188, R190. A read hits sector `i` of a way. Of a set that is served uncached only what media does not hold is read there. -/
def State.readHits (s : State) (set w i : Nat) : Bool :=
  let v := s.way set w
  v.valid.getLsbD i && (!s.uncached set || v.dirty.getLsbD i)

/-- R152, R250. Admit a read that hits sector `i` of a way: its burst, with the metadata line's when the block is mixed, or poison when the
sector was lost with its channel (R186). -/
def State.admitHit (s : State) (q : HostReq) (set w i : Nat) : Option State :=
  let n := s.sliceOf set
  let c := s.setDram set
  let a := s.sectorAddr set w i
  let v := s.way set w
  let line := if v.mixed (i / 4) then some (s.metaAddr set w) else none
  if s.lostSet set then some ((s.respondRead q 0 true).countCs q n 0x40)
  else if s.readRoom c a line then
    let d : DrcRead := { req := q, addr := a, metaAddr := line, data := s.waySector set w i, poison := v.poison.getLsbD i
                         dirty := v.dirty.getLsbD i }
    let s1 := s.modSub c (subOf a) fun u => { u with readQ := u.readQ ++ [d] }
    some ((s1.touch set w).countCs q n 0x40)
  else none

/-- R151, R188, R250. Admit a read that neither the cache nor a landing entry serves. -/
def State.admitMiss (s : State) (r q : HostReq) : Option State :=
  let lpn := lpnOfDpa r.dpa
  let j := sectorOf r.dpa / 4
  let set := s.setOf lpn
  let n := s.sliceOf set
  if (s.regionAt bXl r.dpa).isNone then some (s.respondRead { q with outcome := 6 } 0 true)
  else if s.uncached set then s.blockRead { q with outcome := 4 } j none none none
  else match s.findWay lpn with
    | some w => (s.blockRead { q with outcome := 2 } j (some w) none none).map fun s => (s.touch set w).countCs q n 0x42
    | none => (s.chooseWay set).bind fun c =>
        let t := s.allocWay set c.1 lpn r.region
        (t.1.blockRead { q with outcome := 3 } j (some c.1) none t.2).map fun s => s.countCs q n 0x43

/-- R151, R250. Admit a read, or none while a resource it needs is not free. -/
def State.admitRead (s : State) (r : HostReq) : Option State :=
  let lpn := lpnOfDpa r.dpa
  let i := sectorOf r.dpa
  let set := s.setOf lpn
  let q := { r with admitNs := s.ns, outcome := 0, row := 0 }
  match (s.findWay lpn).filter fun w => s.readHits set w i with
  | some w => s.admitHit q set w i
  | none =>
    match s.landingSector lpn i fun _ => true with
    | some d =>
      if s.uncached set || s.landingRead set then
        some ((s.respondRead { q with outcome := 1 } d.1 d.2).countCs q (s.sliceOf set) 0x41)
      else none
    | none => s.admitMiss r { q with row := 1 }

/-! ### Writes -/

/-- R254. The commit-wait cap leaves a place. -/
def State.waitRoom (s : State) : Bool :=
  let cap := min (classCaps s.capClass).2.2 s.writeBeats
  decide ((s.cache.landing.countP fun p => p.2.waits && (p.2.st == .filling || p.2.st == .ready)) < cap)

/-- R157, R175. The newest entry of an LPN that still takes writes. -/
def State.openEntry (s : State) (lpn : Nat) : Option Nat :=
  match newest (s.landingsOf lpn) with
  | some p => if p.2.st = .filling ∨ p.2.st = .ready then some p.1 else none
  | none => none

/-- R156, R188. The write policy a region's writes follow: write-through while the cache drains. -/
def State.policyOf (s : State) (n region : Nat) : Nat := if s.draining then 1 else (s.region (bCs n) region).policy

/-- R156, R175, R188. But for gating, the write completes at acceptance: a write-back write, or a read-mostly write of a page
that is resident or leaving; never one that is served uncached. -/
def State.writesBack (s : State) (policy lpn : Nat) : Bool :=
  !s.uncached (s.setOf lpn)
    && (policy == 0 || (policy == 3 && ((s.findWay lpn).isSome || !(s.landingsOf lpn).isEmpty)))

/-- R156, R236. The write is carried by a landing entry and completes at its commit. -/
def State.carried (s : State) (policy lpn : Nat) : Bool := !s.writesBack policy lpn || s.pwr.gated

/-- R156, R175. The write allocates: its page is not resident, no open entry takes it, and it is not a write-around. -/
def State.allocates (s : State) (policy lpn : Nat) : Bool :=
  (s.findWay lpn).isNone && (s.openEntry lpn).isNone && !s.uncached (s.setOf lpn)
    && (policy == 1 || s.writesBack policy lpn)

/-- R285. Merge the enabled bytes of a write into a sector. -/
def mergeBytes (old new : Sector) (be : BitVec 64) : Sector :=
  let m : BitVec 512 := (List.range 64).foldl (fun a i =>
    if be.getLsbD i then a ||| (0xff#512 <<< (8 * i)) else a) 0
  (old &&& ~~~m) ||| (new &&& m)

/-- R275. The poison list's source of a sector that a request writes poisoned. -/
def poisonFrom : Origin → PoisonSource
  | .host _ _ => .external
  | .command _ => .injected
  | _ => .internal

/-- R275, R276. The poison list follows a write of sector `i`: poison from outside enters, a clean whole sector leaves. -/
def State.notePoison (s : State) (o : Origin) (lpn i : Nat) (poison whole : Bool) : State :=
  if poison then (if whole then s.poisonPage (poisonFrom o) lpn (bit64 i) else s)
  else s.clearPage lpn (bit64 i)

/-- R370. The region's on-mirror completion acts on this write. -/
def State.onMirror (s : State) (n region : Nat) : Bool :=
  let g := s.region (bCs n) region
  g.mirror && s.pairCfg && g.completion == 1 && s.joined && s.isLead

/-- R157, R175. The newest open entry of the page takes the sector of a carried or merged write, or a new entry does. -/
def State.putEntry (s : State) (r : HostReq) (d : Sector) (p : Bool) : State × Nat :=
  let lpn := lpnOfDpa r.dpa
  let i := sectorOf r.dpa
  let n := s.sliceOf (s.setOf lpn)
  match s.openEntry lpn with
  | some k => ((s.modEntry k fun l => l.put i d p).count (bCs n) 0x48 1, k)
  | none =>
    let e := s.takeEntry n lpn r.region false .host
    let s4 := (e.1.modEntry e.2 fun l => l.put i d p).fillFromSlice e.2
    (s4.mergeReads e.2, e.2)

/-- R188. A write to a page on a channel that failed goes into a landing entry alone: its way has the sector no more. -/
def State.forget (s : State) (set w i : Nat) : State := s.setWay set w ((s.way set w).without i)

/-- R166, R250. The dirty share has room for a write that makes a clean page dirty, allocates a page or takes an entry. -/
def State.shareRoom (s : State) (lpn : Nat) (alloc needEntry carry : Bool) : Bool :=
  let set := s.setOf lpn
  let clean := (s.findWay lpn).any fun w => !(s.way set w).isDirty
  s.dirtyRoom (s.sliceOf set) lpn || !(alloc || needEntry || (clean && !carry))

/-- R156, R175, R236. Place an admitted write: in its way `w`, in the landing entry that carries it or that it merges into,
and on the mirror. -/
def State.placeWrite (s : State) (r q : HostReq) (d : Sector) (p whole : Bool) (w : Option Nat)
    (carry merge mirror om : Bool) : State :=
  let lpn := lpnOfDpa r.dpa
  let i := sectorOf r.dpa
  let set := s.setOf lpn
  let s2 := match w with
    | some w => (s.writeWay set w i d (!carry) p).touch set w
    | none => s
  let s3 := s2.notePoison r.origin lpn i p (whole || r.poison)
  let s4 := s3.gate (carry || merge) fun s3 =>
    let t := s3.putEntry r d p
    t.1.modEntry t.2 fun l => { l with
      minAcc := some (min (l.minAcc.getD s.tt.fn) s.tt.fn), waiters := if carry then l.waiters ++ [q] else l.waiters }
  let s5 := (s4.accepted q).gate mirror fun s => s.mirrorOut q d p om
  let s6 := s5.noteDirty (s.sliceOf set)
  if carry then s6 else s6.writeDone q false

/-- R156, R175, R236, R250. Write sector data of an admitted request by its region's policy, or none while a resource is
not free. `d` is the whole sector, `p` its poison, `whole` tells that the host wrote every byte. -/
def State.writeSector (s : State) (r : HostReq) (d : Sector) (p whole : Bool) : Option State :=
  let lpn := lpnOfDpa r.dpa
  let i := sectorOf r.dpa
  let set := s.setOf lpn
  let n := s.sliceOf set
  let lost := s.lostSet set
  let way := s.findWay lpn
  let policy := s.policyOf n r.region
  let mirror := s.mirrored (bCs n) r.region
  let om := s.onMirror n r.region
  let opn := s.openEntry lpn
  let merge := way.isNone && opn.isSome && s.writesBack policy lpn
  let carry := s.carried policy lpn
  let alloc := s.allocates policy lpn
  let needEntry := carry && opn.isNone
  let q := { r with admitNs := s.ns, row := if carry then 5 else if om then 4 else 3
                    outcome := if merge || (carry && opn.isSome) then 7 else if s.uncached set then 4
                               else if way.isSome then 0 else 3 }
  let chosen := if alloc then s.chooseWay set else none
  let s1 := (s.allocChosen chosen set lpn r.region).gate lost fun s => match way with
    | some w => s.forget set w i
    | none => s
  let w' := if lost then none else way.or (chosen.map fun c => c.1)
  let room := match w' with
    | some w => s1.dramRoom (s1.setDram set) (s1.sectorAddr set w i)
    | none => true
  if (alloc && chosen.isNone) || !s.shareRoom lpn alloc needEntry carry || (mirror && !s.mirrorRoom) || (carry && !s.waitRoom)
      || (needEntry && !s.landingRoom n false) || !room then none
  else some (s1.placeWrite r q d p whole w' carry merge mirror om)

/-- R154, R158. Sector `i` of a page as the slice holds it: the valid sector of the cache, or of the newest entry. -/
def State.sectorHere (s : State) (lpn i : Nat) : Option (Sector × Bool) :=
  (s.cacheSector lpn i).or (s.landingSector lpn i fun _ => true)

/-- R158, R250. The landing entry that a byte-enable write reserves before its block is read: the open one, or a new one
for a write that is carried, which waits for its commit from then on. -/
def State.reserveEntry (s : State) (q : HostReq) (carry : Bool) : State × Option Nat :=
  let lpn := lpnOfDpa q.dpa
  let n := s.sliceOf (s.setOf lpn)
  let t := match s.openEntry lpn with
    | some k => (s, if carry || (s.findWay lpn).isNone then some k else none)
    | none =>
      if carry then
        let e := s.takeEntry n lpn q.region false .host
        (e.1.noteDirty n, some e.2)
      else (s, none)
  match t.2 with
  | some k => (t.1.gate carry fun s => s.modEntry k fun l => { l with waiters := l.waiters ++ [q] }, some k)
  | none => t

/-- R250. The DRC write queue has a place for sector `i` of a way, unless the way is on a channel that failed. -/
def State.wayRoom (s : State) (set w i : Nat) : Bool := s.lostSet set || s.dramRoom (s.setDram set) (s.sectorAddr set w i)

/-- R158, R250. Read the block of a byte-enable write as a block miss, a page miss, or without allocation, filling `entry` too. -/
def State.mergeRead (s : State) (q : HostReq) (alloc : Bool) (entry : Option Nat) : Option State :=
  let lpn := lpnOfDpa q.dpa
  let i := sectorOf q.dpa
  let set := s.setOf lpn
  let n := s.sliceOf set
  match s.findWay lpn with
  | some w =>
    if s.wayRoom set w i = false then none
    else if s.uncached set then s.blockRead q (i / 4) none entry none
    else (s.blockRead q (i / 4) (some w) entry none).map fun s => (s.touch set w).countCs q n 0x42
  | none =>
    if alloc then (s.chooseWay set).bind fun c =>
      let t := s.allocWay set c.1 lpn q.region
      if t.1.wayRoom set c.1 i then (t.1.blockRead q (i / 4) (some c.1) entry t.2).map fun s => s.countCs q n 0x43 else none
    else s.blockRead q (i / 4) none entry none

/-- R158, R250. Admit a write, or none while a resource is not free. -/
def State.admitWrite (s : State) (r : HostReq) : Option State :=
  let lpn := lpnOfDpa r.dpa
  let i := sectorOf r.dpa
  let set := s.setOf lpn
  let n := s.sliceOf set
  match r.kind with
  | .byteEnable =>
    match s.sectorHere lpn i with
    | some (d, p) => s.writeSector r (mergeBytes d r.data r.be) (p || r.poison) false
    | none =>
      let policy := s.policyOf n r.region
      let carry := s.carried policy lpn
      let alloc := s.allocates policy lpn
      let needEntry := carry && (s.openEntry lpn).isNone
      let q := { r with admitNs := s.ns, row := 6
                        outcome := if s.uncached set then 4 else if (s.findWay lpn).isSome then 2 else if alloc then 3 else 4 }
      if !s.shareRoom lpn alloc needEntry carry || (s.mirrored (bCs n) r.region && !s.mirrorRoom) || (carry && !s.waitRoom)
          || (needEntry && !s.landingRoom n false) then none
      else
        let t := s.reserveEntry q carry
        t.1.mergeRead q alloc t.2
  | _ => s.writeSector r r.data r.poison true

/-! ### Admission -/

/-- R391. A follower that resyncs does not yet hold the page: its bit is set in the merged bitmap, or the bitmap has not
fully arrived and the page, of a mirrored region, has not been fetched. -/
def State.needsFetch (s : State) (lpn : Nat) : Bool :=
  s.fry.pstate == .resyncing && s.fry.role == .follower && !s.fry.fetched.contains lpn
    && (match s.regionAt bXl (lpn * 4096) with
        | some n => s.mirrored bXl n
        | none => false)
    && (!s.fry.mergedHere || s.fry.mergedAll || s.fry.merged.contains lpn)

/-- R371. The request came over the ferry link: the slice admits it ahead of the module's own. -/
def HostReq.ferried (r : HostReq) : Bool :=
  match r.origin with
  | .mirror _ => true
  | .page => true
  | _ => false

/-- R313, R336, R390, R396. Requests that are held unadmitted: every one during a Sanitize, those to the regions of a slot whose format drops
its pages, those to a block that is being taken from the peer (R281), writes to a page that is being taken for the peer (log entry 128),
and host writes into the destination of a mirrored barge descriptor. -/
def State.unadmitted (s : State) (r : HostReq) : Bool :=
  s.sec.erase == some 0 || s.sec.holdSlots.contains (s.slotOfLpn (lpnOfDpa r.dpa))
    || s.integ.fromPeer.contains (lpnOfDpa r.dpa * 16 + sectorOf r.dpa / 4)
    || (!r.ferried && s.needsFetch (lpnOfDpa r.dpa))
    || (r.kind != .read && s.fry.takes.any fun t => t.lpn == lpnOfDpa r.dpa)
    || (s.fry.bargeAt.any fun b => s.isLead && r.kind != .read && decide (b.2.dst ≤ r.dpa)
          && decide (r.dpa < b.2.dst + 64 * b.2.len) && (match r.origin with
            | .host _ _ => true
            | _ => false))

/-- R250. Try the admission of a request. -/
def State.tryAdmit (s : State) (r : HostReq) : Option State :=
  if s.unadmitted r then none else
  match r.kind with
  | .read => s.admitRead r
  | _ => s.admitWrite r

/-- R176, R178, R371. An earlier request for the page waits that this one may not pass; and a write of a whole sector does not pass an
admitted byte-enable write of the sector, which waits for its block. -/
def State.behind (s : State) (r : HostReq) : Bool :=
  (s.cache.waiting.any fun q => lpnOfDpa q.dpa == lpnOfDpa r.dpa && decide (q.id < r.id) && (q.ferried || !r.ferried))
    || (r.kind == .write && s.merging.any fun p => p.2.dpa / 64 == r.dpa / 64)

/-- R247, R257, R599. Note the admission of a head's request: its wait, its count, and the sampler's step. -/
def State.noteAdmit (s : State) (r : HostReq) : State × HostReq :=
  match r.head with
  | some h =>
    let wait := s.ns - r.recv - r.wake
    let s1 := s.modHead h fun d => { d with waitNow := max d.waitNow wait, anyWait := d.anyWait || decide (0 < wait) }
    let t := (s1.countHp h 0x44 1).sample h
    (t.1, { r with sampled := t.2 })
  | none => (s, r)

/-- R255. The requests of head `h` still in its ingress buffer: each slice has taken 64 of them, in order of arrival. -/
def State.ingress (s : State) (h : Nat) : List HostReq :=
  (List.range 16).flatMap fun n =>
    (s.cache.waiting.filter fun q => q.head == some h && s.sliceOf (s.setOf (lpnOfDpa q.dpa)) == n).drop 64

/-- R250, R255. A request reaches its slice: it is admitted, or it waits. -/
def State.submit (s : State) (r : HostReq) : State :=
  let t := s.noteAdmit r
  match if s.behind r then none else t.1.tryAdmit t.2 with
  | some s' => s'
  | none =>
    let lpn := lpnOfDpa r.dpa
    let old := r.causes ||| (if s.cache.retrainDrams.contains (s.setDram (s.setOf lpn)) then 64#8 else 0#8)
    let q := { r with causes := old ||| (if s.needsFetch lpn then 32#8 else 0#8) }
    let s0 : State := { s with cache := { s.cache with waiting := s.cache.waiting ++ [q] } }
    let s1 := s0.gate (s0.needsFetch lpn && !s0.fry.fetching.contains lpn) fun s =>
      ({ s with fry := { s.fry with fetching := s.fry.fetching ++ [lpn] } } : State).askPage lpn
    match r.head with
    | some h => s1.modHead h fun d => { d with
        anyWait := true
        reqMax := max d.reqMax ((s1.ingress h).countP fun q => q.kind == .read)
        rwdMax := max d.rwdMax ((s1.ingress h).countP fun q => q.kind != .read) }
    | none => s1

/-- R112, R240. A read in the commit window is answered with the window's bytes. -/
def State.answerWindow (s : State) (r : HostReq) (h tag dpa : Nat) : State :=
  let t := s.noteAdmit r
  let s2 := t.1.hostSend h (.memData h tag (s.windowRead h dpa) false (s.head h).devload)
  (s2.bwAdd h 0 64).sampleRecord h t.2 false

/-- R119, R332, R367, R440. A request that is answered in place of its sector: poisoned data, or a completion of a write that
has no effect. -/
def State.turnAway (s : State) (r : HostReq) : State :=
  let t := s.noteAdmit { r with outcome := 6 }
  match r.kind with
  | .read => t.1.respondRead t.2 0 true
  | _ => t.1.respondWrite t.2 false

/-- R112, R119, R332, R367, R440, R559. A head takes a request received at `recv` ns, which it may have to answer itself.
`causes` are the causes of R249 set already. -/
def State.takeReq (s : State) (h : Fin 2) (tag hpa : Nat) (kind : ReqKind) (data : Sector) (be : BitVec 64)
    (poison : Bool) (recv : Nat) (causes : BitVec 8) : State :=
  let id := s.cache.nextReq
  let s0 : State := { s with cache := { s.cache with nextReq := id + 1 } }
  let dpa := (s0.hdmDecode h.val hpa).getD dpaEnd
  let r : HostReq := { id := id, origin := .host h tag, dpa := dpa / 64 * 64, kind := kind, data := data, be := be
                       poison := poison, recv := recv, admitNs := s.ns, wake := s.ns - recv, region := (s0.headRegion h.val dpa).getD 0
                       causes := causes }
  let ev := match kind with
    | .read => 0x40
    | .write => 0x41
    | .byteEnable => 0x42
  let isWindow := decide (windowBase ≤ dpa) && decide (dpa < dpaEnd)
  let page := isWindow && dpa / 4096 == commitPage / 4096 && kind == .read
  let s1 := s0.countHp h.val (if page then 0x43 else ev) 1
  if isWindow then
    match kind with
    | .read => s1.answerWindow { r with outcome := 5 } h.val tag dpa
    | _ => (s1.record bXl 372 0x0404 .warning [(1, h.val), (6, dpa)]).turnAway r
  else if (s1.hdmDecode h.val hpa).isNone ∨ s1.closed = 1 then s1.turnAway r
  else if (s1.headRegion h.val dpa).isNone ∨ (s1.regionAt (bCs (s1.sliceOf (s1.setOf (lpnOfDpa dpa)))) dpa).isNone then
    s1.turnAway r
  else if s1.closed = 2 then (s1.lockedAccess h.val (kind != .read)).turnAway r
  else if s1.closed = 3 then s1.turnAway r
  else if kind ≠ .read ∧ s1.mirrored (bHp h.val) r.region = true ∧ s1.refusesMirror = true then
    let old := s1.fry.refusedNow.getD h.val (0, r.dpa)
    ({ s1 with fry := { s1.fry with refusedNow := s1.fry.refusedNow.set h.val (old.1 + 1, old.2)
                                    refused := sat32 s1.fry.refused 1 } } : State).turnAway r
  else s1.submit r

/-- R445. A link at the low rate returns to the rate and width it ran before. -/
def Hp.rise (p : Hp) : Hp := if p.moor = 0 then p else { p with moor := 0, rate := p.formerRate, width := p.formerWidth }

/-- R112, R240. The sector of the head's commit page at a byte offset, from one cycle. -/
def State.takePage (s : State) (h : Fin 2) (tag off recv : Nat) (causes : BitVec 8) : State :=
  let dpa := commitPage + off % 4096 / 64 * 64
  let r : HostReq := { id := s.cache.nextReq, origin := .host h tag, dpa := dpa, kind := .read, recv := recv
                       admitNs := s.ns, wake := s.ns - recv, outcome := 5, causes := causes }
  let s1 : State := { s with cache := { s.cache with nextReq := s.cache.nextReq + 1 } }
  (s1.countHp h.val 0x43 1).answerWindow r h.val tag dpa

/-- Take a request that a head holds. -/
def State.takeHeld (s : State) (h : Fin 2) (q : HeldReq) (causes : BitVec 8) : State :=
  if q.page then s.takePage h q.tag q.hpa q.recv causes
  else s.takeReq h q.tag q.hpa q.kind q.data q.be q.poison q.recv causes

/-- R436, R445, R446, R534. A request reaches a head. At the low rate it is held; otherwise it ends Idle, or an entry into Moored, and is
taken. -/
def State.receive (s0 : State) (h : Fin 2) (q0 : HeldReq) : State :=
  let q := { q0 with recv := s0.ns }
  let s : State := ({ s0 with pwr := { s0.pwr with lastReqNs := s0.ns } } : State).mirrorDue
  if s.deaf h.val then s0
  else if (s.hp h.val).moor ≠ 0 ∨ s.pwr.state = 4 then
    s.modHp h.val fun p => { p with held := p.held ++ [q] }
  else
    let s1 : State := if s.pwr.mooring then
        { s with pwr := { s.pwr with mooring := false }, hps := s.hps.map fun p => (p.1, p.2.rise) }
      else s
    let s2 := if s1.pwr.state = 3 then s1.pwrTo 2 5 else s1
    s2.takeHeld h q (if (s.hp h.val).slow then 16#8 else 0#8)

/-! ### Fills -/

/-- R273, R283. Sector `i` of the block is lost: the block ended uncorrectable, or the transfer of the sector failed its check twice. -/
def MediaRead.lost (m : MediaRead) (i : Nat) : Bool := m.step == 4 || m.spoiled.getLsbD (i % 4)

/-- R273, R283, R285. Sector `i` of the block as media gave it; poisoned when it is lost. -/
def MediaRead.sector (m : MediaRead) (i : Nat) : Sector × Bool :=
  match if m.lost i then none else m.result with
  | some (d, p) => (lineSector d (i % 4), p.getLsbD (i % 4))
  | none => (0, true)

/-- R154, R283. Fill the sectors of the block that are not valid in a way: from the newest landing entry that holds a sector, or else from
the block. A sector that is lost is dirty, so that the page's next crossing writes it poisoned. -/
def State.fillWay (s : State) (m : MediaRead) (set w : Nat) : State :=
  (List.range 4).foldl (fun s k =>
    let i := 4 * m.block + k
    if (s.way set w).valid.getLsbD i then s
    else match s.landingSector m.lpn i fun _ => true with
      | some d => s.writeWay set w i d.1 false d.2
      | none => s.writeWay set w i (m.sector i).1 (m.lost i) (m.sector i).2) s

/-- R172, R285. Fill the missing sectors of an entry's block; of an uncorrectable block they are poisoned, and listed unless the slice holds
the sector in a newer place. -/
def State.fillEntry (s : State) (m : MediaRead) (k : Nat) : State :=
  let f (l : Landing) : Landing := (List.range 4).foldl (fun l j =>
    let i := 4 * m.block + j
    if l.valid.getLsbD i then l
    else match s.entrySource k i with
      | some d => l.put i d.1 d.2
      | none =>
        let l1 := l.put i (m.sector i).1 (m.sector i).2
        if m.step = 4 then { l1 with merged := l1.merged ||| bit64 i } else l1) l
  let s1 := s.modEntry k f
  let ord := (s.entryK k).ord
  let new := (bitList ((s1.entryK k).merged &&& ~~~(s.entryK k).merged)).filter fun i =>
    (s.landingSector m.lpn i fun x => decide (ord < x.ord)).isNone
  s1.gate (!new.isEmpty) fun s => s.poisonPage .internal m.lpn (maskOf 64 new)

/-- R158, R175. Sector `i` of a merged byte-enable write goes into its entry `k`, which then fills what it still misses. -/
def State.mergeInto (s : State) (k i : Nat) (d : Sector) (p : Bool) (q : HostReq) : State :=
  let s1 := s.modEntry k fun l => { l.put i d p with
    waiters := l.waiters.map fun w => if w.id = q.id then q else w
    minAcc := some (min (l.minAcc.getD s.tt.fn) s.tt.fn) }
  (s1.fillFromSlice k).mergeReads k

/-- R156, R158. Sector `i` of a merged byte-enable write goes into the page's way, and into the entry that carries or takes it. -/
def State.mergePlace (s : State) (way entry : Option Nat) (i : Nat) (d : Sector) (p carry : Bool) (q : HostReq) : State :=
  let set := s.setOf (lpnOfDpa q.dpa)
  let s1 := match way with
    | some w => s.writeWay set w i d (!carry) p
    | none => match s.findWay (lpnOfDpa q.dpa) with
      | some w => s.forget set w i
      | none => s
  match entry with
  | some k => s1.mergeInto k i d p q
  | none => s1

/-- R158, R285. The bytes of a joined byte-enable write merge into its sector, and the write is accepted. Merged over
uncorrectable data the sector is poisoned whole. A write whose page was dropped meanwhile, or that gating now carries (R236), is
admitted again. -/
def State.mergeJoined (s : State) (m : MediaRead) (r : HostReq) : State :=
  let i := sectorOf r.dpa
  let set := s.setOf m.lpn
  let n := s.sliceOf set
  let old := (s.sectorHere m.lpn i).getD (m.sector i)
  let p := old.2 || r.poison
  let d := mergeBytes (if old.2 ∧ m.step = 4 then 0 else old.1) r.data r.be
  let q := { r with row := 6, step := m.step }
  let opn := s.openEntry m.lpn
  let carry := opn.any fun k => (s.entryK k).waiters.any fun w => w.id == r.id
  let way := if s.lostSet set then none else s.findWay m.lpn
  let om := s.onMirror n r.region
  if (way.isNone && opn.isNone) || (!carry && s.pwr.gated) then { s with cache := { s.cache with waiting := s.cache.waiting ++ [r] } }
  else
    let s1 := s.mergePlace way (if carry || way.isNone then opn else none) i d p carry q
    let s3 := (s1.accepted q).gate (s.mirrored (bCs n) r.region) fun s => s.mirrorOut q d p om
    let s4 := (s3.gate r.poison fun s => s.poisonPage (poisonFrom r.origin) m.lpn (bit64 i)).noteDirty n
    if carry then s4 else s4.writeDone q false

/-- R283, R285. The sectors of a block that ended uncorrectable for which the slice has no other source. -/
def State.badMask (s : State) (m : MediaRead) : BitVec 64 :=
  let lacks (i : Nat) : Bool := match m.entry with
    | some k => !(s.entryK k).valid.getLsbD i && (s.entrySource k i).isNone
    | none => (s.sectorHere m.lpn i).isNone
  if m.step = 4 then maskOf 64 (((List.range 4).map fun k => 4 * m.block + k).filter lacks) else 0

/-- R154, R188, R283. The block goes into the entry and the way that its read fills; nothing fills a set that is served uncached. -/
def State.fillPlaces (s : State) (m : MediaRead) : State :=
  let set := s.setOf m.lpn
  let s1 := match m.entry with
    | some k => s.fillEntry m k
    | none => s
  match if m.way.isSome && !s.uncached set then s1.findWay m.lpn else none with
  | some w => s1.fillWay m set w
  | none => s1

/-- R154, R158. One request of the read is served from the filled block. -/
def State.serveJoined (s : State) (m : MediaRead) (r : HostReq) : State :=
  match r.kind with
  | .read =>
    let i := sectorOf r.dpa
    let v := (s.sectorHere m.lpn i).getD (m.sector i)
    s.respondRead { r with step := m.step, causes := r.causes ||| (if 1 < m.step ∧ r.row ≠ 2 then 2#8 else 0#8) } v.1 v.2
  | _ => s.mergeJoined m { r with causes := r.causes ||| (if 1 < m.step then 2#8 else 0#8) }

/-- R153, R173. The merge reads that the slice could not track go on, in the order of their entries. -/
def State.mergeMore (s : State) (n : Nat) : State :=
  let ks := (s.landings n).filter fun p => p.2.st == .filling
  (ks.foldl (fun l p => insertBy (fun k => (s.entryK k).ord) p.1 l) []).foldl State.mergeReads s

/-- R285. The end of a fill: a merge over the uncorrectable sectors `bad` is recorded, and the merges of the slice go on. -/
def State.fillEnd (s : State) (m : MediaRead) (bad : BitVec 64) : State :=
  let n := s.sliceOf (s.setOf m.lpn)
  let merges := m.joined.filter fun r => r.kind == .byteEnable
  let s5 := s.gate (m.step == 4 && m.entry.isNone && !merges.isEmpty && bad != 0) fun s =>
    (s.poisonPage .internal m.lpn bad).record (bCs n) (185 + 4 * n) 0x0841 .error
      [(6, m.lpn * 4096 + 64 * (lowestBit bad).getD 0), (8, bad.toNat)]
  let s6 := (s5.mergeMore n).gate m.entry.isSome fun s => s.noteMerge (m.entry.getD 0)
  s6.noteDirty n

/-- R283, R625. Record once that a block ended uncorrectable, for its reader: the host, a merge or a LOCK. -/
def State.fillTell (s : State) (m : MediaRead) (bad : BitVec 64) : State :=
  let host := (m.joined.any fun r => r.kind == .read) || m.kind == .lockFill
  let reader := if m.kind = .lockFill then 2 else if host then 0 else 1
  s.gate (bad != 0 && !m.told) fun s =>
    (s.uncorrectable m.psn m.pos reader (blockBits bad m.block)).gate host fun s => s.poisonPage .internal m.lpn bad

/-- R154, R283, R285. A block read reaches its slice. -/
def State.fill (s : State) (m : MediaRead) : State :=
  let s0 : State := { s with media := { s.media with reads := s.media.reads.filter fun x => x.id != m.id } }
  let bad := s.badMask m
  let s4 := m.joined.foldl (fun s r => s.serveJoined m r) ((s0.fillTell m bad).fillPlaces m)
  s4.fillEnd m bad

/-- R25, R26. The reads that joined ahead of the first byte-enable write are answered while a victim's move still holds up the fill. -/
def State.forward (s : State) (m : MediaRead) : State :=
  let rs := m.joined.takeWhile fun r => r.kind == .read
  let told (x : MediaRead) : MediaRead := { x with told := x.told || s.badMask m != 0, joined := x.joined.drop rs.length }
  let s1 := rs.foldl (fun s r => s.serveJoined m r) (s.fillTell m (s.badMask m))
  { s1 with media := { s1.media with reads := s1.media.reads.map fun x => if x.id = m.id then told x else x } }

/-! ### Commands -/

/-- R151. MEMRD. -/
def execMemrd (cyc : Nat) (head : Fin 2) (tag hpa : Nat) (s : State) : Res :=
  .next ((s.begin.at cyc).receive head
    { tag := tag, hpa := hpa, kind := .read, data := 0, be := 0, poison := false, recv := 0 })

/-- R156. MEMWR. -/
def execMemwr (cyc : Nat) (head : Fin 2) (tag hpa : Nat) (data : Sector) (poison : Bool) (s : State) : Res :=
  .next ((s.begin.at cyc).receive head
    { tag := tag, hpa := hpa, kind := .write, data := data, be := BitVec.allOnes 64, poison := poison, recv := 0 })

/-- R158. BYTE_ENABLE_WRITE; with every byte enabled it is a whole-sector write. -/
def execByteEnableWrite (cyc : Nat) (head : Fin 2) (tag hpa : Nat) (data : Sector) (be : BitVec 64) (poison : Bool)
    (s : State) : Res :=
  .next ((s.begin.at cyc).receive head
    { tag := tag, hpa := hpa, kind := if be = BitVec.allOnes 64 then .write else .byteEnable, data := data, be := be
      poison := poison, recv := 0 })

/-- R240. COMMIT_PAGE_READ: the sector of the head's commit page at this byte offset. -/
def execCommitPageRead (cyc : Nat) (head : Fin 2) (tag off : Nat) (s : State) : Res :=
  .next ((s.begin.at cyc).receive head
    { tag := tag, hpa := off, kind := .read, data := 0, be := 0, poison := false, recv := 0, page := true })

/-- R250. REQUEST_ADMIT: a waiting request is admitted when every resource it needs is free. -/
def execRequestAdmit (cyc id : Nat) (s0 : State) : Res :=
  let s := s0.begin.at cyc
  match s.cache.waiting.find? fun r => r.id == id with
  | none => .next s
  | some r =>
    let s1 : State := { s with cache := { s.cache with waiting := s.cache.waiting.filter fun q => q.id != id } }
    let t := s1.noteAdmit r
    match if s.behind r then none else t.1.tryAdmit { t.2 with admitNs := s.ns } with
    | some s' => .next s'
    | none => .next s

/-- R26. The move the fill waits for is over. -/
def State.moveOver (s : State) (m : MediaRead) : Bool :=
  match m.after with
  | some k => !s.moving (s.entryK k)
  | none => true

/-- R25, R26, R154. FILL: a block read whose ladder has ended reaches the slice. While a victim's move runs, what the host reads of it is
forwarded, and the fill comes later. -/
def execFillBlock (cyc id : Nat) (s0 : State) : Res :=
  let s := s0.begin.at cyc
  match s.media.reads.find? fun m => m.id == id with
  | some m => .next (s.gate (m.use == .fill && (m.result.isSome || m.step == 4)) fun s =>
      if s.moveOver m then s.fill m else s.forward m)
  | none => .next s

/-- R26. VICTIM_MOVE_DONE. -/
def execVictimMoveDone (cyc slice entry : Nat) (s0 : State) : Res :=
  let s := s0.begin.at cyc
  .next (s.gate (s.entry slice entry).moving fun s => s.modEntry (slice * 512 + entry) fun l => { l with moving := false })

end Sys2Proof.Machine
end

