-- ==== Sys2Proof/Machine/Crossing.lean ====
section
/-!
DEFINITION. Crossings (R81–R93, R168–R171, R195, R221–R229): grant, withdrawal, launch, suspension, plane completion,
commit, and the end of a landing entry.
-/
namespace Sys2Proof.Machine

/-! ### Districts (R123, R125, R225) -/

/-- R123, R125, R225. Raise PENDING of district `d` by `n`, capped at 15; each unit lost counts in XL_GAP_LOST, and the
first loss since PENDING was below 15 is recorded. -/
def State.pendAdd (s : State) (d n : Nat) : State :=
  let x := s.district d
  let lost := x.pending + n - 15
  let s1 := s.modDistrict d fun x => { x with pending := min 15 (x.pending + n)
                                              backlogged := x.backlogged || decide (0 < lost) }
  let s2 : State := { s1 with xl := { s1.xl with gapLost := sat32 s1.xl.gapLost lost } }
  let s3 := s2.count bXl 0x42 lost
  s3.gate (decide (0 < lost) && !x.backlogged) fun s => s.record bXl 372 0x0411 .warning [(2, d), (4, s.xl.gapLost)]

/-- R123. One crossing advances the write counter of district `d`; passing from 63 to 0 raises PENDING. -/
def State.districtAdvance (s : State) (d : Nat) : State :=
  let w := (s.district d).wcount
  (s.modDistrict d fun x => { x with wcount := (w + 1) % 64 }).gate (w % 64 == 63) fun s => s.pendAdd d 1

/-! ### Grant -/

/-- The codewords of a stripe by channel, from the 16 of its blocks and the parity codeword after them: a position no die serves is
not written. -/
def State.stripeCws (s : State) (psn : Nat) (ws : List Codeword) : Kv Codeword :=
  let at' (m : Kv Codeword) (q : Nat) (w : Codeword) : Kv Codeword := match s.chanOf (dieOf psn) q with
    | some c => m.set c w
    | none => m
  let m := (List.range 16).foldl (fun m j => at' m (blockPos psn j) (ws.getD j {})) []
  at' m (parityPos psn) (ws.getD 16 {})

/-- R200, R304. The codewords of a page's stripe by channel, from its 16 lines. -/
def State.pageCws (s : State) (psn : Nat) (ws : List Codeword) : Kv Codeword := s.stripeCws psn (ws ++ [parityOf ws])

/-- R304. The 16 lines of a landing entry under the current generation. -/
def State.entryLines (s : State) (l : Landing) : List Codeword :=
  (List.range 16).map fun j =>
    s.encryptLine l.lpn j (lineOf fun i => l.sector (4 * j + i)) (blockBits l.poison j)

/-- R231, R314. The 16 blank lines of a page: zeros of generation 0, with the page's HOME. -/
def State.blankLines (s : State) (lpn : Nat) : List Codeword := (List.range 16).map fun _ => { home := s.homeTag lpn }

/-- R205. The rewriting of a row band of channel `c` has reached a stripe: POS counts the rows behind it. -/
def State.bandReach (s : State) (c psn : Nat) : State :=
  let n := (psn % 33554432 + 1) / 32
  s.modMch c fun m => { m with bands := Kv.mod m.bands (psn / 33554432) {} fun x => { x with
    pos := max x.pos n, overdue := x.overdue && decide (n < (if psn / 33554432 = 219 then 845840 else 1048576)) } }

/-- R216. The boundary of the rebuild onto die `d` of channel `c` moves past a stripe. -/
def State.rebuildPast (s : State) (c psn : Nat) : State :=
  s.modMch c fun m => { m with rebuild := m.rebuild.set (dieOf psn) (max (m.rebuild.getD (dieOf psn) 0) (psn + 8)) }

/-- R72. The read has been commanded. -/
def MediaRead.begun (m : MediaRead) : Bool := m.beat.isSome || !m.got.isEmpty || !m.bad.isEmpty || m.result.isSome

/-- R217, R471. A read whose result a crossing of its stripe makes old. -/
def MediaRead.overtaken (m : MediaRead) (psn : Nat) : Bool := m.kind == .maintenance && m.psn == psn && m.begun

/-- R217, R471. What a grant does to a rewrite of its stripe that has not begun. -/
def State.rewriteDropped (s : State) (w : CwWrite) : State :=
  match w.kind with
  | .rebuild _ => s.rebuildPast w.mch w.psn
  | .refresh => s.bandReach w.mch w.psn
  | .corrective => s.cwRewritten w.mch w.psn
  | .parityFix => s

/-- R217. What a grant does to a commanded read of its stripe: that of a rebuild is dropped, and the boundary moves past the stripe. -/
def State.readDropped (s : State) (m : MediaRead) : State :=
  match m.use with
  | .rebuild d =>
    match s.media.rebuilds.find? fun r => r.die == d with
    | some r => s.rebuildPast r.dstMch m.psn
    | none => s
  | _ => s

/-- R217, R315, R471. A grant drops the in-place writes of the stripe that have not begun, what the maintenance reads of the stripe
brought, and the blank of its page. -/
def State.dropRewrites (s : State) (psn lpn : Nat) : State :=
  let gone := s.media.rewrites.filter fun w => w.psn == psn && w.slot.isNone
  let s1 := gone.foldl State.rewriteDropped s
  let s2 := (s1.media.reads.filter fun m => m.overtaken psn).foldl State.readDropped s1
  let rebuilds (m : MediaRead) : Bool := match m.use with
    | .rebuild _ => true
    | _ => false
  let reads := (s2.media.reads.filter fun m => !(m.overtaken psn && rebuilds m)).map fun m =>
    if m.overtaken psn then { m with word := none } else m
  { s2 with
    media := { s2.media with rewrites := s2.media.rewrites.filter (fun w => !(w.psn == psn && w.slot.isNone)), reads := reads }
    sec := { s2.sec with blank := s2.sec.blank.filter fun b => b != lpn } }

/-- R82, R86. Grant a crossing absolute slot `u` and beat `b`. -/
def State.grantCrossing (s : State) (work : XWork) (lpn psn : Nat) (cws : Kv Codeword) (u b : Nat) (host : Bool)
    (again : Bool) : State :=
  let x : Crossing := { id := s.media.nextId, work := work, psn := psn, slot := u, beat := b, cws := cws, host := host
                        repeated := again }
  let s1 := s.dropRewrites psn lpn
  let s2 : State := { s1 with
    media := { s1.media with crossings := s1.media.crossings ++ [x], nextId := s1.media.nextId + 1 }
    tt := { s1.tt with
      starts := Kv.mod s1.tt.starts u 0 (· + 1)
      hostStarts := if host then Kv.mod s1.tt.hostStarts u 0 (· + 1) else s1.tt.hostStarts } }
  s2.count bTt 0x45 1

/-- R224. The channel that keeps the guard of district `d`: its own, or the next one that has not failed. -/
def State.guardian (s : State) (d : Nat) : Option Nat :=
  ((List.range 18).map fun i => (d + i) % 18).find? fun c => !(s.mch c).failed

/-- R224, R225. Charge a host crossing to the guard of its district. -/
def State.guardNote (s : State) (d psn : Nat) : State :=
  let g := s.media.guards.getD d {}
  let again := g.psns.contains psn
  let keep := (s.guardian d).getD (d % 18)
  let g1 : Guard := { psns := (psn :: g.psns).take 512, lastRepeat := if again then some s.frame else g.lastRepeat }
  let s1 : State := { s with media := { s.media with guards := s.media.guards.set d g1 } }
  s1.gate again fun s => s.modMch keep fun m => { m with repeats := sat32 m.repeats 1 }

/-- R82. Grant a landing entry's crossing. -/
def State.grantLanding (s : State) (k u b : Nat) : State :=
  let l := s.entryK k
  let psn := s.landingPsn l
  let d := (distOf l.lpn).1
  let again := l.isHost && (s.media.guards.getD d {}).psns.contains psn
  let s1 := (s.translates l.lpn 1).grantCrossing (.landing k) l.lpn psn (s.pageCws psn (s.entryLines l)) u b l.isHost again
  ((s1.gate l.isHost fun s => s.guardNote d psn).modEntry k fun l => { l with st := .latched }).count bCry 0x40 16

/-- R119. XL discards the page of an entry that no valid region of its copy holds: the writes in it complete as at a commit. -/
def State.discardLanding (s : State) (k : Nat) : State :=
  let l := s.entryK k
  let s1 := s.modEntry k fun l => { l with st := .released, freeAt := s.now, waiters := [], minAcc := none }
  l.waiters.foldl (fun s r => s.writeDone r true) s1

/-- R82. CROSSING_GRANT: in the guard of slot s − 2, TT grants the work offered slot s and a beat position. -/
def execCrossingGrant (cyc : Nat) (work : XWorkRef) (beat : Nat) (s0 : State) : Res :=
  let s := s0.begin.at cyc
  let u := s.now + 2
  if s.inGuard = false ∨ 6 ≤ beat then .next s
  else match work with
    | .landing slice entry =>
      let k := slice * 512 + entry
      let l := s.entryK k
      .next (s.gate (s.canCross l u beat && s.isNext k l u beat) fun s =>
        if s.xlServes l.lpn then s.grantLanding k u beat else s.discardLanding k)
    | .copy src =>
      match s.moveOf src with
      | some m =>
        .next (s.gate (s.copyStart m u beat) fun s =>
          let s1 := s.grantCrossing (.copy src) dpaEnd m.dst (s.stripeCws m.dst m.ws) u beat false false
          { s1 with xl := { s1.xl with
            moves := s1.xl.moves.map fun x => if x.src = src then { x with granted := true } else x } })
      | none => .next s
    | .blank lpn =>
      let psn := s.writePsn lpn
      .next (s.gate (s.sec.blank.contains lpn && s.blankStart lpn u beat) fun s =>
        ((s.translates lpn 1).grantCrossing (.blank lpn) lpn psn (s.pageCws psn (s.blankLines lpn)) u beat false false))
    | .internal psn =>
      match s.media.internal.get? psn with
      | some ws =>
        let flying := s.media.crossings.any fun x => x.work == .internal psn
        .next (s.gate (!flying && s.maintStart psn u beat) fun s =>
          s.grantCrossing (.internal psn) dpaEnd psn (s.pageCws psn ws) u beat false false)
      | none => .next s

/-! ### Withdrawal and launch -/

/-- Remove a crossing. -/
def State.dropCrossing (s : State) (id : Nat) : State :=
  { s with media := { s.media with crossings := s.media.crossings.filter fun x => x.id != id } }

/-- Set a cause bit of R249 on every request that waits for an entry. -/
def Landing.delay (l : Landing) (m : BitVec 8) : Landing :=
  { l with waiters := l.waiters.map fun r => { r with causes := r.causes ||| m } }

/-- R82, R97, R169, R221. The work of a crossing that did not commit returns to be offered again, with a cause bit of R249 for what
waits on it. -/
def State.workBack (s : State) (w : XWork) (cause : BitVec 8) : State :=
  match w with
  | .landing k => s.modEntry k fun l => { l.delay cause with st := .ready }
  | .copy src => { s with xl := { s.xl with
      moves := s.xl.moves.map fun m => if m.src = src then { m with granted := false } else m } }
  | .blank lpn => { s with sec := { s.sec with blank := s.sec.blank ++ [lpn] } }
  | .internal _ => s

/-- Count a deadline miss of class `n` (R98). -/
def State.miss (s : State) (n : Nat) : State :=
  let s1 := s.count bTt (0x40 + n) 1
  match n with
  | 0 => { s1 with tt := { s1.tt with miss0 := sat32 s1.tt.miss0 1 } }
  | 1 => { s1 with tt := { s1.tt with miss1 := sat32 s1.tt.miss1 1 } }
  | 2 => { s1 with tt := { s1.tt with miss2 := sat32 s1.tt.miss2 1 } }
  | _ => { s1 with tt := { s1.tt with miss3 := sat32 s1.tt.miss3 1 } }

/-- R82, R97. Withdraw a crossing for channels that are not ready. -/
def State.withdraw (s : State) (x : Crossing) (missing : List Nat) : State :=
  let s1 := ((s.dropCrossing x.id).workBack x.work 1#8).miss 1
  ((s1.count bTt 0x46 1).beatAll x.chans 1).record bTt 371 0x0311 .error
    [(1, x.slot % 16), (1, x.beat), (1, dieOf x.psn), (1, planeOf x.psn), (4, rowOf x.psn),
     (3, (maskOf 24 missing).toNat)]

/-- R82. CROSSING_LATE, at cycle 60 of slot s − 1. -/
def execCrossingLate (cyc id : Nat) (missing : List Nat) (s0 : State) : Res :=
  let s := s0.begin.at cyc
  match s.media.crossings.find? fun x => x.id == id with
  | some x =>
    let ms := missing.filter fun c => x.chans.contains c
    .next (s.gate (!x.launched && s.tt.cyc % 64 == 60 && s.now + 1 == x.slot && !ms.isEmpty) fun s => s.withdraw x ms)
  | none => .next s

/-- Change crossing `id`. -/
def State.modCrossing (s : State) (id : Nat) (f : Crossing → Crossing) : State :=
  { s with media := { s.media with crossings := s.media.crossings.map fun x => if x.id = id then f x else x } }

/-- R215. The crossing without the channels whose die has failed since its grant. -/
def State.liveChans (s : State) (x : Crossing) : Crossing :=
  { x with cws := x.cws.filter fun p => s.role p.1 (dieOf x.psn) != 31 && !(s.mch p.1).failed }

/-- R84, R168, R215. CROSSING_LAUNCH, in the crossing's beat: the codewords transfer and the planes begin to write. -/
def execCrossingLaunch (cyc id : Nat) (s0 : State) : Res :=
  let s := s0.begin.at cyc
  match (s.media.crossings.find? fun x => x.id == id).map s.liveChans with
  | some x =>
    .next (s.gate (!x.launched && s.now == x.slot && s.curBeat == x.beat && !s.sec.error) fun s =>
      let s1 := s.modCrossing id fun _ => { x with launched := true }
      let s2 := match x.work with
        | .landing k => (s1.modEntry k fun l => { l with st := .written }).beatAll x.chans 4
        | _ => s1.beatAll x.chans 5
      x.chans.foldl (fun s c => s.bwAdd (3 + c) 1 256) s2)
  | none => .next s

/-! ### Suspension (R89–R92) -/

/-- R89. A read reserved for the next slot waits on a write of this plane of channel `c`. -/
def State.suspendAsked (s : State) (c psn : Nat) : Bool :=
  s.media.reads.any fun m => m.suspends && m.chans.contains c && m.slot == s.now + 1 && dieOf m.psn == dieOf psn
    && planeOf m.psn == planeOf psn

/-- A write of channel `c` is suspended for the next slot already. -/
def State.suspending (s : State) (c : Nat) : Bool :=
  (s.media.crossings.any fun x => x.suspended.get? c == some (s.now + 1))
    || s.media.rewrites.any fun w => w.mch == c && w.suspended == some (s.now + 1)

/-- R89. WRITE_SUSPEND, in the guard of the slot before. -/
def execWriteSuspend (cyc id mch : Nat) (s0 : State) : Res :=
  let s := s0.begin.at cyc
  if s.inGuard = false ∨ s.suspending mch = true then .next s
  else match s.media.crossings.find? fun x => x.id == id with
    | some x =>
      let ok := x.launched && x.holds mch (s.now + 1) && decide (x.k mch < 4) && s.suspendAsked mch x.psn
      .next (s.gate ok fun s => (s.modCrossing id fun x => { x with
        susp := Kv.mod x.susp mch 0 (· + 1), suspended := x.suspended.set mch (s.now + 1) }).count (bMch mch) 0x44 1)
    | none =>
      match s.media.rewrites.find? fun w => w.id == id && w.mch == mch with
      | some w =>
        let ok := w.slot.isSome && decide (w.susp < 4) && s.suspendAsked mch w.psn
        .next (s.gate ok fun s =>
          ({ s with media := { s.media with rewrites := s.media.rewrites.map fun w =>
              if w.id = id then { w with susp := w.susp + 1, suspended := some (s.now + 1) } else w } } : State).count (bMch mch) 0x44 1)
      | none => .next s

/-- R89. WRITE_RESUME, at the start of slot t + 1 after the suspension of slot t. -/
def execWriteResume (cyc id mch : Nat) (s0 : State) : Res :=
  let s := s0.begin.at cyc
  .next (s.gate (s.tt.cyc % 64 == 0) fun s =>
    let s1 := s.modCrossing id fun x =>
      if (x.suspended.get? mch).map (· + 1) = some s.now then { x with suspended := x.suspended.erase mch } else x
    { s1 with media := { s1.media with rewrites := s1.media.rewrites.map fun w =>
        if w.id = id ∧ w.mch = mch ∧ w.suspended.map (· + 1) = some s.now then { w with suspended := none } else w } })

/-! ### Completion -/

/-- R227–R229. Count a codeword write of a plane, with LIFE_WARN and LIFE_END when the module's life used first reaches
90 % and 100 %. -/
def State.wearOne (s : State) (c psn : Nat) : State :=
  let key := 4 * dieOf psn + planeOf psn
  let s1 := (s.modMch c fun m => { m with planes := Kv.mod m.planes key 0 (· + 1) }).count (bMch c) 0x43 1
  let life := s1.moduleLife
  let s2 := s1.gate (decide (90 ≤ life) && !s.media.lifeWarned) fun s =>
    ({ s with media := { s.media with lifeWarned := true } } : State).record (bMch c) (dieSrc c 0) 0x0631 .warning
      [(1, 0xff), (1, s.lifeUsed c), (2, s.wear c)]
  s2.gate (decide (100 ≤ life) && !s.media.lifeEnded) fun s =>
    ({ s with media := { s.media with lifeEnded := true } } : State).record (bMch c) (dieSrc c 0) 0x0632 .warning
      [(1, 0xff), (2, s.wear c)]

/-- R227. A save to the internal area. How many of its codewords fall on a plane is stated nowhere: each plane of a serving die
completes a free number of writes (log entry 143). -/
def State.internalWear (s : State) : State :=
  let one (c k : Nat) : Nat := if s.role c (k / 4) < 17 then (Config.draw (s.draws + 32 * c + k)).toNat else 0
  { s with
    draws := s.draws + 576
    media := { s.media with
      mchs := (List.range 18).foldl (fun m c => Kv.mod m c {} fun x => { x with
        planes := (List.range 32).foldl (fun p k => Kv.mod p k 0 (· + one c k)) x.planes }) s.media.mchs } }

/-- R195, R233. Count and record a verify failure. -/
def State.verifyFail (s : State) (c psn cells : Nat) : State :=
  ((s.modMch c fun m => { m with wfail := sat32 m.wfail 1 }).count (bMch c) 0x45 1).record (bMch c)
    (dieSrc c (dieOf psn)) 0x0611 .warning [(5, psn), (1, planeOf psn), (4, rowOf psn), (4, cells)]

/-- R133. The next free stripe spare: a stripe of spare berths 0 to 511, lowest first. -/
def State.spareStripe (s : State) : Option Nat :=
  if s.xl.nextStripe < 262144 then some (6459228672 + s.xl.nextStripe) else none

/-- R221, R133. The target of a copy is a spare that no entry names yet. -/
def Move.ownsTarget (m : Move) : Bool := m.kind == .stripeRetire

/-- R124, R134, R221. The copies that write a stripe write its new spare instead. -/
def State.redirect (s : State) (psn t : Nat) : State :=
  { s with xl := { s.xl with moves := s.xl.moves.map fun m => if m.dst = psn then { m with dst := t } else m } }

/-- R221. Retire a stripe at once, without a copy: its entry takes effect at the next tick, and a copy that writes it goes to the
spare. The target of a stripe's own copy has no entry yet, so that copy alone changes its target. -/
def State.retireNow (s : State) (c psn : Nat) : State :=
  match s.spareStripe with
  | some t =>
    let own := s.xl.moves.any fun m => m.dst == psn && m.ownsTarget
    let s1 : State := { s with xl := { s.xl with
      dueStripes := if own then s.xl.dueStripes else s.xl.dueStripes ++ [(psn, t)], nextStripe := s.xl.nextStripe + 1 } }
    s1.redirect psn t
  | none => s.retire c psn

/-- R219. Record STRIPE_LOST for a failure that leaves the stripes from `first` to `last` with positions `ps` missing. -/
def State.stripeLost (s : State) (c d : Nat) (ps : List Nat) (first last : Nat) : State :=
  ({ s with media := { s.media with lost := if s.media.lost.contains d then s.media.lost else s.media.lost ++ [d] } } : State).record
    (bMch c) (dieSrc c d) 0x0626 .fatal [(1, d), (3, (maskOf 24 ps).toNat), (5, first), (5, last)]

/-- The positions of a crossing whose verify failed, with their channels. -/
def State.badPositions (s : State) (x : Crossing) : List (Nat × Nat) :=
  x.failed.map fun p => (p.1, s.role p.1 (dieOf x.psn))

/-- R221, R222. A crossing with two positions that cannot be read: its stripe is retired at once, and the work is offered again. With
the tables full the stripe stays, and loses those positions. -/
def State.stripeBroken (s : State) (x : Crossing) (bad : List (Nat × Nat)) : State :=
  let c := (bad.headD (0, 0)).1
  if s.xl.full then
    let s1 := bad.foldl (fun s b => (s.watchStripe b.1 x.psn b.2 true).retireBlocked b.1 x.psn) s
    let gone := (List.range 17).filter fun q => (bad.any fun b => b.2 == q) || s1.missing x.psn q
    s1.stripeLost c (dieOf x.psn) gone x.psn x.psn
  else
    let s1 := ((s.dropCrossing x.id).workBack x.work 0#8).settleRow x.psn x.chans (s.now + 2)
    if x.work = .internal x.psn then s1 else s1.retireNow c x.psn

/-- R221. Every plane of a crossing has reported: what verify failures do. A position that was bad before is not another one. -/
def State.settleCrossing (s : State) (id : Nat) : State :=
  match s.media.crossings.find? fun x => x.id == id with
  | some x =>
    let all := x.chans.all fun c => x.done.contains c
    let bad := s.badPositions x
    let short := (List.range 17).any fun q => !(bad.any fun b => b.2 == q) && s.missing x.psn q
    if !all || bad.isEmpty then s
    else if 2 ≤ bad.length ∨ short = true then s.stripeBroken x bad
    else bad.foldl (fun s b => (s.watchStripe b.1 x.psn b.2 true).retire b.1 x.psn) s
  | none => s

/-- R195. A plane of a crossing reports. -/
def State.crossingDone (s : State) (x : Crossing) (c cells : Nat) : State :=
  let s1 := (s.setCell c x.psn (x.cws.getD c {})).wearOne c x.psn
  let s2 := s1.gate (decide (0 < cells)) fun s => s.verifyFail c x.psn cells
  let s3 := s2.modCrossing x.id fun x => { x with
    done := x.done ++ [c], failed := if 0 < cells then x.failed.set c cells else x.failed }
  s3.settleCrossing x.id

/-- R209, R216, R221. A single-codeword write reports. -/
def State.rewriteDone (s : State) (w : CwWrite) (cells : Nat) : State :=
  let s1 := (s.setCell w.mch w.psn w.cw).wearOne w.mch w.psn
  let s2 : State := { s1 with media := { s1.media with rewrites := s1.media.rewrites.filter fun x => x.id != w.id } }
  let s3 := ((s2.rewriteDropped w).cwRewritten w.mch w.psn).settleRow w.psn [w.mch] (w.slot.getD 0 + 11 + w.susp)
  s3.gate (decide (0 < cells)) fun s => (s.verifyFail w.mch w.psn cells).retire w.mch w.psn

/-- R195. PLANE_WRITE_COMPLETION, in the guard of slot s + 9 + k(c). -/
def execPlaneWriteCompletion (cyc id mch : Nat) (failedCells : Nat) (s0 : State) : Res :=
  let s := s0.begin.at cyc
  if s.inGuard = false then .next s
  else match s.media.crossings.find? fun x => x.id == id with
    | some x =>
      let ok := x.launched && x.chans.contains mch && !x.done.contains mch && s.now == x.slot + 9 + x.k mch
      .next (s.gate ok fun s => s.crossingDone x mch failedCells)
    | none =>
      match s.media.rewrites.find? fun w => w.id == id && w.mch == mch with
      | some w => .next (s.gate (w.slot == some (s.now - 9 - w.susp) && decide (9 + w.susp ≤ s.now)) fun s =>
          s.rewriteDone w failedCells)
      | none => .next s

/-- R97, R108. Record WRITE_LATE and note the miss on the die. -/
def State.writeLate (s : State) (c psn slot k : Nat) : State :=
  let s1 := (s.miss 2).record (bMch c) (dieSrc c (dieOf psn)) 0x0112 .error
    [(6, slot / 16 + s.tt.skip), (1, slot % 16), (1, planeOf psn), (4, rowOf psn), (4, k)]
  s1.modMch c fun m => { m with missFns := m.missFns ++ [(dieOf psn, s1.tt.fn)] }

/-- R97, R169. WRITE_LATE, at the end of the guard of slot s + 9 + k(c). -/
def execWriteLate (cyc id mch : Nat) (s0 : State) : Res :=
  let s := s0.begin.at cyc
  if s.tt.cyc % 64 ≠ 63 then .next s
  else match s.media.crossings.find? fun x => x.id == id with
    | some x =>
      let ok := x.launched && x.chans.contains mch && !x.done.contains mch && s.now == x.slot + 9 + x.k mch
      .next (s.gate ok fun s =>
        (((s.dropCrossing id).workBack x.work 1#8).settleRow x.psn x.chans (s.now + 2)).writeLate mch x.psn x.slot (x.k mch))
    | none =>
      match s.media.rewrites.find? fun w => w.id == id && w.mch == mch with
      | some w =>
        match w.slot with
        | some t => .next (s.gate (s.now == t + 9 + w.susp) fun s =>
            (({ s with media := { s.media with rewrites := s.media.rewrites.filter fun x => x.id != id } } : State).settleRow
              w.psn [mch] (s.now + 2)).writeLate mch w.psn t w.susp)
        | none => .next s
      | none => .next s

/-- R84, R123, R170, R225, R237. The crossing of a landing entry commits: waiting completions are sent. -/
def State.commitLanding (s : State) (x : Crossing) (k : Nat) : State :=
  let l := s.entryK k
  let d := (distOf l.lpn).1
  let late : BitVec 8 := if x.repeated then 4#8 else 0#8
  let s1 := s.modEntry k fun l => { l with
    st := .released, freeAt := x.slot + 11 + x.kMax, waiters := [], minAcc := none }
  let s2 := l.waiters.foldl (fun s r => s.writeDone { r with causes := r.causes ||| late } true) s1
  let s3 := (s2.count (bCs (k / 512)) 0x46 1).districtAdvance d
  let p := s3.cache.port
  let mine := p.busy && decide (p.start ≤ l.lpn) && decide (l.lpn < p.start + p.count)
  let s4 : State := { s3 with cache := { s3.cache with port := { p with crossings := p.crossings + b2n mine } } }
  let s5 := s4.modCs (k / 512) fun c => { c with
    gateOwed := if l.ord < s3.cache.gateOrd then c.gateOwed else c.gateOwed.filter fun y => y != l.lpn }
  s5.gate x.repeated fun s => s.pendAdd d 8

/-- R84, R123, R124. A crossing commits. -/
def State.commitCrossing (s : State) (x : Crossing) : State :=
  let s1 := (s.dropCrossing x.id).settleRow x.psn x.chans (x.slot + 11 + x.kMax)
  match x.work with
  | .landing k => s1.commitLanding x k
  | .copy src => { s1 with xl := { s1.xl with moves := s1.xl.moves.map fun m =>
      if m.src = src then { m with readableAt := some (x.slot + 11 + x.kMax), committed := true } else m } }
  | .blank lpn => ((s1.districtAdvance (distOf lpn).1).count bMnt 0x43 1).modKeySlot (s.slotOfLpn lpn) fun y => { y with
      pages := y.pages + b2n y.passing }
  | .internal psn => { s1 with media := { s1.media with internal := s1.media.internal.erase psn } }

/-- R84. CROSSING_COMMIT, at the start of slot s + 10 + K. -/
def execCrossingCommit (cyc id : Nat) (s0 : State) : Res :=
  let s := s0.begin.at cyc
  match s.media.crossings.find? fun x => x.id == id with
  | some x =>
    let ok := x.launched && (x.chans.all fun c => x.done.contains c) && decide (x.slot + 10 + x.kMax ≤ s.now)
    .next (s.gate ok fun s => s.commitCrossing x)
  | none => .next s

/-- R170. LANDING_ENTRY_FREE, from slot s + 11 + K. -/
def execLandingEntryFree (cyc slice entry : Nat) (s0 : State) : Res :=
  let s := s0.begin.at cyc
  let l := s.entry slice entry
  .next (s.gate (l.st == .released && decide (l.freeAt ≤ s.now)) fun s =>
    (s.modEntry (slice * 512 + entry) fun l => { lpn := l.lpn, region := l.region, fn := l.fn }).noteDirty slice)

end Sys2Proof.Machine
end

