-- ==== Sys2Proof/Machine/Reference.lean ====
section
/-!
DEFINITION. The read reference (R203–R205, R207): the age of a row, its bucket, and the predicted and the alternate code.
-/
namespace Sys2Proof.Machine

/-- R515. Byte `a` of the generic curves and trims in the boot ROM. They are not stated: free values (log entry 2). -/
def genericCal (a : Nat) : BitVec 8 := (Config.draw (2 ^ 40 + a)).setWidth 8

/-- R232, R513, R515. The calibration byte at offset `a` of channel `c`'s curves: of the stored set while it is valid, else generic. -/
def State.calByte (s : State) (c a : Nat) : Nat :=
  if s.pst.calValid then (Mem.read s.store (0x100040 + 1024 * c + a)).toNat else (genericCal (1024 * c + a)).toNat

/-- R203. C[d][k][j] of channel `c`. -/
def State.curve (s : State) (c d k j : Nat) : Int := s.calByte c (128 * d + 8 * k + j)

/-- R205. The age in frames of the row of a stripe on channel `c`. -/
def State.rowAge (s : State) (c psn : Nat) : Nat :=
  let x := (s.mch c).bands.getD (psn / 33554432) {}
  if rowOf psn % 1048576 < x.pos then (Int.ofNat s.tt.fn - x.newFn).toNat else (Int.ofNat s.tt.fn - x.prevFn).toNat

/-- R204. The age bucket: floor(log2 a) − 26, from 0 to 15. -/
def ageBucket (a : Nat) : Nat := min 15 (Nat.log2 a - 26)

/-- R203. The temperature points in °C. -/
def tempPoint (j : Nat) : Int := [0, 15, 30, 45, 60, 70, 78, 85].getD j 85

/-- R203. The code of die `d` of channel `c` at bucket `k`, trimmed; a half rounds up (log entry 111). -/
def State.codeAt (s : State) (c d k : Nat) : Nat :=
  let t := max 0 ((s.mch c).temps.getD d 0)
  let trim : Int := let x : Int := s.regF (bMch c) 0x030 0 4; if 8 ≤ x then x - 16 else x
  let code : Int :=
    if 85 ≤ t then s.curve c d k 7
    else
      let j := (List.range 7).foldl (fun m i => if tempPoint i ≤ t then i else m) 0
      let span := tempPoint (j + 1) - tempPoint j
      let lo := s.curve c d k j
      (2 * (lo * span + (s.curve c d k (j + 1) - lo) * (t - tempPoint j)) + span) / (2 * span)
  (min 255 (max 0 (code + trim))).toNat

/-- R203, R207. The reference code of a read of a stripe on channel `c`: the predicted one, or the alternate. -/
def State.refCode (s : State) (c psn : Nat) (alt : Bool) : Nat :=
  let k := ageBucket (s.rowAge c psn)
  s.codeAt c (dieOf psn) (if alt then (if 4 ≤ k then 0 else 12) else k)

end Sys2Proof.Machine
end

