-- ==== Sys2Proof/Machine/MediaRead.lean ====
section
/-!
DEFINITION. Media reads (R71–R76, R93, R201–R210, R270): command, transfer, missing beats, the steps of the decode
ladder, and in-place rewrites.
-/
namespace Sys2Proof.Machine

/-- Change media read `id`. -/
def State.modRead (s : State) (id : Nat) (f : MediaRead → MediaRead) : State :=
  { s with media := { s.media with reads := s.media.reads.map fun m => if m.id = id then f m else m } }

/-- The media read `id`. -/
def State.readOf (s : State) (id : Nat) : Option MediaRead := s.media.reads.find? fun m => m.id == id

/-- R72, R173. The read has no reserved slot, or its slot has passed: it takes a beat that reservations leave. -/
def MediaRead.queued (m : MediaRead) (u : Nat) : Bool := m.waits || decide (m.slot < u)

/-- R76, R158, R172. The read serves the merge of a partial page. -/
def MediaRead.merges (m : MediaRead) : Bool :=
  m.use == .fill && (m.kind == .merge || m.entry.isSome || m.joined.any fun r => r.kind == .byteEnable)

/-- The read still has a codeword to ask for. -/
def MediaRead.asks (m : MediaRead) : Bool := m.beat.isNone && m.bad.isEmpty && m.result.isNone && decide (m.step ≤ 3)

/-- A write has this beat of this slot on channel `c`. -/
def State.writeBeat (s : State) (c u b : Nat) : Bool :=
  (s.media.crossings.any fun x => x.chans.contains c && x.slot == u && x.beat == b)
    || s.media.rewrites.any fun w => w.mch == c && w.slot == some u && w.beat == b

/-- R71, R72, R74, R76, R78. The beat suits the read: a read beat; for maintenance, a beat that is not a read beat in this slot and
the next, with no write in either and no transfer in this one; under map 3, for a merge, a beat that carries no crossing in either. -/
def State.beatSuits (s : State) (m : MediaRead) (b : Nat) : Bool :=
  let u := s.now
  let free (c : Nat) : Bool := !s.writeBeat c u b && !s.writeBeat c (u + 1) b
  if m.kind = .maintenance then
    s.beatOk (u % 16) b && s.beatOk ((u + 1) % 16) b && m.chans.all fun c => free c && !s.media.transfers.contains (c, u, b)
  else if s.tt.map = 3 then m.merges && m.chans.all free
  else s.beatClass (u % 16) b == 0

/-- R89. The write of a plane of channel `c` is suspended for slot `u`. -/
def State.suspendedFor (s : State) (c psn u : Nat) : Bool :=
  (s.media.crossings.any fun x => dieOf x.psn == dieOf psn && planeOf x.psn == planeOf psn && x.suspended.get? c == some u)
    || s.media.rewrites.any fun w => w.mch == c && dieOf w.psn == dieOf psn && planeOf w.psn == planeOf psn && w.suspended == some u

/-- R83, R84, R91, R215. Channel `c` can sense the row in the slot that runs, at beat `b`: its die has not failed, the plane has no other
read, a write of it is suspended, the row has settled, and no write of the plane begins in the next slot at an earlier beat. -/
def State.planeOpen (s : State) (m : MediaRead) (c b : Nat) : Bool :=
  let u := s.now
  let d := dieOf m.psn
  let p := planeOf m.psn
  s.role c d != 31 && !(s.mch c).failed
    && !(s.media.reads.any fun x => x.id != m.id && x.at c u && dieOf x.psn == d && planeOf x.psn == p)
    && ((s.planeWrite c d p u).isNone || s.suspendedFor c m.psn u)
    && s.rowReady c m.psn (m.kind == .maintenance)
    && !(s.media.crossings.any fun x => x.slot == u + 1 && x.chans.contains c && dieOf x.psn == d && planeOf x.psn == p
          && decide (x.beat < b))

/-- R173, R251. A read without a reservation leaves enough later read beats of the slot to those reserved, and beat 0 to one that
suspends. -/
def State.leavesBeats (s : State) (m : MediaRead) (c b : Nat) : Bool :=
  let u := s.now
  let mine := s.media.reads.filter fun x => x.id != m.id && !x.waits && x.asks && x.slot == u && x.chans.contains c
  let later := (List.range 6).countP fun i => decide (b < i) && s.beatClass (u % 16) i == 0
  decide (mine.length ≤ later) && !(b == 0 && mine.any fun x => x.suspends)

/-- R72, R76, R251. The read may take beat `b` of the slot that runs, but for the precedence of R93. -/
def State.canTake (s : State) (m : MediaRead) (b : Nat) : Bool :=
  let u := s.now
  m.asks && decide (b < 6) && s.beatSuits m b
    && (m.chans.all fun c => s.planeOpen m c b && !s.media.transfers.contains (c, u + 1, b))
    && (if m.queued u then decide (m.slot ≤ u) && (m.kind == .maintenance || s.tt.map == 3 || m.chans.all fun c => s.leavesBeats m c b)
        else m.slot == u && (!m.suspends || b == 0))

/-- R93. A reconstruct read reserved for the slot, that shares a channel, goes ahead in this beat; a read that suspends keeps beat 0. -/
def State.yields (s : State) (m : MediaRead) (b : Nat) : Bool :=
  m.step != 3 && !(m.suspends && m.slot == s.now) && m.kind != .maintenance && s.media.reads.any fun x =>
    x.step == 3 && x.id != m.id && !x.queued s.now && (x.chans.any fun c => m.chans.contains c) && s.canTake x b

/-- R72, R76, R93, R251. The read may be commanded in beat `b` of the slot that runs. -/
def State.canCommand (s : State) (m : MediaRead) (b : Nat) : Bool := s.canTake m b && !s.yields m b

/-- R289. The reads that are commanded together with this one: those of a logical read's stripe that still wait at step 1. -/
def State.batchOf (s : State) (m : MediaRead) : List MediaRead :=
  match m.use with
  | .logical _ => if m.step = 1 then s.media.reads.filter fun x => x.use == m.use && x.psn == m.psn && x.step == 1 && x.asks else [m]
  | _ => [m]

/-- R203, R207. The read senses at the alternate reference: at step 2, and on the channels of step 3 that are read again. -/
def MediaRead.atAlternate (m : MediaRead) : Bool := m.step == 2 || m.alt

/-- R126. The copy whose codeword this is has its page in motion. -/
def State.copyStarted (s : State) (m : MediaRead) : State :=
  match m.use with
  | .copy src => { s with xl := { s.xl with moves := s.xl.moves.map fun x => if x.src = src then { x with started := true } else x } }
  | _ => s

/-- R71, R203, R251. A read is commanded in beat `b` of the slot that runs, with the reference code of each channel's sense; its
transfers have beat `b` of the next slot. A step 3 read counts in the channel the position is assigned to (R206, R232). -/
def State.command (s : State) (b : Nat) (m : MediaRead) : State :=
  let u := s.now
  let s1 := (s.copyStarted m).modRead m.id fun m => { m with
    beat := some b, slot := u, refs := m.chans.map fun c => (c, s.refCode c m.psn m.atAlternate) }
  let live := s1.media.transfers.filter fun t => decide (u ≤ t.2.1)
  let s2 : State := { s1 with media := { s1.media with transfers := live ++ m.chans.map fun c => (c, u + 1, b) } }
  let c := s.assigned (dieOf m.psn) m.pos
  let s3 := s2.gate (m.step == 3 && !m.alt) fun s =>
    (s.modMch c fun x => { x with recon := sat32 x.recon 1 }).count (bMch c) 0x42 1
  m.chans.foldl (fun s c => s.count (bMch c) 0x40 1) s3

/-- R22, R203, R207, R251, R289. READ_COMMAND, in the beat that runs. -/
def execReadCommand (cyc id beat : Nat) (s0 : State) : Res :=
  let s := s0.begin.at cyc
  match s.readOf id with
  | some m => .next (s.gate (beat == s.curBeat && (s.batchOf m).all fun x => s.canCommand x beat) fun s =>
      (s.batchOf m).foldl (fun s x => s.command beat x) s)
  | none => .next s

/-- R594. The class of a beat that carried this read's codeword. -/
def MediaRead.beatClass (m : MediaRead) : Nat :=
  if m.kind = .maintenance then 5 else if m.step = 3 then 2 else if m.step = 2 then 1 else 3

/-- R78, R594. Count a codeword transferred from a channel's stack. A beat carried over a change of map that the new map does not
class as read is wasted. -/
def State.transferred (s : State) (m : MediaRead) (c : Nat) : State :=
  let carried := s.tt.carry && decide (s.tt.cyc < 64) && m.kind != .maintenance && s.beatClass 0 (m.beat.getD 0) != 0
  (s.beat c (if carried then 1 else m.beatClass) 1).bwAdd (3 + c) 0 256

/-- R309. Record GEN_AHEAD. -/
def State.genAhead (s : State) (psn lpn gen : Nat) : State :=
  let k := s.slotOfLpn lpn
  s.record bCry 288 0x0901 .error [(5, psn), (1, k), (1, gen), (1, (s.keySlot k).cur)]

/-- R199, R290. What a codeword shows that no page's MAC covers: parity, and a stripe that holds no page. One that decodes to a wrong word
passes with data that is free. -/
def State.bareCw (s : State) (w : Codeword) (errs : Nat) (wrong : Bool) : Decoded × Codeword :=
  if errs < 14 then (.good w.data w.poison, w)
  else if wrong then
    let d : BitVec 2048 := (Config.draw s.draws).setWidth 2048
    (.good d w.poison, { w with data := d })
  else (.undecodable, w)

/-- R199, R206, R306, R309. The outcome of a codeword of a read, and the codeword as it decoded. -/
def State.checkRead (s : State) (m : MediaRead) (w : Codeword) (errs : Nat) (wrong : Bool) : Decoded × Codeword :=
  if m.block < 16 ∧ m.lpn < userPages then (s.checkCw m.lpn m.block w errs wrong, w) else s.bareCw w errs wrong

/-- R206, R270. A codeword did not pass: the step has failed. -/
def State.stepFailed (s : State) (m : MediaRead) (o : Decoded) (gen : Nat) : State :=
  let s1 := match o with
    | .macFailed true => (s.macOnly m.psn).genAhead m.psn m.lpn gen
    | .macFailed false => s.macOnly m.psn
    | _ => s
  if m.step = 3 then s1.ladderEnd m
  else s1.modRead m.id fun x => { x with bad := [m.pos], beat := none }

/-- R206. The position is missing because no die holds the codeword: its die has failed and none serves it, or its rebuild has not
reached the stripe. A position the watch list marks bad has a die. -/
def State.noDie (s : State) (psn q : Nat) : Bool :=
  match s.chanOf (dieOf psn) q with
  | none => true
  | some c => (s.mch c).rebuilding.contains (dieOf psn) && decide ((s.mch c).rebuild.getD (dieOf psn) 0 ≤ psn)

/-- R209, R214, R221. What a codeword that passed at step 3 is owed: nothing where no die holds its position; a rewrite where the position
was bad; otherwise the step 2 that failed counts against the die, unless a beat was missed in its place. -/
def State.recovered (s : State) (m : MediaRead) (w : Codeword) (c : Nat) : State :=
  if s.noDie m.psn m.pos then s
  else if s.missing m.psn m.pos then s.oweRewrite .corrective c m.psn w
  else
    let s1 := s.gate (!m.missed) fun s => s.modMch c fun x => { x with step2Fns := x.step2Fns ++ [(dieOf m.psn, s.tt.fn)] }
    (s1.weakCw c m.psn m.pos).oweRewrite .corrective c m.psn w

/-- R206, R209, R214, R471. A codeword passed: the ladder ends with its line. A crossing of the stripe in flight makes it old for what
maintenance would write. -/
def State.stepPassed (s : State) (m : MediaRead) (w : Codeword) (data : BitVec 2048) (poison : BitVec 4) (c errs : Nat) :
    State :=
  let old := m.kind == .maintenance && s.media.crossings.any fun x => x.psn == m.psn
  let s1 := s.modRead m.id fun x => { x with result := some (data, poison), word := if old then none else some w }
  let s2 := s1.count bCry 0x41 (b2n (w.gen != 0))
  if m.step = 1 then
    if 7 ≤ errs then ((s2.modMch c fun x => { x with corr := sat32 x.corr 1 }).count (bMch c) 0x46 1 |>.soundCw c m.psn).oweRewrite
      .corrective c m.psn w
    else s2.soundCw c m.psn
  else if m.step = 2 then (s2.gate (decide (m.pos < 17)) fun s => s.weakCw c m.psn m.pos).oweRewrite .corrective c m.psn w
  else s2.recovered m w c

/-- R201. The codeword at position `pos` from the 16 others. -/
def State.reconstruct (s : State) (psn pos : Nat) : Codeword :=
  let ws := ((List.range 17).filter fun q => q != pos).map fun q => s.cell (s.assigned (dieOf psn) q) psn
  { xorCws (ws.headD {}) ws with parity := pos == parityPos psn }

/-- R201, R202. The 16 codewords of a reconstruct read have come: those that did not decode are read again at the alternate reference,
once; otherwise the result is checked as a codeword read directly. -/
def State.reconstructed (s : State) (m : MediaRead) : State :=
  if m.bad.isEmpty then
    let t := s.checkRead m (s.reconstruct m.psn m.pos) (if m.wrong then 14 else 0) m.wrong
    match t.1 with
    | .good d p => s.stepPassed m t.2 d p (s.assigned (dieOf m.psn) m.pos) 0
    | o => s.stepFailed m o t.2.gen
  else if m.alt then s.ladderEnd m
  else s.modRead m.id fun x => { x with beat := none }

/-- R71, R199, R201, R206. A codeword of a read transfers from channel `c` with `errs` bit errors. -/
def State.transfer (s : State) (m : MediaRead) (c errs : Nat) (wrong : Bool) : State :=
  let s1 := s.transferred m c
  let fixed := if errs < 14 then m.corrected.set c errs else m.corrected
  if m.step = 3 then
    let m2 := { m with
      got := m.got ++ [c], corrected := fixed, wrong := m.wrong || (decide (14 ≤ errs) && wrong)
      bad := if 14 ≤ errs ∧ wrong = false then m.bad ++ [c] else m.bad }
    let s2 := s1.modRead m.id fun _ => m2
    if m2.got.length < m2.chans.length then s2 else s2.reconstructed m2
  else
    let s2 := s1.modRead m.id fun x => { x with got := [c], corrected := fixed }
    let t := s2.checkRead m (s1.cell c m.psn) errs wrong
    match t.1 with
    | .good d p => s2.stepPassed m t.2 d p c errs
    | o => s2.stepFailed m o t.2.gen

/-- R71. The read's codeword is due on channel `c` in the beat and slot that run. -/
def State.due (s : State) (m : MediaRead) (c : Nat) : Bool :=
  m.beat == some s.curBeat && m.slot + 1 == s.now && m.chans.contains c && !m.got.contains c

/-- R71. READ_TRANSFER, in the beat of the command of the slot after it. -/
def execReadTransfer (cyc id : Nat) (mch errs : Nat) (wrong : Bool) (s0 : State) : Res :=
  let s := s0.begin.at cyc
  match s.readOf id with
  | some m => .next (s.gate (s.due m mch) fun s => s.transfer m mch errs wrong)
  | none => .next s

/-- R623. The read-kind item of MISSING_BEAT. -/
def MediaRead.kindItem (m : MediaRead) : Nat :=
  if m.kind = .maintenance then 6 else if m.step = 3 then 2 else if m.step = 2 then 1 else match m.kind with
  | .host => 0
  | .altRef => 1
  | .reconstruct => 2
  | .merge => 3
  | .lockFill => 4
  | .barge => 5
  | .maintenance => 6

/-- R97. A read whose data is missing: a maintenance read is retried, any other is served by reconstruction. -/
def MediaRead.missedBeat (m : MediaRead) : MediaRead :=
  if m.kind = .maintenance then { m with beat := none, got := [], bad := [], missed := true }
  else { m with step := 2, bad := [m.pos], beat := none, got := [], alt := false, missed := true
                joined := m.joined.map fun r => { r with causes := r.causes ||| 1#8 } }

/-- R97, R214. MISSING_BEAT, in the last cycle of the transfer beat. -/
def execMissingBeat (cyc id mch : Nat) (s0 : State) : Res :=
  let s := s0.begin.at cyc
  match s.readOf id with
  | some m => .next (s.gate (s.due m mch && s.tt.cyc % 64 % 10 == 9) fun s =>
      let s1 := ((s.miss 0).beat mch 1 1).record (bMch mch) (dieSrc mch (dieOf m.psn)) 0x0111 .error
        [(1, s.now % 16), (1, m.beat.getD 0), (1, planeOf m.psn), (4, rowOf m.psn), (1, m.kindItem)]
      let s2 := s1.modMch mch fun x => { x with missFns := x.missFns ++ [(dieOf m.psn, s1.tt.fn)] }
      s2.modRead id MediaRead.missedBeat)
  | none => .next s

/-- R206, R210. Count an alternate-reference read of a die, with ALT_REF_HIGH at the first beyond the limit. -/
def State.altRead (s : State) (c psn : Nat) : State :=
  let d := dieOf psn
  let n := (s.mch c).altWin.getD d 0 + 1
  let high := decide (s.regF (bMch c) 0x034 0 16 < n) && !(s.mch c).altRecorded.contains d
  let s1 := (s.modMch c fun m => { m with alt := sat32 m.alt 1, altWin := m.altWin.set d n }).count (bMch c) 0x41 1
  s1.gate high fun s =>
    let s2 := s.modMch c fun m => { m with altRecorded := m.altRecorded ++ [d] }
    ({ s2 with mnt := { s2.mnt with altHigh := true } } : State).record (bMch c) (dieSrc c d) 0x0601 .warning [(1, d), (4, n)]

/-- R72, R89, R206, R208. Channel `c` takes the re-read in slot `u`: only a host read may suspend a write. -/
def State.takesRead (s : State) (m : MediaRead) (c u : Nat) : Bool :=
  match s.eligible c (dieOf m.psn) (planeOf m.psn) u with
  | some susp => !susp || m.kind == .host
  | none => false

/-- R206, R208. The slot that channels `cs` reserve for a step of the ladder, of the next `n`, and whether it suspends a write; a
maintenance read waits for a beat of its own instead. -/
def State.ladderSlot (s : State) (m : MediaRead) (cs : List Nat) (n : Nat) : Option (Nat × Bool) :=
  if m.kind = .maintenance then some (s.now, false)
  else ((List.range n).find? fun i => cs.all fun c => s.takesRead m c (s.now + 1 + i)).map fun i =>
    let u := s.now + 1 + i
    (u, cs.any fun c => s.eligible c (dieOf m.psn) (planeOf m.psn) u == some true)

/-- R206. A read goes on to another step, on channels `cs`, in the slot given. -/
def MediaRead.goOn (m : MediaRead) (step : Nat) (alt : Bool) (cs : List Nat) (t : Nat × Bool) : MediaRead :=
  { m with
    step := step, alt := alt, bad := [], got := [], beat := none, chans := cs, slot := t.1, suspends := t.2
    waits := m.kind == .maintenance, joined := m.joined.map fun r => { r with causes := r.causes ||| 2#8 } }

/-- R202, R206. The channels a read has to read again at the alternate reference: its own after step 1, and those of step 3 that did not
decode. -/
def MediaRead.again (m : MediaRead) : List Nat :=
  if m.step = 1 ∧ m.bad ≠ [] then m.chans
  else if m.step = 3 ∧ m.alt = false ∧ m.got.length = m.chans.length ∧ m.result = none then m.bad
  else []

/-- R202, R206. ALTERNATE_REFERENCE_READ: in the guard, a read whose step 1 failed, or channels of step 3 that did not decode, reserve the
earliest later slot. -/
def execAlternateReferenceRead (cyc id : Nat) (s0 : State) : Res :=
  let s := s0.begin.at cyc
  match s.readOf id with
  | some m =>
    match if m.again ≠ [] ∧ s.inGuard = true then s.ladderSlot m m.again 16 else none with
    | some t =>
      let s1 := s.modRead id fun x => x.goOn (if m.step = 1 then 2 else 3) (m.step == 3) m.again t
      .next (m.again.foldl (fun s c => s.altRead c m.psn) s1)
    | none => .next s
  | none => .next s

/-- R201, R206. RECONSTRUCT_READ: step 3 of a read whose step 2 failed, or whose data was missing, reserves one slot on the
16 other channels; a second missing position ends the ladder. -/
def execReconstructRead (cyc id : Nat) (s0 : State) : Res :=
  let s := s0.begin.at cyc
  match s.readOf id with
  | some m =>
    if m.step ≠ 2 ∨ m.bad = [] ∨ 17 ≤ m.pos then .next s
    else
      let others := (List.range 17).filter fun q => q != m.pos
      if others.any fun q => s.missing m.psn q then .next (s.ladderEnd m)
      else
        let cs := others.map fun q => s.assigned (dieOf m.psn) q
        match s.ladderSlot m cs 4 with
        | some t => .next (s.modRead id fun x => x.goOn 3 false cs t)
        | none => .next s
  | none => .next s

/-- R210. ALT_WINDOW_END, at a tick whose FN is a multiple of 2^24. -/
def execAltWindowEnd (s0 : State) : Res :=
  let s := s0.begin
  .next (s.gate (s.tt.fn % 2 ^ 24 == 0) fun s =>
    { s with media := { s.media with
      mchs := s.media.mchs.map fun p => (p.1, { p.2 with altWin := [], altRecorded := [] }) } })

/-- R86, R468. A single-codeword write can begin in beat `b` of the slot that runs. -/
def State.canRewrite (s : State) (w : CwWrite) (b : Nat) : Bool :=
  let u := s.now
  let d := dieOf w.psn
  let k := s.beatClass (u % 16) b
  w.slot.isNone && b == s.curBeat && decide (b < 6) && (k == 1 || k == 2) && s.role w.mch d != 31 && !s.tt.excluded.getLsbD d
    && (s.planeWrite w.mch d (planeOf w.psn) u).isNone
    && !s.writeBeat w.mch u b && !s.media.transfers.contains (w.mch, u, b) && !s.media.transfers.contains (w.mch, u + 1, b)
    && !(s.media.crossings.any fun x => x.chans.contains w.mch && x.slot == u && dieOf x.psn == d)
    && !(s.media.rewrites.any fun x => x.mch == w.mch && x.slot == some u && dieOf x.psn == d)
    && !(s.media.crossings.any fun x => x.psn == w.psn && x.chans.contains w.mch)
    && !(s.media.reads.any fun m => m.chans.contains w.mch && dieOf m.psn == d && planeOf m.psn == planeOf w.psn
          && !m.got.contains w.mch && (m.beat.isSome || !m.waits)
          && ((decide (u ≤ m.slot) && decide (m.slot ≤ u + 2)) || (m.slot + 1 == u && m.beat.any fun b' => decide (b < b'))))
    && (s.tt.cwSlots.contains u || s.capRoom u false)

/-- R86, R471. Begin an owed single-codeword write in the slot that runs. -/
def State.beginRewrite (s : State) (w : CwWrite) (b : Nat) : State :=
  let u := s.now
  let s1 : State := { s with
    media := { s.media with rewrites := s.media.rewrites.map fun x =>
      if x.id = w.id then { x with slot := some u, beat := b } else x }
    tt := { s.tt with cwSlots := if s.tt.cwSlots.contains u then s.tt.cwSlots else s.tt.cwSlots ++ [u] } }
  (s1.beat w.mch 5 1).bwAdd (3 + w.mch) 1 256

/-- R209, R471. CORRECTIVE_REWRITE: an owed in-place rewrite takes a maintenance beat. -/
def execCorrectiveRewrite (cyc id beat : Nat) (s0 : State) : Res :=
  let s := s0.begin.at cyc
  match s.media.rewrites.find? fun w => w.id == id with
  | some w => .next (s.gate (s.canRewrite w beat) fun s => s.beginRewrite w beat)
  | none => .next s

end Sys2Proof.Machine
end

