-- ==== Sys2Proof/Machine/Osc.lean ====
section
/-!
DEFINITION. The timetable references and frame overruns (R97, R100–R107). TICK_LOST, which starts a flush, is in
Power.lean, and what happens at a tick is in Tick.lean.
-/
namespace Sys2Proof.Machine

/-- R623. The oscillator item. -/
def oscVal : Osc → Nat
  | .main => 0
  | .backup => 1

/-- R623. The oscillator cause item. -/
def causeVal : OscCause → Nat
  | .noEdge => 0
  | .frequency => 1
  | .lostLock => 2
  | .forced => 3

/-- The other oscillator. -/
def oscOther : Osc → Osc
  | .main => .backup
  | .backup => .main

/-- The OK bit of an oscillator. -/
def Tt.okOf (t : Tt) : Osc → Bool
  | .main => t.mainOk
  | .backup => t.backupOk

/-- Set the OK bit of an oscillator; MAIN_OK counts its time from here. -/
def Tt.setOk (t : Tt) (o : Osc) (v : Bool) : Tt :=
  match o with
  | .main => { t with mainOk := v, mainOkSince := t.fn - t.skip }
  | .backup => { t with backupOk := v }

/-- R101, R102. OSC_SWITCH: the active reference fails while the other is sound; the PLL switches and relocks. A lost lock
counts against the active reference only, so the oscillator left stays sound. -/
def execOscSwitch (cause : OscCause) (s0 : State) : Res :=
  let s := s0.begin
  let o := s.tt.src
  .next (s.gate (s.tt.okOf (oscOther o) && cause != .forced) fun s =>
    ({ s with tt := { (if cause = .lostLock then s.tt else s.tt.setOk o false) with
      src := oscOther o, locked := true, holdover := false, disagree := false, standbyFailed := false } } : State).record bTt 369 0x0321 .warning
      [(1, oscVal o), (1, causeVal cause)])

/-- R103. OSC_DISAGREE: the measured difference; FAULT stands while it exceeds 100 ppm and neither counts as failed. -/
def execOscDisagree (ppm : Int) (s0 : State) : Res :=
  let s := s0.begin
  let on := decide (100 < ppm.natAbs) && s.tt.mainOk && s.tt.backupOk
  let s1 : State := { s with tt := { s.tt with disagree := on } }
  .next (s1.gate (on && !s.tt.disagree) fun s => s.record bTt 369 0x0322 .warning [(2, signed 2 ppm)])

/-- R104. OSC_STANDBY_FAIL, once while the standby oscillator counts as failed: also where it did so at a cold start, or when it was
left. -/
def execOscStandbyFail (cause : OscCause) (s0 : State) : Res :=
  let s := s0.begin
  let o := oscOther s.tt.src
  .next (s.gate (!s.tt.standbyFailed && cause != .forced) fun s =>
    ({ s with tt := { s.tt.setOk o false with
      standbyFailed := true, disagree := false, forceReq := s.tt.forceReq && o != .backup
      returnReq := s.tt.returnReq && o != .main } } : State).record bTt 369 0x0325 .error [(1, oscVal o), (1, causeVal cause)])

/-- R104, R105. OSC_STANDBY_OK: sound for 1 s without a break. Its OK bit reads 1 from here (R105). -/
def execOscStandbyOk (s0 : State) : Res :=
  let s := s0.begin
  let o := oscOther s.tt.src
  .next (s.gate (!s.tt.okOf o) fun s =>
    ({ s with tt := { s.tt.setOk o true with standbyFailed := false } } : State).record bTt 369 0x0326 .info [(1, oscVal o)])

/-- R105. RETURN: taken when XO_BACKUP is the reference and MAIN_OK has read 1 for 1 s; ignored otherwise. -/
def State.oscReturn (s : State) : State :=
  { s with tt := { s.tt with returnReq := s.tt.returnReq
      || (s.tt.src == .backup && s.tt.mainOk && decide (s.tt.mainOkSince + 244141 ≤ s.frame)) } }

/-- R105. RETURN. -/
def execReturnMain (s : State) : Res := .next s.begin.oscReturn

/-- R104, R107. FORCE_BACKUP: taken when BACKUP_OK is 1; ignored otherwise. -/
def State.oscForce (s : State) : State :=
  { s with tt := { s.tt with forceReq := s.tt.forceReq || (s.tt.src == .main && s.tt.backupOk) } }

/-- R107. FORCE_BACKUP. -/
def execForceBackup (s : State) : Res := .next s.begin.oscForce

/-- R97, R99. FRAME_OVERRUN: the tasks of a bitmap are not done by the tick, and complete in the frame that follows. -/
def execFrameOverrun (late : BitVec 8) (s0 : State) : Res :=
  let s := s0.begin
  .next (s.gate (late != 0) fun s =>
    let s1 := (s.miss 3).record bTt 368 0x0312 .error [(1, late.toNat)]
    { s1 with tt := { s1.tt with overrunNow := true, late := s1.tt.late ||| late } })

end Sys2Proof.Machine
end

