-- ==== Sys2Proof/Machine/Xlate.lean ====
section
/-!
DEFINITION. Parameter-store writes (R493–R498), and the commands of the translation (04): the probe, decoder commits,
write counters, gap moves, checkpoints and retirements (R113, R122–R141, R221).
-/
namespace Sys2Proof.Machine

/-! ### Parameter store -/

/-- R492. The time in ns of a command: 8 clocks of 20 ns, and 2 for each byte. -/
def StoreWrite.time (w : StoreWrite) : Nat := 20 * (8 + 2 * w.old.length)

/-- R492. The command has been clocked in whole by `ns`. -/
def StoreWrite.overAt (w : StoreWrite) (ns : Nat) : Bool := decide (w.start + w.time ≤ ns)

/-- R492. The commands that write `n` bytes from address `a`, as addresses and lengths: each stays within a page of 256 B. -/
def storePages : Nat → Nat → Nat → List (Nat × Nat)
  | 0, _, _ => []
  | fuel + 1, a, n =>
    let p := min n (256 - a % 256)
    if n = 0 then [] else (a, p) :: storePages fuel (a + p) (n - p)

/-- R498. Commands that wait begin one after another from `t`. -/
def storeQueue : Nat → List StoreWrite → List StoreWrite
  | _, [] => []
  | t, w :: ws => { w with start := t } :: storeQueue (t + w.time) ws

/-- R492, R498. The store takes the bytes of a write of class `cls`. Its commands wait: a command in progress completes, then the others run
by class, oldest first within one. -/
def State.storeBegin (s : State) (cls a : Nat) (bs : List (BitVec 8)) : State :=
  let live := s.pst.writing.filter fun w => !w.overAt s.ns
  let going := live.filter fun w => decide (w.start ≤ s.ns)
  let mine := (storePages (bs.length / 256 + 2) a bs.length).map fun p =>
    ({ start := 0, cls := cls, addr := p.1, old := Mem.reads s.store p.1 p.2 } : StoreWrite)
  let wait := (live.filter fun w => decide (s.ns < w.start)) ++ mine
  let order := (List.range 10).flatMap fun c => wait.filter fun w => w.cls == c
  { s with
    store := Mem.writes s.store a bs
    pst := { s.pst with writing := going ++ storeQueue (going.foldl (fun t w => max t (w.start + w.time)) s.ns) order } }

/-- R493. Power fails: of each command under way, the bytes clocked in hold their new values and the rest their old ones. The time of the
failure is a free value, and the byte being clocked then is old or new by another (log entry 155). -/
def State.storeCut (s : State) : State :=
  let ns := s.ns + (Config.draw s.draws).toNat
  let torn := (Config.draw (s.draws + 1)).toNat % 2
  let back (m : Mem) (w : StoreWrite) : Mem :=
    let n := w.old.length
    let cl := (ns - w.start) / 20
    let k := min n ((cl - 8) / 2)
    let k1 := if 0 < cl ∧ k < n then k + torn else k
    if w.overAt ns then m else Mem.writes m (w.addr + k1) (w.old.drop k1)
  { s with
    draws := s.draws + 2
    store := (s.pst.writing.filter fun w => !w.overAt s.ns).reverse.foldl back s.store
    pst := { s.pst with writing := [] } }

/-- R510. The commands of the classes given that have not begun are discarded: the bytes they were to replace stay. -/
def State.storeDrop (s : State) (cls : List Nat) : State :=
  let gone (w : StoreWrite) : Bool := cls.contains w.cls && decide (s.ns < w.start)
  { s with
    store := (s.pst.writing.filter gone).reverse.foldl (fun m w => Mem.writes m w.addr w.old) s.store
    pst := { s.pst with writing := s.pst.writing.filter fun w => !gone w } }

/-- R494, R498, R522. A store write of class `cls` (R498, counted from 0): it takes effect, or STORE_FAIL is recorded when
its read-back fails or the store does not answer. -/
def State.storePut (s : State) (cls addr : Nat) (bs : List (BitVec 8)) (ok : Bool) : State :=
  let s1 := s.count bPst 0x40 (storePages (bs.length / 256 + 2) addr bs.length).length
  if ok then (s1.storeBegin cls addr bs).count bPst 0x41 bs.length
  else s1.record bPst 383 0x0e15 .error [(1, cls), (4, addr)]

/-- Pad a byte list with zeros to `n` bytes. -/
def padTo (n : Nat) (bs : List (BitVec 8)) : List (BitVec 8) := (bs ++ List.replicate (n - bs.length) 0).take n

/-! ### Probe and decoders -/

/-- R140. TRANSLATION_PROBE: translate a DPA with the active state, without media access. -/
def State.probe (s : State) (dpa : Nat) : State :=
  let l := dpa / 4096
  let d := distOf l
  let slot := (s.district d.1).slotOf d.2
  let p0 := psnOf d.1 slot
  let p1 := (s.berthMap p0).getD p0
  let p2 := (s.stripeMap p1).getD p1
  let q := parityPos p2
  let clear : Xl := { s.xl with
    probeDone := true, probeOut := true, probeBerth := false, probeStripe := false, probeMoving := false
    probeDistrict := 0, probeParityPos := 0, probeParityMch := 0, probeMissing := false, probeOffset := 0, probeSlot := 0
    probePsn := 0 }
  if windowBase ≤ dpa then { s with xl := clear }
  else
    ({ s with xl := { clear with
      probeOut := false, probeBerth := (s.berthMap p0).isSome, probeStripe := (s.stripeMap p1).isSome
      probeMoving := (s.moveOf p2).isSome, probeDistrict := d.1, probeParityPos := q
      probeParityMch := s.assigned (dieOf p2) q, probeMissing := s.missing p2 q, probeOffset := d.2, probeSlot := slot
      probePsn := p2 } } : State).translates l 1

/-- R140. TRANSLATION_PROBE: a write of XL_PROBE_DPA. -/
def execTranslationProbe (dpa : Nat) (s : State) : Res :=
  let s1 := s.begin.setW bXl 0x040 (BitVec.ofNat 32 dpa)
  .next ((s1.setW bXl 0x044 (BitVec.ofNat 32 (dpa / 2 ^ 32 % 8192))).probe (dpa % 2 ^ 45))

/-- R113. Every part of a DPA range lies in a valid region of the head, or in the commit window. Regions and decoders are
measured in units of 256 MiB here. -/
def State.rangeOwned (s : State) (h first len : Nat) : Bool :=
  let rs := ((List.range 64).map fun n => s.region (bHp h) n).filter fun r => r.valid && s.owner r == h
  let inWin (u : Nat) : Bool := u == 98304
  let edges := first :: (rs.map fun r => (r.base + r.size) * 4).filter fun u => decide (first < u) && decide (u < first + len)
  decide (0 < len) && decide (first + len ≤ 98305)
    && edges.all (fun u => inWin u || rs.any fun r => decide (r.base * 4 ≤ u) && decide (u < (r.base + r.size) * 4))
    && (decide (first + len < 98305) || decide (first = 98304)
        || rs.any fun r => decide (r.base * 4 ≤ 98303) && decide (98304 ≤ (r.base + r.size) * 4))

/-- R440. The DPA unit after decoder `n` of a head. -/
def State.hdmEnd (s : State) (h n : Nat) : Nat :=
  match (s.hp h).hdms.get? n with
  | some d => d.dpa + d.size / d.ways
  | none => 0

/-- R440. Why a commit is refused, in the order R113 (its two cases), R440: 0 none. -/
def State.hdmCause (s : State) (h n base size ways gran skip : Nat) : Nat :=
  let first := (if n = 0 then 0 else s.hdmEnd h (n - 1)) + skip
  let len := size / max ways 1
  let form := decide (n < 4) && [1, 2, 3, 4, 6, 8, 12, 16].contains ways
    && [256, 512, 1024, 2048, 4096, 8192, 16384].contains gran && decide (size % max ways 1 = 0)
    && (decide (n = 0) || (s.hp h).hdms.has (n - 1)) && !(s.hp h).hdms.has n
    && !((s.hp h).hdms.any fun p => decide (base < p.2.base + p.2.size) && decide (p.2.base < base + size))
  if s.rangeOwned h first len = false then 1
  else if 98304 < first + len ∧ 1 < ways then 2
  else if form = false then 3
  else 0

/-- R113, R440. HDM_DECODER_COMMIT: base, size and skip in units of 256 MiB, granularity in bytes. -/
def execHdmDecoderCommit (head : Fin 2) (n base size ways gran skip : Nat) (lock : Bool) (s0 : State) : Res :=
  let s := s0.begin
  let h := head.val
  let cause := s.hdmCause h n base size ways gran skip
  if cause = 0 then
    let d : Hdm := { base := base, size := size, ways := ways, gran := gran, locked := lock
                     dpa := (if n = 0 then 0 else s.hdmEnd h (n - 1)) + skip }
    .next ((s.modHp h fun x => { x with hdms := x.hdms.set n d }).emit (.decoder h n true))
  else .next ((s.record (bHp h) (248 + 12 * h + 2) 0x0c21 .warning [(1, n), (1, cause - 1)]).emit (.decoder h n false))

/-- R123. A crossing of a page of district `d` that is ready to commit. -/
def State.commitsIn (s : State) (d : Nat) (x : Crossing) : Bool :=
  x.launched && (x.chans.all fun c => x.done.contains c) && decide (x.slot + 10 + x.kMax ≤ s.now) && (match x.work with
    | .landing k => (distOf (s.entryK k).lpn).1 == d
    | .blank l => (distOf l).1 == d
    | _ => false)

/-- R123. WRITE_COUNTER_WRAP: the crossing that takes a district's write counter from 63 to 0 commits. -/
def execWriteCounterWrap (district : Nat) (s0 : State) : Res :=
  let s := s0.begin
  match if district < 384 ∧ (s.district district).wcount = 63 then s.media.crossings.find? fun x => s.commitsIn district x else none with
  | some x => .next (s.commitCrossing x)
  | none => .next s

/-! ### Copies (R124, R134, R283) -/

/-- The reads of one purpose. -/
def State.readsOf (s : State) (u : ReadUse) : List MediaRead := s.media.reads.filter fun m => m.use == u

/-- R206. The ladder of the read has ended. -/
def MediaRead.ended (m : MediaRead) : Bool := m.result.isSome || m.step == 4

/-- R206. The reads of one purpose have begun, and every ladder has ended. -/
def State.readsEnded (s : State) (u : ReadUse) : Bool := !(s.readsOf u).isEmpty && (s.readsOf u).all MediaRead.ended

/-- The reads of one purpose have been used. -/
def State.dropReads (s : State) (u : ReadUse) : State :=
  { s with media := { s.media with reads := s.media.reads.filter fun m => m.use != u } }

/-- R72, R206. Begin a maintenance read of one position of a stripe. -/
def State.maintRead (s : State) (u : ReadUse) (psn pos : Nat) : State :=
  s.queueRead { id := 0, kind := .maintenance, use := u, lpn := (s.lpnAt psn).getD userPages, block := (posBlock psn pos).getD 16
                psn := psn, pos := pos, chans := [], slot := 0 }

/-- The read of a block of a page for one purpose. -/
def State.blockFor (s : State) (u : ReadUse) (lpn j : Nat) : Option MediaRead :=
  s.media.reads.find? fun m => m.use == u && m.lpn == lpn && m.block == j

/-- R173, R482. Begin the read of a block of a page that takes a read beat the host leaves. -/
def State.blockBegin (s : State) (kind : ReadKind) (u : ReadUse) (lpn j : Nat) : State :=
  let psn := s.readPsn lpn
  (s.translates lpn 1).queueRead { id := 0, kind := kind, use := u, lpn := lpn, block := j, psn := psn, pos := blockPos psn j
                                   chans := [], slot := 0 }

/-- Two stripes take no part in another copy (R480 note 4). -/
def State.copyFree (s : State) (a b : Nat) : Bool :=
  !(s.xl.moves.any fun m => m.src == a || m.src == b || m.dst == a || m.dst == b)

/-- R283, R625. Record and list what a copy lost. -/
def State.copyLost (s : State) (src reader : Nat) (lost : List Nat) : State :=
  lost.foldl (fun s j =>
    let s1 := s.uncorrectable src (blockPos src j) reader 15
    match s.lpnAt src with
    | some l => s1.poisonPage .internal l (blockMask j 15)
    | none => s1) s

/-- R124, R134. A copy begins: every position of the source is read. -/
def State.beginCopy (s : State) (kind : CopyKind) (src dst : Nat) : State :=
  let s1 : State := { s with xl := { s.xl with moves := s.xl.moves ++ [{ kind := kind, src := src, dst := dst }] } }
  (List.range 17).foldl (fun s q => s.maintRead (.copy src) src q) s1

/-- R124–R126. The slots a district's next gap move copies from and to. -/
def District.next (x : District) : Nat × Nat := if x.gap = 0 then (distN, 0) else (x.gap - 1, x.gap)

/-- R124, R136. The home tag a copy writes: that of the page under the START its move brings, or the one its codewords carry. -/
def State.copyHome (s : State) (m : Move) (ws : List Codeword) : BitVec 16 :=
  match m.kind with
  | .gapMove d =>
    let x := s.district d
    let start := if x.gap = 0 then (x.start + 1) % distN else x.start
    BitVec.ofNat 16 (x.offOf x.next.1 % 4096 + start % 16 * 4096)
  | _ => (ws.head?.map fun w => w.home).getD (s.homeAt m.src)

/-- R124, R283, R309. The 16 codewords of a copy and its parity, and the blocks that were lost. A lost block is written as blank with its
four sectors poisoned, which needs no key. -/
def State.copyWords (s : State) (m : Move) : List Codeword × List Nat :=
  let rs := s.readsOf (.copy m.src)
  let word (q : Nat) : Option Codeword := (rs.find? fun r => r.pos == q).bind fun r => r.word
  let rd (j : Nat) : Option Codeword := word (blockPos m.src j)
  let home := s.copyHome m ((List.range 16).filterMap rd)
  let ws := (List.range 16).map fun j => { (rd j).getD { poison := 15 } with home := home }
  let lost := (List.range 16).filter fun j => (rd j).isNone
  let par := match word (parityPos m.src), lost with
    | some w, [] => { w with home := home, parity := true }
    | _, _ => { parityOf ws with home := home }
  (ws ++ [par], lost)

/-- R124, R134. A copy whose reads have ended is offered as a maintenance crossing; what it lost is recorded and listed. -/
def State.offerCopy (s : State) (m : Move) (reader : Nat) : State :=
  let t := s.copyWords m
  let s1 := (s.dropReads (.copy m.src)).copyLost m.src reader t.2
  { s1 with xl := { s1.xl with moves := s1.xl.moves.map fun x => if x.src = m.src then { x with ws := t.1 } else x } }

/-- R124, R134. A copy of this kind whose reads have ended and which is not offered yet. -/
def State.copyRead (s : State) (kind : CopyKind) : Option Move :=
  s.xl.moves.find? fun m => m.kind == kind && m.ws.isEmpty && s.readsEnded (.copy m.src)

/-- R124, R125. A move of the district is in flight. -/
def State.districtMoving (s : State) (d : Nat) : Bool := s.xl.moves.any fun m => m.kind == .gapMove d

/-- R124–R126, R480. GAP_MOVE: the copy of the page next to the gap begins; once it is read, it is offered. -/
def execGapMove (cyc district : Nat) (s0 : State) : Res :=
  let s := s0.begin.at cyc
  match s.copyRead (.gapMove district) with
  | some m => .next (s.offerCopy m 7)
  | none =>
    let x := s.district district
    let n := x.next
    let src := s.remap (psnOf district n.1)
    let dst := s.remap (psnOf district n.2)
    let ok := s.enginesRun && decide (district < 384) && decide (0 < x.pending) && !x.frozen && !s.districtMoving district
      && !s.crossingOn src && s.copyFree src dst
    .next (s.gate ok fun s => s.beginCopy (.gapMove district) src dst)

/-! ### Checkpoints (R137) -/

/-- The 8 B district entry of R137 and the district state window. -/
def State.districtWord (s : State) (d : Nat) : Nat :=
  let x := s.district d
  fld 0 24 x.start + fld 24 25 x.gap + fld 49 6 x.wcount + fld 55 4 x.pending + fld 59 1 (b2n x.frozen)
    + fld 60 1 (b2n (s.districtMoving d))

/-- R137. The bytes of a checkpoint of this frame. -/
def State.ckptBytes (s : State) : List (BitVec 8) :=
  let head := leBytes 4 (s.xl.ckptSeq + 1) ++ leBytes 6 s.tt.fn ++ leBytes 2 384
  let body := padTo 4080 ((List.range 384).flatMap fun d => leBytes 8 (s.districtWord d))
  head ++ leBytes 4 (crc32c (head ++ body)).toNat ++ body

/-- R137, R141. DISTRICT_CHECKPOINT, at an FN that is a multiple of 244,140; a write that fails is recorded. -/
def execDistrictCheckpoint (ok : Bool) (s0 : State) : Res :=
  let s := s0.begin
  .next (s.gate (s.tt.fn % 244140 == 0) fun s =>
    let addr := if s.xl.ckptSeq % 2 = 0 then 0x1000 else 0
    let s1 := s.storePut 4 addr s.ckptBytes ok
    if ok then { s1 with xl := { s1.xl with ckptSeq := (s.xl.ckptSeq + 1) % 2 ^ 32, ckptFn := s.tt.fn } }
    else s1.record bXl 372 0x0431 .error [(1, 0), (4, addr), (1, 0)])

/-! ### Retirement (R133–R135, R221) -/

/-- R135. The stripe table is full. -/
def State.stripesFull (s : State) : Bool := decide (262144 ≤ s.xl.stripes.length) || s.spareStripe.isNone

/-- R132–R134. The berth entry that is new or changed once berth `b` is retired onto `t`: the source of a retired target points at the new
spare; an entry whose run ends just before it is extended when the targets continue; or the berth has an entry of its own. -/
def berthOne (m : Kv BerthEntry) (b t : Nat) : BerthEntry :=
  match m.find? fun e => decide (e.2.target ≤ b) && decide (b < e.2.target + e.2.len) with
  | some e => { src := e.2.src + (b - e.2.target), len := 1, target := t }
  | none =>
    match m.find? fun e => e.2.src + e.2.len == b && e.2.target + e.2.len == t && decide (e.2.len < 64) with
    | some e => { e.2 with len := e.2.len + 1 }
    | none => { src := b, len := 1, target := t }

/-- R132, R133. Put an entry into the berth table: in place of the shorter one it extends, or out of the run that held its source, which it
can cut in three. -/
def berthPut (m : Kv BerthEntry) (x : BerthEntry) : Kv BerthEntry :=
  match m.find? fun e => decide (e.2.src ≤ x.src) && decide (x.src < e.2.src + e.2.len) with
  | none => m.set m.length x
  | some e =>
    let i := x.src - e.2.src
    if i = 0 ∧ e.2.target = x.target then m.set e.1 x
    else
      let cut := if i = 0 then m.set e.1 x else (m.set e.1 { e.2 with len := i }).set m.length x
      if i + 1 < e.2.len then
        cut.set cut.length { src := e.2.src + i + 1, len := e.2.len - i - 1, target := e.2.target + i + 1 }
      else cut

/-- R132–R134. The berth table once berth `b` is retired onto `t`. -/
def berthTable (m : Kv BerthEntry) (b t : Nat) : Kv BerthEntry := berthPut m (berthOne m b t)

/-- R132. The stripe that stage 6 gives and whose place in the tables is `psn`. -/
def stripeOrigin (m : Kv (Nat × Nat)) (psn : Nat) : Nat := ((m.find? fun e => e.2.2 == psn).map fun e => e.2.1).getD psn

/-- R133. The lowest free spare berth. -/
def State.spareBerth (s : State) : Nat := 12615681 + 512 + s.xl.nextBerth

/-- R133, R135. The berth table takes the entries that retiring berth `b` needs, and a spare berth is free. Either one used up ends
retirement (log entry 124). -/
def State.berthRoom (s : State) (b : Nat) : Bool :=
  decide ((berthTable s.xl.berths b s.spareBerth).length ≤ 65536) && decide (s.xl.nextBerth < 1789056)

/-- R222. The channel that records that a stripe cannot be retired: the one that watches it, or else that of its first position. -/
def State.watcher (s : State) (psn : Nat) : Nat :=
  ((List.range 18).find? fun c => (s.mch c).watch.any fun w => w.psn == psn).getD (s.assigned (dieOf psn) 0)

/-- R135, R222. Record REMAP_FULL once, and stop retirement: the stripes that wait for theirs cannot be retired. -/
def State.remapFull (s : State) (table : Nat) : State :=
  if s.xl.full then s
  else
    let waiting := (s.xl.retireQ.filter fun e => !e.1).map fun e => e.2
    let s1 := ({ s with xl := { s.xl with full := true, retireQ := [] } } : State).record bXl 372 0x0422 .error [(1, table)]
    waiting.foldl (fun s p => s.retireBlocked (s.watcher p) p) s1

/-- R132, R133. Berth `b` waits for its retirement. The stripes of a stripe-spare berth that are in use are retired one by one, since no
berth entry reaches them, and its free ones are not used any more. -/
def State.queueBerth (s : State) (b : Nat) : State :=
  let add (q : List (Bool × Nat)) (e : Bool × Nat) : List (Bool × Nat) := if q.contains e then q else q ++ [e]
  if 12615681 ≤ b ∧ b < 12616193 then
    let used := (s.xl.stripes.filter fun e => e.2.2 / 512 == b).map fun e => (false, e.2.2)
    let next := if (6459228672 + s.xl.nextStripe) / 512 = b then (b + 1) * 512 - 6459228672 else s.xl.nextStripe
    { s with xl := { s.xl with retireQ := used.foldl add s.xl.retireQ, nextStripe := next } }
  else { s with xl := { s.xl with retireQ := add s.xl.retireQ (true, b) } }

/-- R221, R480. The next stripe of the queue: a copy of it begins. With the stripe table full the berth that holds its place in the tables
retires instead. -/
def State.nextStripe (s : State) : State :=
  match s.xl.retireQ.find? fun e => !e.1 with
  | some e =>
    let psn := e.2
    let rest : State := { s with xl := { s.xl with retireQ := s.xl.retireQ.erase e } }
    if s.xl.full || !s.enginesRun then s
    else if s.stripesFull then
      rest.queueBerth (stripeOrigin s.xl.stripes psn / 512)
    else
      let dst := 6459228672 + s.xl.nextStripe
      s.gate (!s.crossingOn psn && s.copyFree psn dst) fun _ =>
        ({ rest with xl := { rest.xl with nextStripe := rest.xl.nextStripe + 1 } } : State).beginCopy .stripeRetire psn dst
  | none => s

/-- R134, R221. STRIPE_RETIREMENT: a stripe whose copy has been read is offered; otherwise the next one of the queue begins. -/
def execStripeRetirement (cyc : Nat) (s0 : State) : Res :=
  let s := s0.begin.at cyc
  match s.copyRead .stripeRetire with
  | some m => .next (s.offerCopy m 6)
  | none => .next s.nextStripe

/-- R134. Start the retirement of the next berth of the queue onto the lowest free spare berth. -/
def State.startBerth (s : State) (b : Nat) : State :=
  if s.berthRoom b then
    let used := s.xl.nextBerth + 1
    let low := decide (1789056 - used < 178906) && !s.xl.sparesLow
    let s1 : State := { s with xl := { s.xl with
      berth := some (b, s.spareBerth), boundary := 0, nextBerth := used, retireQ := s.xl.retireQ.erase (true, b)
      sparesLow := s.xl.sparesLow || low } }
    s1.gate low fun s => s.record bXl 372 0x0423 .warning [(4, 1789056 - used)]
  else s.remapFull 0

/-- R134. The next berth begins, or the copy of the stripe at the boundary of the running one, from the place a stripe entry gives it. -/
def State.nextOfBerth (s : State) : State :=
  match s.xl.berth with
  | none =>
    match s.xl.retireQ.find? fun e => e.1 with
    | some e => s.gate (!s.xl.full && s.enginesRun) fun s => s.startBerth e.2
    | none => s
  | some (b, t) =>
    let old := b * 512 + s.xl.boundary
    let src := (s.stripeMap old).getD old
    let dst := t * 512 + s.xl.boundary
    let ok := s.enginesRun && decide (s.xl.boundary < 512) && !(s.xl.moves.any fun m => m.kind == .berthRetire) && !s.crossingOn src
      && s.copyFree src dst
    s.gate ok fun s => s.beginCopy .berthRetire src dst

/-- R134. BERTH_RETIREMENT: a stripe of the berth whose copy has been read is offered; otherwise the berth's next step begins. -/
def execBerthRetirement (cyc : Nat) (s0 : State) : Res :=
  let s := s0.begin.at cyc
  match s.copyRead .berthRetire with
  | some m => .next (s.offerCopy m 6)
  | none => .next s.nextOfBerth

/-! ### What the tick does with copies (R124, R134, R138) -/

/-- R138. Where a remap journal begins in the store. -/
def journalBase (b : Bool) : Nat := if b then 0xa000 else 0x2000

/-- R138. A journal holds 2,048 records. -/
def State.journalFull (s : State) : Bool := decide (2048 ≤ s.xl.journalLen)

/-- R138, R141. The store address the next journal write goes to: a full journal opens the other one. -/
def State.journalAddr (s : State) : Nat :=
  if s.journalFull then journalBase (!s.xl.journalB) else journalBase s.xl.journalB + 16 * s.xl.journalLen

/-- R138. A journal record of 16 B. -/
def journalRec (kind run src dst : Nat) : List (BitVec 8) :=
  let h := leBytes 1 kind ++ leBytes 1 run ++ leBytes 2 0 ++ leBytes 5 src ++ leBytes 5 dst
  h ++ leBytes 2 ((crc32c h).toNat % 65536)

/-- R138. Append a record to the current remap journal. When it is full, both tables are saved to the internal area, and the other journal
is opened with a table save record that names stripe 6,442,451,712 by its PSN (log entry 125); what it held before is cleared (log
entry 126). -/
def State.journal (s : State) (kind run src dst : Nat) (ok : Bool) : State :=
  let a := s.journalAddr
  if s.journalFull = false then
    let s1 := s.storePut 3 a (journalRec kind run src dst) ok
    { s1 with xl := { s1.xl with journalLen := s1.xl.journalLen + b2n ok } }
  else
    let save := journalRec 3 0 6442451712 (s.tt.fn % 2 ^ 40)
    let s1 := s.storePut 3 a (padTo 32768 save) ok
    let s2 := s1.storePut 3 (a + 16) (journalRec kind run src dst) ok
    if ok then
      let s3 := s2.internalWear
      { s3 with
        xl := { s3.xl with journalB := !s3.xl.journalB, journalLen := 2 }
        media := { s3.media with remapSave := some (s.xl.berths, s.xl.stripes) } }
    else s2

/-- R138, R141. A journal write that fails. -/
def State.journalFail (s : State) (kind src dst : Nat) : State :=
  (s.journal kind 0 src dst false).record bXl 372 0x0431 .error [(1, 1), (4, s.journalAddr), (1, 0)]

/-- R128, R221. The plane and tile of a stripe. -/
def tileOf (psn : Nat) : Nat × Nat × Nat := (dieOf psn, planeOf psn, rowOf psn / 65536)

/-- R221. A stripe has been retired from its place: the fourth of a berth retires the berth, and the 32nd of a tile of a plane every berth
that spans the tile's rows. -/
def State.stripeGone (s : State) (psn : Nat) : State :=
  let s1 : State := { s with
    xl := { s.xl with stripesRetired := s.xl.stripesRetired ++ [psn], dueStripes := s.xl.dueStripes.filter fun p => p.1 != psn }
    media := { s.media with mchs := s.media.mchs.map fun p =>
      (p.1, { p.2 with watch := p.2.watch.filter fun w => w.psn != psn }) } }
  let inBerth := s1.xl.stripesRetired.countP fun p => p / 512 == psn / 512
  let inTile := s1.xl.stripesRetired.countP fun p => tileOf p == tileOf psn
  let add := (if inBerth = 4 then [psn / 512] else [])
    ++ (if inTile = 32 then (List.range 4096).map fun i => rowOf psn / 65536 * 4096 + i else [])
  add.foldl State.queueBerth s1

/-- R132, R134. Put an entry into the stripe table; an entry of the source points at the new spare. -/
def stripePut (m : Kv (Nat × Nat)) (src dst : Nat) : Kv (Nat × Nat) :=
  match m.find? fun e => e.2.1 == src with
  | some e => m.set e.1 (src, dst)
  | none => m.set m.length (src, dst)

/-- R132, R134. Put a stripe entry in force. -/
def State.stripeEntry (s : State) (src dst : Nat) (ok : Bool) : State :=
  if ok = false then s.journalFail 2 src dst
  else
    let org := stripeOrigin s.xl.stripes src
    let s1 := s.journal 2 0 org dst true
    let s2 : State := { s1 with xl := { s1.xl with stripes := stripePut s1.xl.stripes org dst } }
    (s2.record bXl 372 0x0421 .info [(1, 1), (5, org), (5, dst), (4, 1)]).stripeGone src

/-- R132–R134. Put a berth entry in force. The journal and the record hold the entry as it is from then on (log entry 127). -/
def State.berthEntry (s : State) (b t : Nat) (ok : Bool) : State :=
  if ok = false then s.journalFail 1 b t
  else
    let x := berthOne s.xl.berths b t
    let s1 := s.journal 1 (x.len - 1) x.src x.target true
    ({ s1 with xl := { s1.xl with
      berths := berthTable s1.xl.berths b t, dueBerth := none, berth := none, boundary := 0 } } : State).record bXl 372
      0x0421 .info [(1, 0), (5, x.src), (5, x.target), (4, x.len)]

/-- R124. GAP and START take their new values, and PENDING falls by one. -/
def State.gapCommit (s : State) (d : Nat) : State :=
  let s1 := s.modDistrict d fun x =>
    let p := x.pending - 1
    { x with gap := if x.gap = 0 then distN else x.gap - 1
             start := if x.gap = 0 then (x.start + 1) % distN else x.start
             pending := p, backlogged := x.backlogged && decide (15 ≤ p) }
  s1.count bXl 0x41 1

/-- R124, R129, R134. One copy is committed. -/
def State.commitMove (s : State) (m : Move) (ok : Bool) : State :=
  match m.kind with
  | .gapMove d => s.gapCommit d
  | .stripeRetire => s.stripeEntry m.src m.dst ok
  | .berthRetire =>
    let n := s.xl.boundary + 1
    { s with xl := { s.xl with boundary := n, dueBerth := if n = 512 then s.xl.berth else none } }

/-- R134. The entry of a berth whose last stripe has been copied goes into force. -/
def State.dueBerthEntry (s : State) (ok : Bool) : State :=
  match s.xl.dueBerth with
  | some (b, t) => s.berthEntry b t ok
  | none => s

/-- R124, R134. The tick commits the copies whose crossings have committed and puts due entries in force. -/
def State.commitMoves (s : State) (ok : Bool) : State :=
  let done := s.xl.moves.filter fun m => m.committed
  let due := s.xl.dueStripes
  let s1 := done.foldl (fun s m => s.commitMove m ok) s
  let keep (m : Move) : Bool := !m.committed || (m.kind == .stripeRetire && !ok)
  let s2 : State := { s1 with xl := { s1.xl with moves := s1.xl.moves.filter keep } }
  let s3 := due.foldl (fun s p => s.stripeEntry p.1 p.2 ok) s2
  s3.dueBerthEntry ok

end Sys2Proof.Machine
end

