-- ==== Sys2Proof/Machine/CacheCmd.lean ====
section
/-!
DEFINITION. The background destage (R164, R165, R237), the range operations of CS0 (R179–R185), and running with a part
removed (R186–R191).
-/
namespace Sys2Proof.Machine

/-! ### Walks -/

/-- The ways a slice's sets hold, by key. -/
def State.waysOf (s : State) (n : Nat) : List (Nat × Way) := s.cache.ways.filter fun p => setSlice (p.1 / 8) == n && p.2.used

/-- R164, R188, R190, R237, R477. The background destage of slice `n` acts on this set. -/
def State.destages (s : State) (n set : Nat) : Bool :=
  let c := s.cs n
  let d := s.setDram set
  c.destaging || c.draining || s.gateOwes n || s.draining || s.pwr.flush.isSome || s.cache.uncachedDrams.contains d
    || s.mnt.retrainRefused.contains d || s.cache.retrainDrams.contains d

/-- R165. The next set of the walk with a dirty page, in ascending index order from the walk's index on, wrapping. -/
def State.nextDirty (s : State) (n : Nat) : Option Nat :=
  let sets := ((s.waysOf n).filter fun p => p.2.isDirty && s.destages n (p.1 / 8)).map fun p => p.1 / 8
  let at' := sets.find? fun x => decide ((s.cs n).walk ≤ setIndex x)
  match at' with
  | some x => some x
  | none => sets.head?

/-- R165, R186, R190. Copy the dirty pages of a set out while entries of the eviction pool are free. A page of a failed channel, or of a
removed slice, leaves the cache with its copy. -/
def State.destageSet (s : State) (set : Nat) : State :=
  (List.range 8).foldl (fun s w =>
    let v := s.way set w
    s.gate (v.used && v.isDirty && s.landingRoom (s.sliceOf set) true) fun s =>
      let t := (s.copyOut set w true .host).1
      let s1 := t.gate (s.lostSet set || (s.cs (setSlice set)).removed) fun t => t.setWay set w v.dropped
      s1.modCs (setSlice set) fun c => { c with
        drained := c.drained + b2n c.draining, drainPoisoned := c.drainPoisoned + b2n (c.draining && v.poison != 0) }) s

/-- R265. The tag entry of a way is lost: with the LPN and the region of its metadata line the page leaves through a landing entry with
every sector poisoned, or is taken from the peer in a mirrored region of a joined pair; the way is free. -/
def State.loseTag (s : State) (set w : Nat) : State :=
  let v := s.way set w
  let n := s.sliceOf set
  if v.used = false then s
  else if s.joined && s.mirrored (bCs (setSlice set)) v.region then
    (s.setWay set w v.dropped).askPeer v.lpn (List.range 16)
  else
    let t := (s.setWay set w v.dropped).takeEntry n v.lpn v.region true .sweep
    let s1 := t.1.modEntry t.2 fun l => (List.range 64).foldl (fun l i => l.put i 0 true) l
    (s1.poisonPage .internal v.lpn (BitVec.allOnes 64)).noteDirty n

/-- R190, R265, R268. Tag entries that the drain of a removed slice finds uncorrectable, each with its way, its SRAM address and whether the
metadata line fails too: the page's whole contents are poisoned. -/
def State.drainTags (s : State) (set : Nat) (bad : List (Nat × Nat × Bool)) : State :=
  let n := setSlice set
  bad.foldl (fun s b => s.gate ((s.way set b.1).used && s.landingRoom (s.sliceOf set) true) fun s =>
    let x := s.metaAddr set b.1
    let d := s.setDram set
    let s1 := (s.record (bCs n) (blkSource (bCs n)) 0x0802 .error [(1, 0), (4, b.2.1), (1, 0)]).gate b.2.2 fun s =>
      s.dramUncorrectable d (subOf x) x 0 0 2
    (s1.modCs n fun c => { c with drained := c.drained + 1, drainPoisoned := c.drainPoisoned + 1 }).loseTag set b.1) s

/-- R165, R190. BACKGROUND_DESTAGE: the walk of a slice visits its next set. `bad` are the tag entries of the set that fail their decode in
the drain of a removed slice. -/
def execBackgroundDestage (cyc slice : Nat) (bad : List (Nat × Nat × Bool)) (s0 : State) : Res :=
  let s := s0.begin.at cyc
  match s.nextDirty slice with
  | some set =>
    let s1 := (s.gate ((s.cs slice).removed && (s.cs slice).draining) fun s => s.drainTags set bad).destageSet set
    let left := (List.range 8).any fun w => (s1.way set w).isDirty
    .next ((s1.modCs slice fun c => { c with walk := if left then setIndex set else setIndex set + 1 }).noteDirty slice)
  | none => .next s

/-! ### Range operations -/

/-- R180. The port's operation code. -/
def opVal : RangeOp → Nat
  | .lock => 1
  | .unlock => 2
  | .clean => 3
  | .invalidate => 4

/-- R180. Every page of a range lies in a valid region with LOCK_OK, in CS0's copy. -/
def State.lockOk (s : State) (start count : Nat) : Bool :=
  (List.range ((start + count - 1) / 2 ^ 18 - start / 2 ^ 18 + 1)).all fun i =>
    match s.regionAt (bCs 0) ((start / 2 ^ 18 + i) * 2 ^ 30) with
    | some n => (s.region (bCs 0) n).lockOk
    | none => false

/-- R180. The result a GO is refused with; 0 when the operation starts. -/
def State.rangeCheck (s : State) (op : RangeOp) (start count : Nat) : Nat :=
  if count = 0 ∨ userPages < start + count then 3
  else if op = .lock ∧ s.lockOk start count = false then 2
  else 0

/-- Ways of a set that are locked. -/
def State.lockedIn (s : State) (set : Nat) : Nat := (List.range 8).countP fun w => (s.way set w).lock

/-- R181. Ask media for every block of a locked page that is not wholly valid; blocks being read already fill its way too. -/
def State.lockFills (s : State) (set w : Nat) (after : Option Nat) : State :=
  let v := s.way set w
  let psn := s.readPsn v.lpn
  let mine (m : MediaRead) : Bool := m.lpn == v.lpn && m.use == .fill
  let need := (List.range 16).filter fun j => blockBits v.valid j != 15 && !(s.media.reads.any fun m => mine m && m.block == j)
  let s1 : State := { s with media := { s.media with
    reads := s.media.reads.map fun m => if mine m then { m with way := m.way.or (some w) } else m } }
  need.foldl (fun s j => s.queueRead { id := 0, kind := .lockFill, lpn := v.lpn, block := j, psn := psn, pos := blockPos psn j
                                       chans := [], slot := 0, way := some w, after := after }) (s1.translates v.lpn need.length)

/-- R181. Note the refusal of a page. -/
def State.lockRefuse (s : State) (lpn n : Nat) : State :=
  let p := s.cache.port
  let old := p.refusedBy.getD n (lpn, 0)
  { s with cache := { s.cache with port := { p with
      refused := p.refused + 1, first := if p.refused = 0 then lpn else p.first
      refusedBy := p.refusedBy.set n (old.1, old.2 + 1) } } }

/-- R160, R181. LOCK one page; none while no way, landing entry or read place is free for it. The LOCK of a resident page is a use of its
way (log entry 137). -/
def State.lockPage (s : State) (lpn : Nat) : Option State :=
  let set := s.setOf lpn
  let n := s.sliceOf set
  let cap := s.regF (bCs n) 0x014 0 3
  match s.findWay lpn with
  | some w =>
    let v := s.way set w
    if v.lock = false ∧ cap ≤ s.lockedIn set then some (s.lockRefuse lpn n)
    else if 240 < s.tracked n then none
    else some (((s.setWay set w { v with lock := true }).touch set w).lockFills set w none)
  | none =>
    if cap ≤ s.lockedIn set ∨ s.uncached set = true then some (s.lockRefuse lpn n)
    else if 240 < s.tracked n then none
    else (s.chooseWay set).map fun c =>
      let t := s.allocWay set c.1 lpn ((s.regionAt (bCs n) (lpn * 4096)).getD 0)
      (t.1.setWay set c.1 { t.1.way set c.1 with lock := true }).lockFills set c.1 t.2

/-- The page lies in the port's range. -/
def RangePort.has (p : RangePort) (lpn : Nat) : Bool := decide (p.start ≤ lpn) && decide (lpn < p.start + p.count)

/-- Change the port. -/
def State.modPort (s : State) (f : RangePort → RangePort) : State := { s with cache := { s.cache with port := f s.cache.port } }

/-- R185. Landing entries of the range's pages that `sel` selects and that are short of Released when the operation reaches them. -/
def State.portWaits (s : State) (sel : Nat → Bool) : State :=
  let es := s.cache.landing.filter fun e => e.2.busy && e.2.st != .released && s.cache.port.has e.2.lpn && sel e.2.lpn
  s.modPort fun p => { p with waits := (p.waits ++ es.map fun e => e.2.ord).eraseDups }

/-- R183, R185. The operation has reached the pages below the range's page `k`. -/
def State.portReach (s : State) (k : Nat) : State :=
  let p := s.cache.port
  (s.portWaits fun l => decide (p.start + p.next ≤ l) && decide (l < p.start + k)).modPort fun p => { p with next := k, done := k }

/-- R183. LOCK pages from the port's next one on, while they find room. -/
def State.lockPages : Nat → State → State
  | 0, s => s
  | fuel + 1, s =>
    let p := s.cache.port
    if p.count ≤ p.next then s
    else match s.lockPage (p.start + p.next) with
      | none => s
      | some s1 => State.lockPages fuel (s1.portReach (p.next + 1))

/-- R182. Record LOCK_LOST once for each set of some locked pages, by set and LPN, that lost their lock: by the set's slice or `by'`, with
the number of pages and the lowest LPN. -/
def State.lockRecords (s : State) (pages : List (Nat × Nat)) (cause : Nat) (by' : Option Nat) : State :=
  ((pages.map fun p => p.1).eraseDups).foldl (fun s set =>
    let ls := (pages.filter fun p => p.1 == set).map fun p => p.2
    let n := by'.getD (setSlice set)
    s.record (bCs n) (184 + 4 * n + 2) 0x0501 .warning
      [(3, setIndex set), (4, ls.length), (5, (ls.min?).getD 0), (1, cause)]) s

/-- R181, R182. Act on way `w` of a set, which holds a page of the range: UNLOCK, CLEAN or INVALIDATE. -/
def State.rangeWay (s : State) (set w : Nat) : State :=
  let v := s.way set w
  let out (s : State) : State := if v.isDirty then (s.copyOut set w true .host).1 else s
  match s.cache.port.op with
  | .lock => s
  | .unlock => s.setWay set w { v with lock := false }
  | .clean => out s
  | .invalidate =>
    let s1 := (out s).setWay set w v.dropped
    s1.gate v.lock fun s => s.modPort fun p => { p with unlocked := p.unlocked ++ [(set, v.lpn)] }

/-- R167, R181. The landing buffer of the set's slice has room for what the operation copies out of these ways. -/
def State.rangeRoom (s : State) (set : Nat) (ws : List Nat) : Bool :=
  let n := s.sliceOf set
  let dirty := ws.countP fun w => (s.way set w).isDirty
  s.cache.port.op == .unlock || (decide (s.evictUsed n + dirty ≤ 448) && decide (s.landingUsed n + dirty ≤ 512))

/-- The ways that hold pages of the range from the port's next one on. -/
def State.rangeWays (s : State) : List (Nat × Way) :=
  let p := s.cache.port
  s.cache.ways.filter fun x => x.2.used && p.has x.2.lpn && decide (p.start + p.next ≤ x.2.lpn)

/-- R183, R184. Reach the pages of the range one after another; the operation waits at a page whose copy finds no room (log entry 138). -/
def State.rangePages : Nat → State → State
  | 0, s => s
  | fuel + 1, s =>
    let p := s.cache.port
    let low (a : Option (Nat × Way)) (x : Nat × Way) : Option (Nat × Way) := match a with
      | some y => if x.2.lpn < y.2.lpn then some x else some y
      | none => some x
    match s.rangeWays.foldl low none with
    | none => s.portReach p.count
    | some x =>
      let k := x.2.lpn - p.start
      let s1 := s.portReach k
      if s1.rangeRoom (x.1 / 8) [x.1 % 8] then
        State.rangePages fuel ((s1.rangeWay (x.1 / 8) (x.1 % 8)).portReach (k + 1))
      else s1

/-- R183. The walk of slice `n` reaches its sets in order; it waits at a set whose copies find no room (log entry 138). -/
def State.rangeWalk (n : Nat) : Nat → State → State
  | 0, s => s
  | fuel + 1, s =>
    match s.cache.port.walks.get? n with
    | none => s
    | some i =>
      let mine := s.rangeWays.filter fun x => setSlice (x.1 / 8) == n && decide (i ≤ setIndex (x.1 / 8))
      let from' (l : Nat) : Bool := setSlice (s.setOf l) == n && decide (i ≤ setIndex (s.setOf l))
      match (mine.map fun x => setIndex (x.1 / 8)).min? with
      | none => (s.portWaits from').modPort fun p => { p with walks := p.walks.erase n }
      | some k =>
        let set := k * 16 + n
        let ws := (mine.filter fun x => x.1 / 8 == set).map fun x => x.1 % 8
        if s.rangeRoom set ws then
          let s1 := ws.foldl (fun s w => s.rangeWay set w) s
          let s2 := s1.portWaits fun l => from' l && decide (setIndex (s.setOf l) ≤ k)
          State.rangeWalk n fuel (s2.modPort fun p => { p with
            walks := p.walks.set n (k + 1), done := p.done + ws.length })
        else s

/-- R183. The operation has reached every page of its range. -/
def RangePort.reached (p : RangePort) : Bool := if p.walk then p.walks.isEmpty else decide (p.count ≤ p.next)

/-- R182, R183, R192. The operation goes on until it has reached every page of its range; then the locks it took are recorded. -/
def State.rangeGoOn (s : State) : State :=
  let p := s.cache.port
  if p.busy = false ∨ p.reached = true then s
  else
    let fuel := s.cache.ways.length + 1
    let s1 := if p.op = .lock then State.lockPages (p.count - p.next) s
      else if p.walk then (p.walks.map fun x => x.1).foldl (fun s n => State.rangeWalk n fuel s) s
      else State.rangePages fuel s
    s1.gate s1.cache.port.reached fun s =>
      (s.lockRecords s.cache.port.unlocked 0 none).modPort fun p => { p with done := p.count, unlocked := [] }

/-- R180, R181. GO of an operation over a range of LPNs. A GO whose check fails leaves CS_CMD_DONE, CS_CMD_REFUSED and CS_CMD_FIRST at 0
(log entry 139). -/
def State.rangeGo (s : State) (op : RangeOp) (start count : Nat) : State :=
  if s.cache.port.busy then s.record (bCs 0) 186 0x0504 .warning [(1, opVal op)]
  else
    let r := s.rangeCheck op start count
    let walk := decide (1048576 < count) && op != .lock
    let p : RangePort := { op := op, busy := decide (r = 0), result := r, walk := walk, start := start, count := count
                           walks := if walk ∧ r = 0 then (List.range 16).map fun n => (n, 0) else [] }
    (s.modPort fun _ => p).gate (r == 0) State.rangeGoOn

/-- The port's registers as software wrote them (CS_CMD_LPN, CS_CMD_COUNT, CS_CMD_CTRL.OP). -/
def State.portWrite (s : State) (op start count : Nat) : State :=
  let s1 := (s.setW (bCs 0) 0x100 (BitVec.ofNat 32 start)).setW (bCs 0) 0x104 (BitVec.ofNat 32 (start / 2 ^ 32 % 2))
  let s2 := (s1.setW (bCs 0) 0x108 (BitVec.ofNat 32 count)).setW (bCs 0) 0x10c (BitVec.ofNat 32 (count / 2 ^ 32 % 2))
  s2.setW (bCs 0) 0x110 (BitVec.ofNat 32 op)

/-- R181. LOCK. -/
def execLockRange (start count : Nat) (s : State) : Res := .next ((s.begin.portWrite 1 start count).rangeGo .lock start count)

/-- R181. UNLOCK. -/
def execUnlockRange (start count : Nat) (s : State) : Res :=
  .next ((s.begin.portWrite 2 start count).rangeGo .unlock start count)

/-- R181. CLEAN. -/
def execCleanRange (start count : Nat) (s : State) : Res :=
  .next ((s.begin.portWrite 3 start count).rangeGo .clean start count)

/-- R181. INVALIDATE. -/
def execInvalidateRange (start count : Nat) (s : State) : Res :=
  .next ((s.begin.portWrite 4 start count).rangeGo .invalidate start count)

/-- R185. Every page of the range was reached, and no landing entry that the operation waits for is short of Released. -/
def State.rangeOver (s : State) : Bool :=
  let p := s.cache.port
  p.busy && p.reached && s.cache.landing.all fun e => !(e.2.busy && p.waits.contains e.2.ord) || e.2.st == .released

/-- R181, R185. RANGE_DONE: BUSY falls, with the refusals each slice owes a record of. -/
def execRangeDone (s0 : State) : Res :=
  let s := s0.begin
  .next (s.gate s.rangeOver fun s =>
    let p := s.cache.port
    let s1 := s.modPort fun p => { p with busy := false, waits := [], result := if 0 < p.refused then 1 else 0 }
    let s2 := p.refusedBy.foldl (fun s e => s.record (bCs e.1) (184 + 4 * e.1 + 2) 0x0502 .info
      [(5, e.2.1), (4, e.2.2)]) s1
    s2.record (bCs 0) 186 0x0503 .info [(1, opVal p.op), (4, p.count), (4, p.refused), (4, p.crossings)])

/-! ### Parts removed -/

/-- Every BDIRTY block of a way, as a sector mask. -/
def Way.dirtyBlocks (v : Way) : BitVec 64 :=
  (List.range 16).foldl (fun m j => if v.bdirty j then m ||| blockMask j 15 else m) 0

/-- R186, R187. One page of a lost channel: clean it is dropped; dirty its dirty blocks are poisoned, or are asked of the peer in a
mirrored region of a joined pair. A lock that goes with its page is recorded when the geometry changes (R189). -/
def State.losePage (s : State) (set w : Nat) : State :=
  let v := s.way set w
  let drop (s : State) : State := (s.setWay set w v.dropped).gate v.lock fun s =>
    { s with cache := { s.cache with lostLocks := s.cache.lostLocks ++ [(set, v.lpn)] } }
  let m := v.dirtyBlocks
  if v.used = false then s
  else if v.isDirty = false then drop s
  else if s.joined && s.mirrored (bCs (setSlice set)) v.region then
    (drop s).askPeer v.lpn ((List.range 16).filter fun j => v.bdirty j)
  else (s.setWay set w { v with valid := m, dirty := m, poison := m }).poisonPage .internal v.lpn m

/-- R186, R187. Every page of DRAM channel `c` is lost, and CHANNEL_LOST is recorded. -/
def State.loseChannel (s : State) (c : Nat) : State :=
  let mine := (s.cache.ways.filter fun p => p.2.used && s.setDram (p.1 / 8) == c)
  let dirty := mine.filter fun p => p.2.isDirty
  let peer := dirty.countP fun p => s.joined && s.mirrored (bCs (setSlice (p.1 / 8))) p.2.region
  let s1 := mine.foldl (fun s p => s.losePage (p.1 / 8) (p.1 % 8)) s
  s1.record (bCs 0) 187 0x0521 .error [(1, c), (4, dirty.length - peer), (4, peer)]

/-- Drop every page of some ways, with a LOCK_LOST record for each set that held locked pages. -/
def State.dropWays (s : State) (keys : List Nat) (cause : Nat) (by' : Option Nat) : State :=
  let locked := keys.filter fun k => (s.way (k / 8) (k % 8)).lock
  let s1 := keys.foldl (fun s k => s.setWay (k / 8) (k % 8) (s.way (k / 8) (k % 8)).dropped) s
  s1.lockRecords (locked.map fun k => (k / 8, (s.way (k / 8) (k % 8)).lpn)) cause by'

/-- R190. The serving slice of removed slice `n`: n xor 1, 2, 3, then the others in ascending order. -/
def State.server (s : State) (n : Nat) : Option Nat :=
  ([n ^^^ 1, n ^^^ 2, n ^^^ 3] ++ List.range 16).find? fun m => m != n && decide (m < 16) && !(s.cs m).removed

/-- R190, R191, R296. SLICE_REMOVED: slice `n` is at fault level 3; its serving slice serves and drains its sets, and so for the
slices it served. Its locks are cleared, and its clean pages go at once. With no slice left CXL.mem is disabled. -/
def execSliceRemoved (slice : Nat) (s0 : State) : Res :=
  let s := s0.begin
  let ok := decide (slice < 16) && !(s.cs slice).removed && s.integ.failedBlocks.contains (bCs slice)
  .next (s.gate ok fun s =>
    let dirty := s.dirtyPages slice
    let s0 := s.blame (fun r => setSlice (s.setOf (lpnOfDpa r.dpa)) == slice) 16#8
    let s1 := s0.modCs slice fun c => { c with removed := true, draining := true, destaging := false }
    let gone := (List.range 16).filter fun n => (s1.cs n).removed
    let s2 := gone.foldl (fun s n => s.modCs n fun c => { c with servedBy := s1.server n }) s1
    match s2.server slice with
    | some m =>
      let mine := s.waysOf slice
      let s3 := s2.record (bCs m) (184 + 4 * m + 3) 0x0523 .error [(1, slice), (1, m), (4, dirty)]
      let s4 := s3.lockRecords ((mine.filter fun p => p.2.lock).map fun p => (p.1 / 8, p.2.lpn)) 4 (some m)
      mine.foldl (fun t p => t.setWay (p.1 / 8) (p.1 % 8) (if p.2.isDirty then { p.2 with lock := false } else p.2.dropped)) s4
    | none => { s2 with start := { s2.start with disabled := true, hwReplace := true } })

/-- R190. SLICE_DRAINED: nothing of the removed slice is left to destage. -/
def execSliceDrained (slice : Nat) (s0 : State) : Res :=
  let s := s0.begin
  let c := s.cs slice
  let ok := c.removed && c.draining && !((s.waysOf slice).any fun p => p.2.isDirty) && decide (s.landingUsed slice = 0)
  .next (s.gate ok fun s =>
    let m := c.servedBy.getD slice
    let s1 := s.dropWays ((s.waysOf slice).map fun p => p.1) 4 (some m)
    (s1.modCs slice fun c => { c with draining := false }).record (bCs m) (184 + 4 * m + 3) 0x0524 .info
      [(4, c.drained), (4, c.drainPoisoned)])

end Sys2Proof.Machine
end

