-- ==== Sys2Proof/Machine/Media.lean ====
section
/-!
DEFINITION. Media failures, the spare channel and rebuild (R214–R220), refresh ages, sentinels and table copies (R205,
R211, R213, R563).
-/
namespace Sys2Proof.Machine

/-! ### Failures (R214–R220) -/

/-- R130. The highest stripe of die number `d` outside the upper margin. -/
def lastPsn (d : Nat) : Nat := 7375487480 + d

/-- R220. Die number `d` begins to run degraded at position `q`. -/
def State.degrade (s : State) (c d q : Nat) : State :=
  ({ s with media := { s.media with degraded := s.media.degraded ++ [(d, q)] } } : State).record (bMch c) (dieSrc c d) 0x0625
    .error [(1, d), (1, q)]

/-- The channel whose die `d` is a free spare. -/
def State.freeSpare (s : State) (d : Nat) : Option Nat := (List.range 18).find? fun c => s.role c d == 30

/-- R215, R216. The channel whose die is a rebuild target. -/
def State.rebuildTarget (s : State) (d : Nat) : Option Nat := (List.range 18).find? fun c => (s.mch c).rebuilding.contains d

/-- R97, R215. The reads that were to come from a die that fails get nothing more from it: those of its own codeword go on to
reconstruction, and a reconstruction that needed it ends. -/
def State.cutReads (s : State) (c d : Nat) : State :=
  let hit := s.media.reads.filter fun m => m.chans.contains c && dieOf m.psn == d && !m.ended && decide (m.step ≤ 3) && !m.got.contains c
  hit.foldl (fun s m =>
    if m.step = 3 then s.ladderEnd m
    else s.modRead m.id fun x => { x with step := 2, bad := [x.pos], beat := none, got := [], missed := true }) s

/-- R219. The positions of die number `d` that no die serves. -/
def State.goneOf (s : State) (d : Nat) : List Nat := (List.range 17).filter fun q => (s.chanOf d q).isNone

/-- R214, R215. Die `d` of channel `c` leaves service: its role, its rebuild, and what was owed to it or due from it. -/
def State.dropDie (s : State) (c d : Nat) : State :=
  let q := s.role c d
  let s1 := s.modMch c fun m => { m with
    roles := m.roles.set d 31, was := if q < 17 then m.was.set d q else m.was
    rebuilding := m.rebuilding.filter fun x => x != d }
  ({ s1 with media := { s1.media with
    rewrites := s1.media.rewrites.filter fun w => !(w.mch == c && dieOf w.psn == d)
    rebuilds := s1.media.rebuilds.filter fun r => !(r.die == d && r.dstMch == c)
    reads := s1.media.reads.filter fun m => !(m.use == .rebuild d && (s.mch c).rebuilding.contains d)
    substitute := s1.media.substitute.filter fun t => !(t.1 == d && t.2.2 == c) } } : State).cutReads c d

/-- R214, R215, R218, R219. Die `d` of channel `c` fails. A rebuild counts from the substitution on, and a substitution that is due as
a rebuild that has not begun; the spare die of a substitution that is due leaves its die number without a spare. -/
def State.failDie (s : State) (c d : Nat) : State :=
  let q := s.role c d
  let target := (s.mch c).rebuilding.contains d
  let s2 := s.dropDie c d
  let due := s2.media.substitute.find? fun t => t.1 == d
  if 17 ≤ q then
    match s.media.substitute.find? fun t => t.1 == d && t.2.2 == c with
    | some t => s2.degrade (s2.assigned d t.2.1) d t.2.1
    | none => s2
  else if s2.media.degraded.any fun p => p.1 == d then s2.stripeLost c d (s2.goneOf d) d (lastPsn d)
  else if target then s2.degrade c d q
  else match s2.rebuildTarget d, due with
    | some dst, _ =>
      (s2.degrade c d q).stripeLost c d ([s2.role dst d] ++ s2.goneOf d) ((s2.mch dst).rebuild.getD d d) (lastPsn d)
    | none, some _ => (s2.degrade c d q).stripeLost c d (s2.goneOf d) d (lastPsn d)
    | none, none =>
      match s2.freeSpare d with
      | some sp => { s2 with media := { s2.media with substitute := s2.media.substitute ++ [(d, q, sp)] } }
      | none => s2.degrade c d q

/-- R214. The condition of a cause of DIE_FAILED holds: three misses within 64 frames; an internal fault the die reports;
64 failed step 2 reads within 2^20 frames that reconstruction recovered. -/
def State.dieFails (s : State) (c d cause : Nat) : Bool :=
  let m := s.mch c
  match cause with
  | 1 => decide (3 ≤ m.missFns.countP fun p => p.1 == d && decide (s.tt.fn < p.2 + 64))
  | 2 => true
  | 3 => decide (64 ≤ m.step2Fns.countP fun p => p.1 == d && decide (s.tt.fn < p.2 + 2 ^ 20))
  | _ => false

/-- R214. DIE_FAILED. -/
def execDieFailed (mch die cause : Nat) (s0 : State) : Res :=
  let s := s0.begin
  let ok := decide (mch < 18) && decide (die < 8) && s.role mch die != 31 && s.dieFails mch die cause
  .next (s.gate ok fun s =>
    (s.record (bMch mch) (dieSrc mch die) 0x0621 .error [(1, die), (1, s.role mch die), (1, cause)]).failDie mch die)

/-- R214, R224. A channel is declared failed: its eight dies fail, and the next channel takes over its guards, with empty
histories. -/
def State.channelFail (s : State) (mch cause : Nat) : State :=
  let s1 := s.record (bMch mch) (dieSrc mch 0) 0x0622 .error [(1, 0xff), (1, cause)]
  let s2 := (List.range 8).foldl (fun s d => if s.role mch d = 31 then s else s.failDie mch d) s1
  let s3 := s2.modMch mch fun m => { m with failed := true, phyUp := false }
  let next := s3.guardian mch
  let s4 := s3.gate next.isSome fun s => s.modMch (next.getD 0) fun m => { m with takeover := true }
  { s4 with media := { s4.media with guards := s4.media.guards.filter fun g => s.guardian g.1 != some mch } }

/-- R214, R224. CHANNEL_FAILED. -/
def execChannelFailed (mch cause : Nat) (s0 : State) : Res :=
  let s := s0.begin
  let m := s.mch mch
  let why := match cause with
    | 0 => (match m.phyLostAt with
        | some f => decide (f + 16 ≤ s.tt.fn)
        | none => false)
    | 1 => s.integ.failedBlocks.contains (bMch mch)
    | _ => false
  .next (s.gate (decide (mch < 18) && !m.failed && why) fun s => s.channelFail mch cause)

/-- R215. At the tick, the spare's die serves the position of a die that failed, as a rebuild target. -/
def State.substituteDies (s : State) : State :=
  let s1 := s.media.substitute.foldl (fun s t =>
    s.modMch t.2.2 fun m => { m with
      roles := m.roles.set t.1 t.2.1, rebuilding := m.rebuilding ++ [t.1], rebuild := m.rebuild.set t.1 t.1 }) s
  { s1 with media := { s1.media with substitute := [] } }

/-! ### Rebuild (R216, R217) -/

/-- R216. REBUILD_START. -/
def execRebuildStart (die : Nat) (s0 : State) : Res :=
  let s := s0.begin
  match s.rebuildTarget die with
  | some dst =>
    .next (s.gate (s.enginesRun && !(s.media.rebuilds.any fun r => r.die == die)) fun s =>
      let pos := s.role dst die
      let src := ((List.range 18).find? fun c => c != dst && (s.mch c).was.getD die 99 == pos).getD pos
      let r : Rebuild := { die := die, pos := pos, dstMch := dst, start := s.tt.fn }
      ({ s with media := { s.media with rebuilds := s.media.rebuilds ++ [r] } } : State).record (bMch dst) (dieSrc dst die) 0x0623
        .info [(1, die), (1, pos), (1, src), (1, dst)])
  | none => .next s

/-- R130, R216. The stripe a rebuild takes next: the margin is skipped. -/
def skipMargin (psn : Nat) : Nat := if isMargin psn && decide (psn < 6442451456) then psn + 128 else psn

/-- R201, R202, R216. The codeword a rebuild's read gives: the position is written poisoned, as blank, when its reconstruction failed. -/
def State.rebuildWord (s : State) (m : MediaRead) : Codeword :=
  match m.word with
  | some w => w
  | none =>
    let other := if m.pos = 0 then 1 else 0
    { home := (s.cell (s.assigned (dieOf m.psn) other) m.psn).home, poison := 15, parity := m.pos == parityPos m.psn }

/-- R216, R283. The write of a stripe whose reconstruct read has ended is owed; what it lost is recorded and listed. -/
def State.rebuildOwe (s : State) (r : Rebuild) (m : MediaRead) : State :=
  let w : CwWrite := { id := s.media.nextId, kind := .rebuild r.pos, mch := r.dstMch, psn := m.psn, cw := s.rebuildWord m }
  let s1 := (s.dropReads m.use).count bMnt 0x42 1
  let s2 : State := { s1 with media := { s1.media with rewrites := s1.media.rewrites ++ [w], nextId := s1.media.nextId + 1 } }
  s2.gate m.word.isNone fun s => match posBlock m.psn r.pos with
    | some j => s.copyLost m.psn 5 [j]
    | none => s

/-- R216, R217, R468. REBUILD_STRIPE: the reconstruct read of the stripe at the boundary begins; once it has ended the write is owed; and
that write takes a maintenance beat. -/
def execRebuildStripe (cyc die beat : Nat) (s0 : State) : Res :=
  let s := s0.begin.at cyc
  match s.media.rebuilds.find? fun r => r.die == die with
  | some r =>
    match s.media.rewrites.find? fun w => w.kind == .rebuild r.pos && dieOf w.psn == die && w.mch == r.dstMch with
    | some w => .next (s.gate (s.canRewrite w beat) fun s => s.beginRewrite w beat)
    | none =>
      match s.readsOf (.rebuild die) with
      | m :: _ => .next (s.gate m.ended fun s => s.rebuildOwe r m)
      | [] =>
        let psn := skipMargin ((s.mch r.dstMch).rebuild.getD die die)
        .next (s.gate (s.enginesRun && decide (psn ≤ lastPsn die) && !s.crossingOn psn) fun s =>
          s.maintRead (.rebuild die) psn r.pos)
  | none => .next s

/-- R216. REBUILD_DONE: the boundary has passed the last stripe. -/
def execRebuildDone (die : Nat) (s0 : State) : Res :=
  let s := s0.begin
  match s.media.rebuilds.find? fun r => r.die == die with
  | some r =>
    .next (s.gate (decide (lastPsn die < skipMargin ((s.mch r.dstMch).rebuild.getD die die))) fun s =>
      let s1 := s.modMch r.dstMch fun m => { m with
        rebuilding := m.rebuilding.filter fun x => x != die, rebuild := m.rebuild.set die 7635497415 }
      ({ s1 with media := { s1.media with rebuilds := s1.media.rebuilds.filter fun x => x.die != die } } : State).record
        (bMch r.dstMch) (dieSrc r.dstMch die) 0x0624 .info [(1, die), (1, r.pos), (4, s.tt.fn - r.start)])
  | none => .next s

/-! ### Ages and refresh (R205, R211) -/

/-- R131, R205. The rows of band `b` that are ever written: those above 7,375,487,487 are margin stripes. -/
def bandRows (b : Nat) : Nat := if b < 219 then 1048576 else if b = 219 then 845840 else 0

/-- R205. Age of the oldest row of a band. -/
def Band.age (x : Band) (fn b : Nat) : Nat := if x.pos < bandRows b then (Int.ofNat fn - x.prevFn).toNat else (Int.ofNat fn - x.newFn).toNat

/-- R205, R211. TAVG: the hottest average die temperature since PREV_FN, in °C. -/
def State.tavg (s : State) (c b : Nat) : Int :=
  let m := s.mch c
  let x := m.bands.getD b {}
  (List.range 8).foldl (fun a d =>
    max a ((m.tempSum.getD d 0 - x.prevSum.getD d 0) / max 1 (Int.ofNat s.tt.fn - x.prevFn))) 0

/-- R211. When the last rewrite of a band that reached all its rows began, with the temperature sums of that frame. -/
def Band.base (x : Band) (b : Nat) : Int × Kv Int := if x.pos < bandRows b then (x.prevFn, x.prevSum) else (x.newFn, x.newSum)

/-- R211. A die of the band has averaged more than `t` °C since the band's last rewrite began. -/
def State.hotter (s : State) (c b : Nat) (t : Int) : Bool :=
  let m := s.mch c
  let x := (m.bands.getD b {}).base b
  (List.range 8).any fun d => decide (t * max 1 (Int.ofNat s.tt.fn - x.1) < m.tempSum.getD d 0 - x.2.getD d 0)

/-- R211. The refresh interval of a band in frames. -/
def State.interval (s : State) (c b : Nat) : Nat :=
  (if s.hotter c b 78 then 7 else if s.hotter c b 70 then 15 else 30) * 21093750000

/-- R211. REFRESH_OVERDUE, once for a band while a row of it exceeds the interval. Its age and interval are counts of frames and take
the six bytes of an FN (log entry 145). -/
def execRefreshOverdue (mch band : Nat) (s0 : State) : Res :=
  let s := s0.begin
  let x := (s.mch mch).bands.getD band {}
  let age := x.age s.tt.fn band
  .next (s.gate (decide (mch < 18) && decide (band < 220) && !x.overdue && decide (s.interval mch band < age)) fun s =>
    (s.modMch mch fun m => { m with bands := m.bands.set band { x with overdue := true } }).record (bMch mch)
      (dieSrc mch 0) 0x0603 .warning [(1, 0xff), (2, band), (6, age), (6, s.interval mch band)])

/-- R205, R211. The sweeper begins to rewrite band `b` of channel `c`. A band that is overdue stays so until the pass has ended. -/
def State.bandBegin (s : State) (c b : Nat) : State :=
  s.modMch c fun m =>
    let x := m.bands.getD b {}
    let y : Band := { prevFn := x.newFn, newFn := s.tt.fn, pos := 0, prevSum := x.newSum, newSum := m.tempSum
                      overdue := x.overdue }
    { m with bands := m.bands.set b y }

/-! ### Sentinels and table copies -/

/-- R136, R198, R302. Line `j` of a stripe of the internal area, under the internal key set; its data is free (log entry 2). -/
def State.internalLine (s : State) (psn j n : Nat) : Codeword :=
  let k := s.keySlot 64
  let addr := (psn - 6442451456) * 16 + j
  let c := sealLine k.curKey addr k.cur 64 ((Config.draw n).setWidth 2048)
  { data := c, home := factoryHome psn, gen := k.cur, internal := true, mac := lineMac k.curKey addr k.cur 64 0 c }

/-- R213. The 256 sentinel stripes wait to be written, each with 16 lines of free data. -/
def State.sentinelsDue (s : State) : State :=
  let one (m : Kv (List Codeword)) (i : Nat) : Kv (List Codeword) :=
    let psn := 6442451456 + i
    m.set psn ((List.range 16).map fun j => s.internalLine psn j (s.draws + 16 * i + j))
  { s with draws := s.draws + 4096, media := { s.media with internal := (List.range 256).foldl one s.media.internal } }

/-- R213, R548. SENTINEL_REWRITE: stripes 0 to 255 of the internal area are offered as maintenance crossings, at a tick whose FN is a
multiple of 2^24 or during a flush, where the step ends once they have crossed. -/
def execSentinelRewrite (s0 : State) : Res :=
  let s := s0.begin
  match s.pwr.flush with
  | some f =>
    if f.step ≠ 5 then .next s
    else if f.sentinels = false then
      .next ({ s with pwr := { s.pwr with flush := some { f with sentinels := true } } } : State).sentinelsDue
    else .next (s.gate s.media.internal.isEmpty fun s => { s with pwr := { s.pwr with flush := some { f with step := 6 } } })
  | none => .next (s.gate (s.tt.fn % 2 ^ 24 == 0) State.sentinelsDue)

/-- R227, R563. MCH_TABLE_COPY, every 2^24 frames. -/
def execMchTableCopy (s0 : State) : Res :=
  let s := s0.begin
  .next (s.gate (s.tt.fn % 2 ^ 24 == 0) fun s0 =>
    let s := s0.internalWear
    { s with media := { s.media with tables := s.media.mchs, tableFn := s.tt.fn } })

end Sys2Proof.Machine
end

