-- ==== Sys2Proof/Machine/MntOps.lean ====
section
/-!
DEFINITION. What the maintenance activities and the barge share with every engine: activity numbers and sources (R488,
R490), which activity runs (R479), who blocks whom (R480), deferring and resuming, sources of blocks (R575), MSI-X
(R460), and halting a barge channel (R486).
-/
namespace Sys2Proof.Machine

/-- R460. Raise an MSI-X vector on every head of the configuration. -/
def State.msixAll (s : State) (v : Nat) : State :=
  let s1 := s.emit (.msix 0 v)
  if s.dual then s1.emit (.msix 1 v) else s1

/-- R490. The source of activity `a`. -/
def actSource (a : Nat) : Nat :=
  match a with
  | 1 => 336
  | 4 => 338
  | 5 => 339
  | 6 => 339
  | 7 => 340
  | 8 => 341
  | 9 => 341
  | 10 => 342
  | _ => 337

/-- R479, R488. Activity `a` (1 SW to 12 ER) runs. -/
def State.runs (s : State) (a : Nat) : Bool :=
  match a with
  | 1 => s.start.memActive && s.pwr.flush.isNone
  | 2 => s.xl.moves.any fun m => match m.kind with
      | .gapMove _ => true
      | _ => false
  | 3 => s.xl.berth.isSome || s.xl.moves.any fun m => m.kind == .stripeRetire || m.kind == .berthRetire
  | 4 => !s.media.rebuilds.isEmpty
  | 5 => s.sec.slots.any fun k => k.2.op == 1
  | 6 => s.sec.slots.any fun k => k.2.op == 2
  | 7 => s.mnt.recalBusy
  | 8 => !s.cache.retrainDrams.isEmpty
  | 9 => s.mnt.freqTarget.isSome && !s.mnt.waiting.has 9
  | 10 => s.pwr.testRunning
  | 11 => s.barge.any fun c => c.2.state == 1
  | 12 => s.sec.erase.isSome
  | _ => false

/-- R480. The running activity that makes activity `a` wait, where a note says that it is deferred. -/
def State.blocker (s : State) (a : Nat) : Option Nat :=
  (match a with
    | 5 => [4]
    | 6 => [4]
    | 8 => [8, 9, 12]
    | 9 => [8, 10, 12]
    | 10 => [9]
    | 12 => [8, 9]
    | _ => []).find? fun b => s.runs b

/-- R480. Activity `a` begins to wait for `b`. -/
def State.defer (s : State) (a b : Nat) : State :=
  if s.mnt.waiting.has a then s
  else
    ({ s with mnt := { s.mnt with waiting := s.mnt.waiting.set a s.tt.fn } } : State).record bMnt (actSource a) 0x0D02 .info
      [(1, a), (1, b)]

/-- R477, R488. Count and record a refusal of activity `a`. -/
def State.actRefused (s : State) (a cause target : Nat) (rec1 : Bool) : State :=
  let s1 : State := { s with mnt := { s.mnt with refused := sat32 s.mnt.refused 1 } }
  s1.gate rec1 fun s => s.record bMnt (actSource a) 0x0D01 .warning [(1, a), (1, cause), (1, target)]

/-! ### The barge -/

/-- R481. The TAG of a descriptor. -/
def Descriptor.tag (d : Descriptor) : Nat := bits d.word 32 32
/-- R481. The OP of a descriptor. -/
def Descriptor.op (d : Descriptor) : Nat := bits d.word 0 8

/-- R486. Push a completion record. -/
def State.bargeRecord (s : State) (n : Nat) (d : Descriptor) (status result : Nat) : State :=
  let w := d.index % 65536 + status * 2 ^ 16 + (d.op % 128 + 128 * b2n (s.brg n).flag1) * 2 ^ 24 + d.tag * 2 ^ 32
    + (result % 2 ^ 64) * 2 ^ 64
  s.pushQ (.completions ⟨n % 4, Nat.mod_lt _ (by decide)⟩) (BitVec.ofNat 512 w) true

/-- R398. What FRY_AT_FN shows: target FN, change ID, stage, and whether it is a barge launch. -/
def State.atFnNote (s : State) (target id stage : Nat) (barge : Bool) : State :=
  { s with fry := { s.fry with atFnShow := (target, id, stage, barge) } }

/-- The pages of a DPA range. -/
def pagesOf (dpa sectors : Nat) : List Nat :=
  (List.range ((dpa % 4096 + 64 * sectors + 4095) / 4096)).map fun i => dpa / 4096 + i

/-- R396. A mirrored descriptor halted on either module: the lead marks its destination pages for resync, and the follower
waits for them. -/
def State.bargeSuspect (s : State) (ps : List Nat) : State :=
  if s.isLead then
    { s with fry := { s.fry with
      bitmap := s.fry.bitmap ++ ps.filter fun p => !s.fry.marked p
      pstate := if s.fry.pstate = .joined then .resyncing else s.fry.pstate
      resyncSent := if s.fry.pstate = .joined then 0 else s.fry.resyncSent
      resyncStart := if s.fry.pstate = .joined then s.tt.fn else s.fry.resyncStart, doneSent := false } }
  else if s.joined then
    { s with fry := { s.fry with
      merged := s.fry.merged ++ ps.filter fun p => !s.fry.merged.contains p
      mergedHere := true, mergedAll := s.fry.mergedAll && s.fry.pstate == .resyncing, pstate := .resyncing
      fetched := s.fry.fetched.filter fun p => !ps.contains p } }
  else s

/-- A barge channel with no descriptor, in a state. -/
def BargeCh.clear (c : BargeCh) (state : Nat) : BargeCh :=
  { c with state := state, cur := none, sectors := 0, phase := false, flag1 := false, outstanding := 0, moved := false
           peer := false }

/-- R484, R486, R588. Channel `n` halts its own descriptor with a status; the DPA is that of the first failing sector. -/
def State.bargeStop (s : State) (n : Nat) (d : Descriptor) (status dpa : Nat) : State :=
  let s1 := ((s.dropReads (.barge n)).bargeRecord n d status 0).modBrg n fun c =>
    ({ c with haltStatus := status, haltIndex := d.index % 65536 } : BargeCh).clear 2
  ((s1.count bBrg 0x43 1).record bBrg (344 + n) 0x0D41 .error [(2, d.index % 65536), (1, status), (4, d.tag), (6, dpa)]).msixAll 8

/-- R396, R484, R486. Channel `n` halts its descriptor. One that launched on both modules tells the peer and leaves its
destination to the resync; one that runs for the peer leaves the channel idle. -/
def State.bargeHalt (s : State) (n : Nat) (d : Descriptor) (status dpa : Nat) : State :=
  match s.fry.bargeAt.get? n with
  | none => s.bargeStop n d status dpa
  | some b =>
    let s1 : State := { s with fry := { s.fry with bargeAt := s.fry.bargeAt.erase n } }
    let s2 := if b.stage = 3 then (s1.ferry 9 [6, n, b.id, b.launch, b.widx] []).bargeSuspect (pagesOf b.dst b.len) else s1
    if b.mine then s2.bargeStop n d status dpa
    else ((s2.dropReads (.barge n)).modBrg n fun c => c.clear 0).count bBrg 0x43 1

/-- R430, R489. The staging DRAM channel of barge channel `n` is removed: it halts with status 5 and goes out of service. -/
def State.bargeOut (s : State) (n : Nat) : State :=
  let c := s.brg n
  if c.out then s
  else
    let s1 := match c.cur with
      | some d => s.bargeHalt n d 5 0
      | none => s
    (s1.modBrg n fun c => { c with out := true }).record bBrg (344 + n) 0x0D42 .error [(1, n)]

end Sys2Proof.Machine
end

