-- ==== Sys2Proof/Machine/Dram.lean ====
section
/-!
DEFINITION. DRAM (R263–R269, R400–R434): placement back to pages, activates and the activation guard, the decode of a
burst, reads and writes of the queues, refresh, self-refresh, drift, training, retraining, frequency change, erased
devices and failed channels.
-/
namespace Sys2Proof.Machine

/-- Channel and subchannel exist. -/
def drcOk (c u : Nat) : Bool := decide (c < 4) && decide (u < 2)

/-- R402. The set, way and sector of channel-local cache address `x` of channel `c`; none outside the cache data. -/
def State.placeOf (s : State) (c x : Nat) : Option (Nat × Nat × Nat) :=
  if x < 0x780000000 then
    match s.cache.drams.findIdx? fun d => d == c with
    | some i =>
      let k := x / 32768
      some (((k / 16) * s.cache.drams.length + i) * 16 + k % 16, x / 4096 % 8, x / 64 % 64)
    | none => none
  else none

/-! ### Activates (R411, R417–R419) -/

/-- R417. Space-saving: count an activate of a row in a bank's table. -/
def actCount (t : Kv ActEntry) (row : Nat) : Kv ActEntry :=
  match t.find? fun e => e.2.row == row with
  | some e => t.set e.1 { e.2 with count := e.2.count + 1 }
  | none =>
    match (List.range 64).find? fun i => !t.has i with
    | some i => t.set i { row := row, count := 1 }
    | none =>
      let low := t.foldl (fun m e => min m e.2.count) (2 ^ 20)
      match t.find? fun e => e.2.count == low with
      | some e => t.set e.1 { row := row, count := low + 1 }
      | none => t

/-- A column command to a channel-local address: the row is open, or it is activated; the burst is counted in event `ev`
(R587) and the idle timer of R411 restarts. -/
def State.column (s : State) (c x ev : Nat) : State :=
  let u := subOf x
  let b := bankOf x
  let r := dramRow x
  let hit := match (s.sub c u).openRows.get? b with
    | some p => p.1 == r
    | none => false
  let s1 := s.modSub c u fun v => { v with
    openRows := v.openRows.set b (r, s.ns), idleSince := s.ns
    acts := if hit then v.acts else v.acts.set b (actCount (v.acts.getD b []) r)
    rfm := if hit then v.rfm else Kv.mod v.rfm b 0 (· + 1) }
  (s1.count (bDrc c) (if hit then 0x43 else 0x42) 1).count (bDrc c) ev 1

/-! ### Decode (R264–R269) -/

/-- R266, R267. A burst with `errs` bad symbols outside an erased device: how many of them it corrects. -/
def State.corrects (s : State) (c u errs : Nat) : Bool :=
  match (s.sub c u).erased with
  | some _ => errs == 0
  | none => decide (errs ≤ 1)

/-- R267, R269, R622. A burst was corrected: counted for its device and the frame. -/
def State.dramCorrected (s : State) (c u dev x : Nat) : State :=
  let s1 := (s.modDrc c fun d => { d with corr := sat32 d.corr 1 }).count (bDrc c) 0x47 1
  let s2 := s1.modSub c u fun v => { v with corrFns := v.corrFns ++ [(dev, s.tt.fn)] }
  (s2.tally 0x0811 (dramSrc c u dev) 0 1).noteLast 0x0811 (dramSrc c u dev) x

/-- R269, R281, R283. The sector of a way whose burst is uncorrectable: a clean one is dropped; a dirty one is poisoned and
listed, or its block is asked of the peer in a mirrored region of a joined pair. -/
def State.loseSector (s : State) (set w i : Nat) : State :=
  let v := s.way set w
  if v.dirty.getLsbD i = false then s.setWay set w (v.without i)
  else if s.joined && s.mirrored (bCs (setSlice set)) v.region then
    (s.setWay set w (v.without i)).askPeer v.lpn [i / 4]
  else (s.setWay set w { v with poison := v.poison ||| bit64 i }).poisonOne .internal (v.lpn * 4096 + 64 * i)

/-! ### Reads and writes of the queues -/

/-- A held read leaves its queue. -/
def State.dropRead (s : State) (c u id : Nat) : State :=
  s.modSub c u fun v => { v with readQ := v.readQ.filter fun r => r.req.id != id }

/-- R269, R283. A held read's burst failed twice. -/
def State.readLost (s : State) (c u : Nat) (r : DrcRead) : State :=
  match s.placeOf c r.addr with
  | none => s.respondRead r.req 0 true
  | some (set, w, i) =>
    let lpn := lpnOfDpa r.req.dpa
    let s1 := s.dramUncorrectable c u r.addr lpn i (b2n r.dirty)
    let here := (s1.way set w).lpn == lpn && (s1.way set w).valid.getLsbD i
    let s2 := s1.gate here fun s => s.loseSector set w i
    if r.dirty = false then s2.submit r.req
    else if s.joined && s.mirrored (bCs (setSlice set)) r.req.region then
      let psn := s2.readPsn lpn
      let q := { r.req with causes := r.req.causes ||| 2#8 }
      let m : MediaRead := { id := s2.media.nextId, kind := .host, lpn := lpn, block := i / 4, psn := psn
                             pos := blockPos psn (i / 4), step := 5, chans := [], slot := s2.now, joined := [q]
                             way := some w }
      { s2 with
        media := { s2.media with reads := s2.media.reads ++ [m], nextId := s2.media.nextId + 1 }
        integ := { s2.integ with fromPeer := s2.integ.fromPeer.erase (lpn * 16 + i / 4) } }
    else s2.respondRead r.req 0 true

/-- R152, R409, R587, R595. The bursts of a held read: its sector's, and the metadata line's beside it. -/
def State.readBursts (s : State) (c : Nat) (r : DrcRead) : State :=
  let s1 := (s.column c r.addr 0x40).bwAdd (21 + c) 0 64
  match r.metaAddr with
  | some x => (s1.column c x 0x40).bwAdd (21 + c) 0 64
  | none => s1

/-- R152, R269, R407–R410. DRAM_READ_RETURN: the bursts of a held read return with `errs` bad symbols in the worse of them, of device
`dev` (log entry 140). -/
def execDramReadReturn (cyc ch sub id errs dev : Nat) (s0 : State) : Res :=
  let s := s0.begin.at cyc
  match (s.sub ch sub).readQ.find? fun r => r.req.id == id with
  | none => .next s
  | some r =>
    let s1 := s.readBursts ch r
    if s1.corrects ch sub errs then
      let s2 := (s1.gate (errs != 0) fun s => s.dramCorrected ch sub dev r.addr).dropRead ch sub id
      .next (s2.respondRead r.req r.data r.poison)
    else if r.retried then .next ((s1.dropRead ch sub id).readLost ch sub r)
    else .next (s1.modSub ch sub fun v => { v with
      readQ := v.readQ.map fun x => if x.req.id = id then { x with retried := true } else x })

/-- R408, R410. The queued write to an address reaches DRAM. -/
def State.issueWrite (s : State) (c u x : Nat) : State :=
  match (s.sub c u).writeQ.find? fun p => p.1 == x with
  | none => s
  | some p =>
    let s1 := s.modSub c u fun v => { v with writeQ := v.writeQ.filter fun q => q.1 != x }
    ((s1.dramStore c x p.2).column c x 0x41).bwAdd (21 + c) 1 64

/-- Drain a subchannel's write queue into DRAM. -/
def State.drainWrites (s : State) (c u : Nat) : State :=
  ((s.sub c u).writeQ.map fun p => p.1).foldl (fun s x => s.issueWrite c u x) s

/-- R408. DRAM_WRITE_ISSUE: a write is issued while no read entry is held, or when more than 112 are queued; row hits come
first. -/
def execDramWriteIssue (cyc ch sub addr : Nat) (s0 : State) : Res :=
  let s := s0.begin.at cyc
  let u := s.sub ch sub
  let hit (x : Nat) : Bool := match u.openRows.get? (bankOf x) with
    | some p => p.1 == dramRow x
    | none => false
  let ok := drcOk ch sub && !u.selfRefresh && (u.readQ.isEmpty || decide (112 < u.writeQ.length))
    && (hit addr || !(u.writeQ.any fun p => hit p.1))
  .next (s.gate ok fun s => s.issueWrite ch sub addr)

/-! ### Refresh (R412–R416) -/

/-- R414. The intervals a subchannel may postpone. -/
def State.postponeMax (s : State) (c u : Nat) : Nat :=
  if (s.sub c u).hot then 2 else min 4 (s.regF (bDrc c) 0x020 1 3)

/-- R249. Set a cause bit on the requests that wait for a subchannel, `u`, or for either of a channel, 2. -/
def State.waitBlame (s : State) (c u : Nat) (m : BitVec 8) : State :=
  let hit (r : HostReq) : Bool :=
    let set := s.setOf (lpnOfDpa r.dpa)
    s.setDram set == c && match s.findWay (lpnOfDpa r.dpa) with
      | some w => u == 2 || subOf (s.sectorAddr set w (sectorOf r.dpa)) == u
      | none => false
  let held := s.cache.waiting.map fun r => { r with causes := r.causes ||| (if hit r then m else 0#8) }
  { s with cache := { s.cache with waiting := held } }

/-- R414, R622. A batch of `n` forced refreshes that takes `dur` ns, with its record; reads held and waiting are delayed under
cause 6 of R249. Intervals may join it while fewer than 8 refreshes are in `batch` (R415). -/
def State.forceRefresh (s : State) (c u n dur batch : Nat) : State :=
  let s1 := (s.modDrc c fun d => { d with forcedCount := satAdd 0xffffff d.forcedCount n }).count (bDrc c) 0x45 n
  let s2 := (s1.count (bDrc c) 0x44 n).modSub c u fun v => { v with
    owed := v.owed - n, openRows := [], forcedTill := s.ns + dur, batch := batch
    readQ := v.readQ.map fun r => { r with req := { r.req with causes := r.req.causes ||| 64#8 } } }
  (s2.waitBlame c u 64#8).recordOnce (2 * c + u) (bDrc c) (dramSrc c u 4) 0x0B02 .warning [(1, u), (4, n), (4, dur)]

/-- R415. An interval that falls due while the batch runs joins it: one more REFab, of 410 ns (R401). -/
def State.joinBatch (s : State) (c u : Nat) : State :=
  let s1 := (s.modDrc c fun d => { d with forcedCount := satAdd 0xffffff d.forcedCount 1 }).count (bDrc c) 0x45 1
  (s1.count (bDrc c) 0x44 1).modSub c u fun v => { v with batch := v.batch + 1, forcedTill := v.forcedTill + 410 }

/-- R412, R414, R415. DRAM_REFRESH_DUE: an interval falls due. It joins a batch that runs under R415; else, with reads queued it is
postponed up to the limit, and without it is issued with every owed one, each a REFab of 410 ns (R401). `dur` is how long a forced batch takes, in ns. -/
def execDramRefreshDue (cyc ch sub dur : Nat) (s0 : State) : Res :=
  let s := s0.begin.at cyc
  .next (s.gate (drcOk ch sub && !(s.sub ch sub).selfRefresh && (s.drc ch).state != 0 && (s.drc ch).state != 7) fun s =>
    let s1 := s.modSub ch sub fun v => { v with owed := v.owed + 1 }
    let v := s1.sub ch sub
    let lim := s1.postponeMax ch sub
    if s.ns < v.forcedTill ∧ v.batch < 8 then s.joinBatch ch sub
    else if v.readQ.isEmpty then
      (s1.modSub ch sub fun v => { v with owed := 0, refreshTill := s.ns + 410 * v.owed }).count (bDrc ch) 0x44 v.owed
    else if v.owed ≤ lim then s1
    else s1.forceRefresh ch sub (v.owed - lim) dur 8)

/-- One sub-channel of a read of MR4: its refresh rate is noted; a change makes the owed refreshes twice or half as many, and
those over the limit are forced. -/
def State.mr4One (s : State) (ch u : Nat) (hot : Bool) (dur : Nat) : State :=
  let v := s.sub ch u
  let s1 := s.modSub ch u fun v => { v with hot := hot }
  if hot ∧ v.hot = false ∧ 0 < v.owed then
    let s2 := s1.record (bDrc ch) (dramSrc ch u 4) 0x0B01 .info [(1, u), (1, v.owed)]
    let s3 := s2.modSub ch u fun v => { v with owed := 2 * v.owed }
    s3.forceRefresh ch u (min 8 (2 * v.owed)) dur (min 8 (2 * v.owed))
  else if hot = false ∧ v.hot = true ∧ 4 < v.owed then s1.forceRefresh ch u (v.owed - 4) dur 8
  else s1

/-- R413, R415, R416. MR4_READ, every 32 frames: `hot` tells of each subchannel whether a device reports 2× or more. -/
def execMr4Read (ch : Nat) (hot0 hot1 : Bool) (dur : Nat) (s0 : State) : Res :=
  let s := s0.begin
  .next (s.gate (decide (ch < 4) && s.tt.fn % 32 == 0) fun s => (s.mr4One ch 0 hot0 dur).mr4One ch 1 hot1 dur)

/-! ### The activation guard (R417–R419) -/

/-- R418. The threshold in force. -/
def State.actThreshold (s : State) (c : Nat) : Nat := max 64 (s.regF (bDrc c) 0x030 0 16)

/-- R401, R418, R419. The bank is withheld for a mitigation: four activates with their precharges, of tRAS + tRP each (log
entry 158). -/
def State.withholdBank (s : State) (c u bank : Nat) : State :=
  s.modSub c u fun v => { v with busyTill := v.busyTill.set bank (s.ns + (if (s.drc c).speed = 1 then 195 else 193)) }

/-- R418, R622. ACT_MITIGATION: a row's count has reached the threshold; its neighbours are refreshed. -/
def execActMitigation (cyc ch sub bank row : Nat) (s0 : State) : Res :=
  let s := s0.begin.at cyc
  let t := (s.sub ch sub).acts.getD bank []
  match t.find? fun e => e.2.row == row with
  | some e =>
    .next (s.gate (drcOk ch sub && decide (s.actThreshold ch ≤ e.2.count) && decide ((s.sub ch sub).forcedTill ≤ s.ns)) fun s =>
      let low := t.foldl (fun m e => min m e.2.count) e.2.count
      let s1 := s.modSub ch sub fun v => { v with
      acts := v.acts.set bank (t.set e.1 { e.2 with count := low }), openRows := v.openRows.erase bank }
      let s2 := ((s1.withholdBank ch sub bank).modDrc ch fun d => { d with mitigations := sat32 d.mitigations 1 }).count (bDrc ch) 0x46 1
      (s2.tally 0x0B11 (dramSrc ch sub 4) 0 1).noteLast 0x0B11 (dramSrc ch sub 4) (bank + 256 * row))
  | none => .next s

/-- R419. RFM: a bank's rolling count reaches the device's initial management threshold, and the device needs RFM or the
image forces it. -/
def execRfm (cyc ch sub bank : Nat) (needs : Bool) (threshold : Nat) (s0 : State) : Res :=
  let s := s0.begin.at cyc
  let ok := drcOk ch sub && (needs || (s.actW (bDrc ch) 0x030).getLsbD 16) && decide (0 < threshold)
    && decide (threshold ≤ (s.sub ch sub).rfm.getD bank 0) && decide ((s.sub ch sub).forcedTill ≤ s.ns)
  .next (s.gate ok fun s =>
    ((s.withholdBank ch sub bank).modSub ch sub fun v => { v with rfm := v.rfm.set bank (v.rfm.getD bank 0 - threshold) }).modDrc ch fun d =>
      { d with rfmCount := sat32 d.rfmCount 1 })

/-- R417. ACT_TABLE_CLEAR of a bank. -/
def execActTableClear (ch sub bank : Nat) (s0 : State) : Res :=
  let s := s0.begin
  .next (s.gate (drcOk ch sub) fun s => s.modSub ch sub fun v => { v with acts := v.acts.erase bank })

/-- R411. PAGE_IDLE_EXPIRY: the bank is precharged. -/
def execPageIdleExpiry (cyc ch sub bank : Nat) (s0 : State) : Res :=
  let s := s0.begin.at cyc
  match (s.sub ch sub).openRows.get? bank with
  | some p =>
    let idle := s.regF (bDrc ch) 0x010 8 8
    .next (s.gate (drcOk ch sub && decide (p.2 + idle ≤ s.ns)) fun s =>
      s.modSub ch sub fun v => { v with openRows := v.openRows.erase bank })
  | none => .next s

/-! ### Self-refresh (R420, R421) -/

/-- R420. SELF_REFRESH_ENTRY: idle for SR_IDLE in Idle; the writes are drained and every owed refresh is issued. -/
def execSelfRefreshEntry (cyc ch sub : Nat) (s0 : State) : Res :=
  let s := s0.begin.at cyc
  let v := s.sub ch sub
  let idle := s.regF (bDrc ch) 0x010 16 8 * 100000
  let ok := drcOk ch sub && s.pwr.state == 3 && (s.drc ch).state == 3 && v.readQ.isEmpty && !v.selfRefresh
    && decide (v.idleSince + idle ≤ s.ns)
  .next (s.gate ok fun s =>
    let s1 := s.drainWrites ch sub
    let s2 := (s1.count (bDrc ch) 0x44 v.owed).modSub ch sub fun v => { v with
      owed := 0, selfRefresh := true, openRows := [] }
    if (s2.sub ch (1 - sub)).selfRefresh then s2.modDrc ch fun d => { d with state := 4 } else s2)

/-- R421. A subchannel leaves self-refresh. -/
def State.wakeSub (s : State) (c u : Nat) : State :=
  let s1 := s.modSub c u fun v => { v with selfRefresh := false, idleSince := s.ns, woken := v.woken || v.selfRefresh }
  s1.modDrc c fun d => if d.state = 4 then { d with state := 3 } else d

/-- R249, R421. SELF_REFRESH_EXIT: a request wakes the subchannel, and is delayed under cause 4. -/
def execSelfRefreshExit (cyc ch sub : Nat) (s0 : State) : Res :=
  let s := s0.begin.at cyc
  .next (s.gate (drcOk ch sub && (s.sub ch sub).selfRefresh) fun s => (s.wakeSub ch sub).waitBlame ch sub 16#8)

/-! ### Failed channels (R186–R189, R267, R268, R429–R431) -/

/-- R186, R187, R431. Reads held in a lost channel: a clean sector is read from media; a dirty one is lost, or in a mirrored region of a
joined pair comes from the peer (cause 1 of R249). -/
def State.loseReads (s : State) (c : Nat) : State :=
  [0, 1].foldl (fun s u =>
    let rs := (s.sub c u).readQ
    let s1 := s.modSub c u fun v => { v with readQ := [], writeQ := [], openRows := [], owed := 0 }
    rs.foldl (fun s r =>
      let q := { r.req with causes := r.req.causes ||| 16#8 }
      let peer := s.joined && s.mirrored (bCs (setSlice (s.setOf (lpnOfDpa q.dpa)))) q.region
      if r.dirty = false then s.submit q
      else if peer then s.submit { q with causes := q.causes ||| 2#8 }
      else s.respondRead q 0 true) s1) s

/-- R388, R406, R430. The resync bitmap once channel `c` has failed: its data is rebuilt from the other three; with a second channel gone
it is lost, and a full resync is owed (log entry 152). -/
def State.bitmapLoss (s : State) (c : Nat) : State :=
  s.gate (s.fry.anyMarked && (List.range 4).any fun d => d != c && (s.drc d).failed) fun s =>
    { s with fry := { s.fry with bitmapAll := true } }

/-- R429–R431. Channel `c` fails: record, loss of its pages, then the drain toward three channels, or uncached service
when a first channel already drains or is gone. -/
def State.drcFail (s : State) (c cause u dev : Nat) : State :=
  if (s.drc c).failed then s
  else
    let s1 := (s.modDrc c fun d => { d with failed := true }).record (bDrc c) (dramSrc c 0 4) 0x0B41 .error
      [(1, cause), (1, u), (1, dev)]
    let used := s1.cache.drams.contains c
    let s2 := if used then s1.loseChannel c else s1
    let first := decide (s2.cache.drams.length = 4) && (s2.cache.drainDrams.isEmpty || s2.cache.drainDrams == [c])
    let s3 : State := { s2 with cache := { s2.cache with
      retrainDrams := s2.cache.retrainDrams.filter fun d => d != c
      drainDrams := if used && first then [c] else s2.cache.drainDrams
      uncachedDrams := if used && !first then s2.cache.uncachedDrams ++ [c] else s2.cache.uncachedDrams } }
    ((s3.loseReads c).bargeOut c).bitmapLoss c

/-- R429. DRAM_CHANNEL_FAILED: 1 training not regained within 10 ms, 2 a second device of a subchannel in erasure mode,
3 fault level 3. -/
def execDramChannelFailed (ch cause sub dev : Nat) (s0 : State) : Res :=
  let s := s0.begin
  let why := match cause with
    | 1 => (List.range 2).any fun u => match (s.sub ch u).lostAt with
        | some f => decide (f + 2442 ≤ s.tt.fn)
        | none => false
    | 2 => (s.sub ch sub).erased.isSome && (s.sub ch sub).erased != some dev
    | 3 => s.integ.failedBlocks.contains (bDrc ch)
    | _ => false
  let whole := cause != 2
  .next (s.gate (decide (ch < 4) && !(s.drc ch).failed && why) fun s =>
    s.drcFail ch cause (if whole then 255 else sub) (if whole then 255 else dev))

/-- R267. A condition for an erased device holds: 16 corrections on it, or two uncorrectable bursts with a test that names
it, within 2^20 frames. -/
def State.erases (s : State) (c u dev cause : Nat) : Bool :=
  let v := s.sub c u
  match cause with
  | 1 => decide (16 ≤ v.corrFns.countP fun p => p.1 == dev && decide (s.tt.fn < p.2 + 2 ^ 20))
  | 2 => decide (2 ≤ v.uncorrFns.countP fun f => decide (s.tt.fn < f + 2 ^ 20))
  | _ => false

/-- R267, R268, R429. DRAM_DEVICE_ERASED: the subchannel runs in erasure mode and its channel drains, or stays in service
when another channel is gone already. A second device of the subchannel fails the channel. -/
def execDramDeviceErased (ch sub dev cause : Nat) (s0 : State) : Res :=
  let s := s0.begin
  let ok := drcOk ch sub && decide (dev < 5) && s.erases ch sub dev cause && (s.sub ch sub).erased != some dev
  .next (s.gate ok fun s =>
    match (s.sub ch sub).erased with
    | some _ => s.drcFail ch 2 sub dev
    | none =>
      let s1 := (s.modSub ch sub fun v => { v with erased := some dev }).record (bDrc ch) (dramSrc ch sub dev) 0x0813 .error
        [(1, ch), (1, sub), (1, dev), (1, cause)]
      if s1.cache.drams.length = 4 ∧ s1.cache.drainDrams = [] then
        { s1 with cache := { s1.cache with drainDrams := [ch] } }
      else if s1.cache.drainDrams = [ch] then s1
      else s1.record (bDrc ch) (dramSrc ch sub dev) 0x0814 .error [(1, ch), (1, sub), (1, dev)])

/-- R189, R268, R430. CACHE_RECONFIG, at a frame tick: the drain has destaged every dirty page, so every page is dropped and the geometry of
the channels left comes into force; the drained channel is removed. -/
def execCacheReconfig (s0 : State) : Res :=
  let s := s0.begin
  let clean := !(s.cache.ways.any fun p => p.2.isDirty)
  .next (s.gate (s.draining && clean && s.tt.cyc == 0) fun s =>
    let held := s.cache.ways.filter fun p => p.2.used
    let locked := (held.filter fun p => p.2.lock).map fun p => (p.1 / 8, p.2.lpn)
    let gone := s.cache.drainDrams
    let s1 := s.lockRecords (s.cache.lostLocks ++ locked) 1 none
    let left := s1.cache.drams.filter fun c => !gone.contains c
    let s2 : State := { s1 with
      cache := { s1.cache with ways := [], drams := left, drainDrams := [], lostLocks := [] }
      drcs := gone.foldl (fun m c => Kv.mod m c {} fun d => { d with state := 7, failed := true }) s1.drcs
      media := { s1.media with reads := s1.media.reads.map fun m =>
        if m.kind = .maintenance ∨ m.kind = .barge then m else { m with way := none, after := none } } }
    let s3 := s2.record (bCs 0) 187 0x0522 .info [(4, left.length), (4, s2.sets)]
    gone.foldl State.bargeOut s3)

/-- R429. DRAM_TRAINING_LOST: a subchannel loses training; `ok` tells that the DRC has retrained it. -/
def execDramTrainingLost (ch sub : Nat) (ok : Bool) (s0 : State) : Res :=
  let s := s0.begin
  .next (s.gate (drcOk ch sub && !(s.drc ch).failed) fun s =>
    s.modSub ch sub fun v => { v with lostAt := if ok then none else some (v.lostAt.getD s.tt.fn) })

/-! ### Drift, retraining and frequency change (R422, R426, R427, R477) -/

/-- Dirty pages that lie on a DRAM channel. -/
def State.dirtyOn (s : State) (c : Nat) : Nat := s.cache.ways.countP fun p => p.2.isDirty && s.setDram (p.1 / 8) == c

/-- R249. Requests for sectors that channel `c` caches, whose service its retraining delays, count under cause 6. -/
def State.retrainDelays (s : State) (c : Nat) : State := s.blame (fun r => s.setDram (s.setOf (lpnOfDpa r.dpa)) == c) 64#8

/-- R427, R477, R480. MNT starts the retraining of a channel, refuses it, or defers it. -/
def State.retrainStart (s : State) (c : Nat) : State :=
  if s.regF bMnt 0x028 0 21 < s.dirtyOn c then
    let first := !s.mnt.retrainRefused.contains c
    let s1 := s.actRefused 8 0 c first
    { s1 with mnt := { s1.mnt with retrainRefused := if first then s1.mnt.retrainRefused ++ [c] else s1.mnt.retrainRefused } }
  else
    match s.blocker 8 with
    | some b => s.defer 8 b
    | none =>
      let s1 : State := { s with
        mnt := { s.mnt with retrain := s.mnt.retrain.filter fun d => d != c
                            retrainRefused := s.mnt.retrainRefused.filter fun d => d != c }
        cache := { s.cache with retrainDrams := s.cache.retrainDrams ++ [c] } }
      (s1.retrainDelays c).modDrc c fun d => { d with state := 6 }

/-- R426. Take the drift of one subchannel: it steps the write DQS delays at 1/16 UI and asks for a retraining at 1/4 UI. -/
def State.driftOne (s : State) (c u : Nat) (drift : Int) : State :=
  let old := (s.sub c u).drift
  let s1 := s.modSub c u fun v => { v with drift := drift }
  let step (m : Kv Nat) (l : Nat) : Kv Nat :=
    Kv.mod m (2 * 128 + l) 0 fun v => ((Int.ofNat v + (drift - old)) % 4096).toNat
  let s2 := if 4 ≤ (drift - old).natAbs then
      s1.modDrc c fun d => { d with train := { d.train with steps := (List.range 5).foldl step d.train.steps } }
    else s1
  if 16 ≤ drift.natAbs ∧ s2.mnt.retrain.contains c = false ∧ s2.cache.retrainDrams.contains c = false then
    let s3 := s2.record (bDrc c) (dramSrc c u 4) 0x0B23 .warning [(1, u), (1, signed 1 drift)]
    ({ s3 with mnt := { s3.mnt with retrain := s3.mnt.retrain ++ [c] } } : State).retrainStart c
  else s2

/-- R426. DRIFT_CHECK, every 256 frames and after a wake from self-refresh, in 1/64 UI since training. -/
def execDriftCheck (ch : Nat) (drift0 drift1 : Int) (s0 : State) : Res :=
  let s := s0.begin
  let ok := decide (ch < 4) && (s.tt.fn % 256 == 0 || (s.sub ch 0).woken || (s.sub ch 1).woken) && (s.drc ch).state == 3
  let rested (s : State) (u : Nat) : State := s.modSub ch u fun v => { v with woken := false }
  .next (s.gate ok fun s => (((rested (rested s 0) 1).driftOne ch 0 drift0).driftOne ch 1 drift1))

/-- R424, R427. Training of a channel out of service ends: it serves again, or it fails. -/
def State.trained (s : State) (c : Nat) (ok : Bool) (sub stage lane window ms : Nat) : State :=
  let s1 : State := { s with cache := { s.cache with retrainDrams := s.cache.retrainDrams.filter fun d => d != c } }
  if ok then
    let s2 := s1.modDrc c fun d => { d with state := 3 }
    let s3 := [0, 1].foldl (fun s u => s.modSub c u fun v => { v with drift := 0, lostAt := none, openRows := [] }) s2
    s3.record (bDrc c) (dramSrc c 0 4) 0x0B21 .info [(1, (s3.drc c).speed), (1, window), (4, ms)]
  else
    (s1.record (bDrc c) (dramSrc c sub 4) 0x0B22 .error [(1, sub), (1, stage), (1, lane)]).drcFail c 1 255 255

/-- R427, R477. DRAM_RETRAIN: a requested retraining starts; or, once the channel's dirty pages are destaged, its pages are
dropped, it is trained, and it serves again. -/
def execDramRetrain (ch : Nat) (ok : Bool) (sub stage lane window ms : Nat) (s0 : State) : Res :=
  let s := s0.begin
  if s.cache.retrainDrams.contains ch then
    .next (s.gate (s.dirtyOn ch == 0) fun s =>
      let keys := (s.cache.ways.filter fun p => p.2.used && s.setDram (p.1 / 8) == ch).map fun p => p.1
      ((s.retrainDelays ch).dropWays keys 3 none).trained ch ok sub stage lane window ms)
  else .next (s.gate (s.mnt.retrain.contains ch) fun s => s.retrainStart ch)

/-- R477. RETRAIN_RETRY, every 2^16 frames: a refused retraining is tried again. -/
def execRetrainRetry (ch : Nat) (s0 : State) : Res :=
  let s := s0.begin
  .next (s.gate (s.tt.fn % 2 ^ 16 == 0 && s.mnt.retrainRefused.contains ch) fun s => s.retrainStart ch)

/-- R422. The channel whose turn it is in a frequency change. -/
def State.freqNext (s : State) (t : Nat) : Option Nat :=
  (List.range 4).find? fun c => (s.drc c).state == 3 && (s.drc c).speed != t

/-- R422, R480. FREQUENCY_CHANGE: the next channel in order changes its speed; `us` is its time out of service. -/
def execFrequencyChange (ch us : Nat) (s0 : State) : Res :=
  let s := s0.begin
  match s.mnt.freqTarget with
  | none => .next s
  | some t =>
    match s.blocker 9 with
    | some b => .next (s.defer 9 b)
    | none =>
      .next (s.gate (s.freqNext t == some ch && !s.mnt.waiting.has 9) fun s =>
        let old := (s.drc ch).speed
        let s1 := [0, 1].foldl (fun s u => ((s.drainWrites ch u).count (bDrc ch) 0x44 (s.sub ch u).owed).modSub ch u fun v => { v with
          owed := 0, openRows := []
          readQ := v.readQ.map fun r => { r with req := { r.req with causes := r.req.causes ||| 64#8 } } }) s
        let s2 := ((s1.waitBlame ch 2 64#8).modDrc ch fun d => { d with speed := t }).record (bDrc ch) (dramSrc ch 0 4) 0x0B31 .info
          [(1, old), (1, t), (4, us)]
        if (s2.freqNext t).isNone then { s2 with mnt := { s2.mnt with freqTarget := none } } else s2)

/-! ### Training helpers (R424, R433) -/

/-- R433. DRC_TRAIN_CTRL.START: accepted in state 1 or 6; the counters clear. -/
def State.trainGo (s : State) (c : Nat) : State :=
  let st := (s.drc c).state
  s.gate ((st == 1 || st == 6) && !(s.drc c).train.busy) fun s =>
    s.modDrc c fun d => { d with train := { d.train with busy := true, counters := [] } }

/-- R433. TRAIN_RUN. -/
def execTrainRun (ch : Nat) (s0 : State) : Res := .next (s0.begin.gate (decide (ch < 4)) fun s => s.trainGo ch)

/-- R433. TRAIN_RUN_DONE: the errors counted, by 40 × subchannel + DQ. -/
def execTrainRunDone (ch : Nat) (errs : List (Nat × Nat)) (s0 : State) : Res :=
  let s := s0.begin
  .next (s.gate (decide (ch < 4) && (s.drc ch).train.busy) fun s =>
    s.modDrc ch fun d => { d with train := { d.train with
      busy := false
      errors := errs.any fun e => e.1 < 80 && 0 < e.2
      counters := errs.foldl (fun m e => if e.1 < 80 then Kv.mod m e.1 0 fun n => sat32 n e.2 else m) d.train.counters } })

end Sys2Proof.Machine
end

