-- ==== Sys2Proof/Machine/PowerOps.lean ====
section
/-!
DEFINITION. What power has to do with every engine: state changes (R533), domains (R536, R537), waking from Moored (R538),
entering a flush (R548), the first failure (R532), and the records the flush writes (R321, R518, R550).
-/
namespace Sys2Proof.Machine

/-- R525. The uptime counter in µs. -/
def State.uptimeUs (s : State) : Nat := s.pwr.uptimeNs / 1000

/-! ### Domains (R536) -/

/-- A head takes part in the configuration in force (R437). -/
def State.headUsed (s : State) (h : Nat) : Bool := h == 0 || (h == 1 && s.dual)

/-- R536. The state of a domain in Open and Idle: On where it is in use. -/
def State.openDomain (s : State) (d : Nat) : Nat :=
  if d = 65 ∨ d = 78 then (if s.dual then 2 else 0)
  else if 66 ≤ d ∧ d ≤ 68 then (if s.pairCfg then 2 else 0)
  else if d < 96 then 2 else 0

/-- R536. The state of a domain in Moored. -/
def State.moorDomain (s : State) (d : Nat) : Nat :=
  if d < 36 then 0
  else if d < 60 then 1
  else if d < 64 then (if d = 60 ∨ (d = 62 ∧ s.dual) then 2 else 0)
  else if d = 64 ∨ d = 77 then 2
  else if d = 65 ∨ d = 78 then (if s.dual then 2 else 0)
  else if d = 66 then 0
  else if d = 67 ∨ d = 68 then (if s.pairCfg then 2 else 0)
  else if d < 77 then 0
  else if d = 79 then 2
  else if d < 83 then 0
  else if d < 85 then 2
  else if d < 87 then 1
  else if d < 96 then 2 else 0

/-- R536. The state of a domain in a flush. -/
def State.flushDomain (s : State) (d : Nat) : Nat :=
  if d < 60 then 2
  else if d < 66 then 0
  else if d < 69 then (if s.pairCfg then 2 else 0)
  else if d < 77 then 2
  else if d = 79 then 2
  else if d < 83 then 0
  else if d < 96 then 2 else 0

/-- Put every domain into the state `f` gives it. A domain that failed to power up stays Off (R553). -/
def State.setDomains (s : State) (f : Nat → Nat) : State :=
  let on (d : Nat) : Nat := if s.pwr.domFailed.contains d then 0 else f d
  { s with pwr := { s.pwr with domains := ((List.range 96).filter fun d => on d != 0).map fun d => (d, on d) } }

/-! ### Moored (R535–R538, R444, R445) -/

/-- R37, R537. Every domain of the block's registers is Off. -/
def State.dark (s : State) (b : Nat) : Bool := (blkLogic b).all fun d => s.pwr.domains.getD d 0 == 0

/-- R44, R54, R232. The counts, latches and results that a block's RO fields show, and its queues, take their reset values. A field that
shows what the machine does goes on showing it (log entry 144). -/
def State.clearRo (s : State) (b : Nat) : State :=
  let i := blkInst b
  match blkType b with
  | 1 => { s with regs := { s.regs with pendingGroups := 0, lastUpdateFn := 0 } }
  | 2 => { s with tt := { s.tt with fnLatch := 0, miss0 := 0, miss1 := 0, miss2 := 0, miss3 := 0 } }
  | 4 =>
    let s1 := s.modHp i fun p => { p with wakeCause := 0, wakeUs := 0, wakes := 0 }
    s1.modHead i fun d => { d with exc := [], excRow := 0, excCauses := 0, excService := 0, excFn := 0 }
  | 5 => s.gate (i == 0 && !s.cache.port.busy) fun s => { s with cache := { s.cache with port := {} } }
  | 6 => { s with xl := { s.xl with
      gapLost := 0, probeDone := false, probeOut := false, probeBerth := false, probeStripe := false, probeMoving := false
      probeMissing := false, probeDistrict := 0, probeParityPos := 0, probeParityMch := 0, probeOffset := 0, probeSlot := 0
      probePsn := 0 } }
  | 7 => s.modMch i fun m => { m with corr := 0, alt := 0, recon := 0, uncorr := 0, wfail := 0, repeats := 0 }
  | 8 =>
    let s1 := s.modDrc i fun d => { d with forcedCount := 0, mitigations := 0, rfmCount := 0, corr := 0, uncorr := 0 }
    s1.gate (!(s1.drc i).train.busy) fun s => s.modDrc i fun d => { d with train := { d.train with errors := false } }
  | 9 => { s with sec := { s.sec with macFail := 0 } }
  | 10 => (s.setQ .secRequest {}).setQ .secResponse {}
  | 11 => { s with mnt := { s.mnt with refused := 0, recalResult := 0 } }
  | 12 => (List.range 4).foldl (fun s n => ((if h : n < 4 then
      (s.setQ (.descriptors ⟨n, h⟩) {}).setQ (.completions ⟨n, h⟩) {} else s).modBrg n fun c => { ({} : BargeCh) with out := c.out })) s
  | 13 => { s with fry := { s.fry with replays := 0, retrains := 0, refused := 0 } }
  | 14 =>
    let s1 := s.setQ .records {}
    { s1 with tele := { s1.tele with evq := { s1.tele.evq with
        lost0 := 0, lost1 := 0, lost2 := 0, lost3 := 0, taken := 0, takenMax := 0 } } }
  | 17 => { s with pst := { s.pst with imgResult := 0 } }
  | _ => s

/-- R537. What PWR copies into the retention store. -/
def State.retain (s : State) : State := { s with retained := some (s.regs, s.tele.counters, s.media.mchs) }

/-- R537. A media channel as restored: the tables the retention store holds, over what recomputes. -/
def restoreMch (now old : Mch) : Mch :=
  { now with bands := old.bands, planes := old.planes, watch := old.watch, roles := old.roles, was := old.was
             rebuild := old.rebuild, rebuilding := old.rebuilding }

/-- R537. At wake, the blocks whose domains were Off take back their registers, counters and tables. -/
def State.restore (s : State) : State :=
  match s.retained with
  | none => s
  | some (r, c, m) =>
    let off (b : Nat) : Bool := s.dark b
    let offAddr (a : Nat) : Bool := match blkAt (a / 0x10000) with
      | some b => off b
      | none => false
    let take (now old : Kv Word) : Kv Word :=
      (old.filter fun p => offAddr p.1).foldl (fun k p => k.set p.1 p.2) (now.filter fun p => !offAddr p.1)
    { s with
      regs := { s.regs with active := take s.regs.active r.active, shadow := take s.regs.shadow r.shadow }
      tele := { s.tele with counters := (c.filter fun p => off (p.1 / 8)).foldl (fun k p => k.set p.1 p.2) s.tele.counters }
      media := { s.media with mchs := m.foldl (fun k p => Kv.mod k p.1 {} fun x => restoreMch x p.2) s.media.mchs }
      retained := none }

/-- R37. The blocks that were dark and have powered up: their registers take reset values, but for what is restored. -/
def State.powerUpRo (s old : State) : State := ((List.range 54).filter old.dark).foldl (fun s b => s.gate (s.live b) fun s => s.clearRo b) s

/-- R388. The pages of a full resync: those of the mirrored regions. -/
def State.mirroredPages (s : State) : Nat :=
  (List.range 64).foldl (fun n r =>
    let x := s.region bXl r
    if x.valid && x.mirror then n + x.size * 262144 else n) 0

/-- R390. The pages whose bits are set in the resync bitmap. -/
def State.pagesMarked (s : State) : Nat :=
  (if s.fry.bitmapAll then s.mirroredPages - s.fry.resyncSent else 0) + s.fry.bitmap.length
    + s.fry.spans.foldl (fun n p => n + (p.2 - p.1)) 0

/-- R360, R361. Send STATE. -/
def State.sendState (s : State) : State :=
  let power := if s.pwr.state = 3 then 1 else if s.pwr.state = 4 then 2 else 0
  let bits := b2n s.pwr.gated + 2 * b2n s.notSft + 4 * power + 16 * b2n (s.fry.resign.isSome || s.fry.handover.isSome)
  let lead := s.isLead
  let left := if lead then s.pagesMarked else 0
  s.ferry 4 [bits, (s.head 0).mediaFn, if lead then (s.head 0).pairFn else 0, s.fry.widxSent, left] []

/-- R421, R445, R538. The module wakes from Moored: every domain is On and restored, the DRAM leaves self-refresh, and the
link of each head returns to its former rate and width. `cause` is that of HP_MOOR: 1 CXL.mem, 2 mailbox, 3 power state
request. -/
def State.wakeMoored (s : State) (cause : Nat) : State :=
  if s.pwr.state ≠ 4 then s
  else
    let s1 := s.restore
    let s2 := (s1.setDomains s1.openDomain).powerUpRo s
    let s3 := (List.range 8).foldl (fun s i => s.wakeSub (i / 2) (i % 2)) s2
    let s4 := [0, 1].foldl (fun s h => s.modHp h fun p =>
      if p.moor = 0 then p else { p.rise with wakeCause := cause, wakes := sat32 p.wakes 1 }) s3
    let s5 := s4.pwrTo 2 6
    s5.gate (s5.joined && s5.isLead) State.sendState

/-! ### Records (R321, R494, R518, R550) -/

/-- The bytes of a record with its CRC-32C over all of `b` appended. -/
def withCrc (b : List (BitVec 8)) : List (BitVec 8) := b ++ leBytes 4 (crc32c b).toNat

/-- R163. Dirty pages of the whole cache, summed over CS_DIRTY. -/
def State.allDirty (s : State) : Nat := (List.range 16).foldl (fun n i => n + s.dirtyPages i) 0

/-- R550. The bytes of the power-fail record: COMPLETE as given. -/
def State.pfBytes (s : State) (complete : Bool) : List (BitVec 8) :=
  let f := s.pwr.flush.getD { cause := 2 }
  let flags := b2n complete + 2 * b2n f.onBank + 4 * b2n f.saved + 8 * b2n f.halt
  let ff := s.pwr.first.getD (255, 0, 0, 0)
  let drawn := if f.onBank then s.pwr.cm * (f.vres * f.vres - s.pwr.vres * s.pwr.vres) / 20000000 else 0
  let save := if s.pwr.saveSlot = 0 then 6442451456 + 256 else 6442451456 + 1048832
  withCrc (padTo 252 (leBytes 4 0x4C465750 ++ leBytes 4 s.pwr.pfSeq ++ leBytes 6 s.tt.fn ++ leBytes 1 flags
    ++ leBytes 1 f.cause ++ leBytes 1 ff.1 ++ leBytes 1 ff.2.1 ++ leBytes 6 ff.2.2.1 ++ leBytes 8 ff.2.2.2
    ++ leBytes 8 f.uptime ++ leBytes 8 s.uptimeUs ++ leBytes 8 f.dirty ++ leBytes 8 f.destaged ++ leBytes 2 f.vres
    ++ leBytes 2 s.pwr.vres ++ leBytes 2 drawn ++ leBytes 2 s.pwr.cm ++ leBytes 5 (save - 6442451456)
    ++ leBytes 1 s.pwr.saveSlot ++ leBytes 6 s.xl.ckptFn ++ leBytes 4 s.pwr.faultMask))

/-- R494, R550. Write the power-fail record over its older copy; it takes the contents of the first-failure latch. -/
def State.pfWrite (s : State) (complete : Bool) : State :=
  let s1 : State := { s with pwr := { s.pwr with pfSeq := (s.pwr.pfSeq + 1) % 2 ^ 32 } }
  let s2 := s1.storePut 0 (0x012000 + 0x1000 * (s1.pwr.pfSeq % 2)) (padTo 4096 (s1.pfBytes complete)) true
  { s2 with pwr := { s2.pwr with first := none } }

/-- R518. The bytes of the health record. -/
def State.healthBytes (s : State) : List (BitVec 8) :=
  withCrc (padTo 60 (leBytes 4 0x48544C48 ++ leBytes 4 s.mbox.healthSeq ++ leBytes 6 s.tt.fn ++ leBytes 2 0
    ++ leBytes 4 s.mbox.dirtyCount ++ leBytes 1 s.mbox.shutdown.toNat ++ leBytes 1 s.mbox.fwNext
    ++ leBytes 1 s.mbox.fwRunning ++ leBytes 1 0 ++ leBytes 4 s.start.coldStarts ++ leBytes 6 s.start.firstFn))

/-- R494, R518. Management pair B writes the health record over its older copy. -/
def State.healthWrite (s : State) : State :=
  let s1 : State := { s with mbox := { s.mbox with healthSeq := (s.mbox.healthSeq + 1) % 2 ^ 32 } }
  s1.storePut 5 (0x0F0000 + 0x40 * (s1.mbox.healthSeq % 2)) s1.healthBytes true

/-- R307. The successor of a generation. -/
def nextGen (g : Nat) : Nat := g % 255 + 1

/-- R312, R313. A key slot once the generation of a drawn key set has taken effect. -/
def KeySlot.advanced (k : KeySlot) : KeySlot :=
  match k.newKey with
  | none => k
  | some key => { k with
      cur := nextGen k.cur, prevKey := if k.op = 1 then k.curKey else 0, curKey := key, newKey := none
      prevLive := k.op == 1, lastFormat := if k.op = 2 then k.f0 else k.lastFormat }

/-- R317, R321. The entry of a key slot in the key record, which holds a new generation's key set before it takes effect. -/
def State.keyEntry (s : State) (n : Nat) : List (BitVec 8) :=
  let k := (s.keySlot n).advanced
  let prev := (k.cur + 253) % 255 + 1
  padTo 256 (leBytes 1 k.cur ++ leBytes 1 prev ++ leBytes 1 (b2n k.prevLive + 2 * k.op) ++ leBytes 5 k.boundary
    ++ leBytes 104 (Config.wrap s.sec.swkEpoch k.curKey).toNat
    ++ (if k.prevLive then leBytes 104 (Config.wrap s.sec.swkEpoch k.prevKey).toNat else leBytes 104 0))

/-- R321. The bytes of the key record. -/
def State.keyRecBytes (s : State) : List (BitVec 8) :=
  let p := s.sec.pass
  let swk (kind : Nat) (there : Bool) : List (BitVec 8) :=
    if there then leBytes 40 (Config.wrap (2 ^ 64 + kind) s.sec.swkEpoch).toNat else leBytes 40 0
  let hd := padTo 252 (leBytes 4 0x4B595243 ++ leBytes 4 s.sec.keyrecSeq ++ leBytes 6 s.tt.fn
    ++ leBytes 2 (b2n p.user.isSome + 2 * b2n p.master.isSome + 4 * b2n p.frozen)
    ++ leBytes 32 (Config.draw p.salt).toNat ++ leBytes 32 (Config.draw p.saltMaster).toNat
    ++ swk 0 p.user.isNone ++ swk 1 p.user.isSome ++ swk 2 p.master.isSome)
  let es := (List.range 65).flatMap s.keyEntry
  hd ++ leBytes 4 (crc32c (hd ++ es)).toNat ++ es

/-- R321, R322. SEC writes the key record over its older copy. -/
def State.keyRecWrite (s : State) : State :=
  let seq := (s.sec.keyrecSeq + 1) % 2 ^ 32
  let s1 : State := { s with sec := { s.sec with keyrecSeq := seq, keyrecFn := s.tt.fn, recSlots := s.sec.slots.map fun p => (p.1, p.2.advanced) } }
  (s1.count bSec 0x41 2).storePut 2 (0x0E0000 + 0x8000 * (s1.sec.keyrecSeq % 2)) s1.keyRecBytes true

/-- R386. The bytes of a role record. -/
def RoleRec.bytes (r : RoleRec) : List (BitVec 8) :=
  withCrc (padTo 60 (leBytes 4 0x46454E43 ++ leBytes 4 r.seq ++ leBytes 8 r.token ++ leBytes 8 r.session ++ leBytes 6 r.fn
    ++ leBytes 1 r.role ++ leBytes 1 (b2n r.clean + 2 * b2n r.full + 4 * b2n r.suspect) ++ leBytes 8 r.widx
    ++ leBytes 8 r.peer ++ leBytes 6 r.pairFn))

/-- R386. FRY writes its role record over its older copy, with the role (0 none, 1 lead, 2 follower, 3 stranded) and flags. -/
def State.roleWrite (s : State) (role : Nat) (clean full suspect : Bool) : State :=
  let old := s.fry.roleRec
  let r : RoleRec := { seq := ((old.map fun r => r.seq).getD 0 + 1) % 2 ^ 32, token := s.fry.token
                       session := s.fry.session, fn := s.tt.fn, role := role, clean := clean, full := full
                       suspect := suspect, widx := s.fry.widxSent, peer := s.fry.peerSerial
                       pairFn := (s.head 0).pairFn }
  ({ s with fry := { s.fry with roleRec := some r } } : State).storePut 1 (0x118000 + 0x40 * (r.seq % 2)) r.bytes true

/-! ### The first failure and the flush -/

/-- R532. Latch the first failure since the last cold start. -/
def State.latchFirst (s : State) (rail level : Nat) : State :=
  match s.pwr.first with
  | some _ => s
  | none => { s with pwr := { s.pwr with first := some (rail, level, s.tt.fn, s.uptimeUs) } }

/-- R510. The image and calibration windows close; writes not yet clocked are discarded; protection is restored. -/
def State.closeWindows (s : State) : State :=
  if s.pst.imgOpen || s.pst.calOpen then
    let s1 := s.storeDrop (if s.pst.calOpen then [6, 7] else [7])
    { s1 with pst := { s1.pst with imgOpen := false, calOpen := false, protect := if s.pairCfg then 1 else 2 } }
  else s

/-- R447, R548. The background command in progress ends. -/
def State.endBackground (s : State) : State := { s with mbox := { s.mbox with bg := none } }

/-- The page reads of an operation with the peer that has ended. -/
def State.dropTakes (s : State) : State :=
  let gone := s.fry.takes.map fun t => t.lpn
  { s with
    fry := { s.fry with takes := [] }
    media := { s.media with reads := s.media.reads.filter fun m => !(gone.any fun l => m.use == .page l) } }

/-- R235, R548. A flush is qualified: PWR enters FLUSH, the heads stop admitting and discard what was not accepted, windows
close, background commands end, the barge queues are lost. A flush that runs already takes what the new one asks beyond it (R106). From Moored the module wakes first. `cause` is that of R550. -/
def State.enterFlush (s0 : State) (cause : Nat) (halt onBank : Bool) : State :=
  if s0.pwr.flush.isSome then
    { s0 with pwr := { s0.pwr with
      onBank := s0.pwr.onBank || onBank
      flush := s0.pwr.flush.map fun f => { f with onBank := f.onBank || onBank, halt := f.halt || halt } } }
  else
    let s := s0.wakeMoored 3
    let f : Flush := { cause := cause, halt := halt, onBank := onBank, uptime := s.uptimeUs, dirty := s.allDirty, vres := s.pwr.vres }
    let host (r : HostReq) : Bool := match r.origin with
      | .mirror _ => false
      | .page => false
      | _ => true
    let s1 := (s.closeWindows.endBackground).pwrTo 5 (match cause with
      | 1 => 2
      | 5 => 2
      | 2 => 1
      | 4 => 4
      | _ => 3)
    let s1a := ((List.range 4).foldl (fun s n => s.dropReads (.barge n)) s1).dropTakes
    let s2 : State := { s1a with
      pwr := { s1.pwr with flush := some f, onBank := onBank, mooring := false, testRunning := false }
      cache := { s1.cache with waiting := s1.cache.waiting.filter fun r => !host r }
      tt := { s1.tt with flushMapDue := true }
      barge := s1.barge.map fun c => (c.1, { ({} : BargeCh) with out := c.2.out, crc := c.2.crc })
      mnt := { s1.mnt with freqTarget := none, recalBusy := false }
      hps := s1.hps.map fun h => (h.1, { h.2 with rate := 0, width := 0, held := [] }) }
    (s2.setDomains s2.flushDomain).record bPwr 322 0x0F21 .warning [(1, cause), (4, f.dirty), (2, f.vres)]

end Sys2Proof.Machine
end

