-- ==== Sys2Proof/Machine/MboxOps.lean ====
section
/-!
DEFINITION. The mailbox service (R447, R453): the paths a command takes, return codes, replies, refusals of vendor
commands, and background commands.
-/
namespace Sys2Proof.Machine

/-- R327. A generate call of the DRBG, which is seeded anew after every 2^20 of them. -/
def State.generate (s : State) : State :=
  ({ s with sec := { s.sec with drbgCalls := (s.sec.drbgCalls + 1) % 2 ^ 20 } } : State).count bSec 0x40 1

/-! Return codes, numbered as CXL 3.1 numbers them (log entry 21). -/
def rcSuccess : Nat := 0
/-- Background Command Started. -/
def rcBackground : Nat := 1
/-- Invalid Input. -/
def rcInput : Nat := 2
/-- Unsupported. -/
def rcUnsupported : Nat := 3
/-- Internal Error. -/
def rcInternal : Nat := 4
/-- Retry Required. -/
def rcRetry : Nat := 5
/-- Busy. -/
def rcBusy : Nat := 6
/-- Invalid Slot. -/
def rcSlot : Nat := 0xb
/-- Invalid Handle. -/
def rcHandle : Nat := 0xe
/-- Invalid Physical Address. -/
def rcAddress : Nat := 0xf
/-- Inject Poison Limit Reached. -/
def rcPoisonLimit : Nat := 0x10
/-- Invalid Security State. -/
def rcSecurity : Nat := 0x13
/-- Incorrect Passphrase. -/
def rcPassphrase : Nat := 0x14
/-- Invalid Payload Length. -/
def rcLength : Nat := 0x16

/-- R466. The path item of VENDOR_CMD_REFUSED: 0 a mailbox, 1 MCTP, 2 SPDM (the order of R447). -/
def pathVal : Master → Nat
  | .mctp => 1
  | .spdm => 2
  | _ => 0

/-- R464. The head a path acts as. -/
def pathHead : Master → Nat
  | .mboxHp1 => 1
  | .hp1 => 1
  | _ => 0

/-- R464. The path may name regions that either head owns. -/
def pathAny : Master → Bool
  | .mctp => true
  | .spdm => true
  | _ => false

/-- A command comes over a path of R447. -/
def isPath : Master → Bool
  | .mboxHp0 => true
  | .mboxHp1 => true
  | .mctp => true
  | .spdm => true
  | _ => false

/-- Answer a command. -/
def State.reply (s : State) (m : Master) (code : Nat) (payload : List (BitVec 8)) : State :=
  let s1 : State := if m = .mctp then { s with mbox := { s.mbox with mctpBusy := false } } else s
  (s1.emit (.reply (masterVal m) code payload)).count bMgt 0x41 1

/-- R284, R447, R507, R558. Take a mailbox command: nothing before Mailbox Interface Ready, during a flush on a host path, or
on a head not in use; Retry Required while pair A restarts; Unsupported in the unconfigured state unless `basic`. -/
def State.serve (s0 : State) (m : Master) (basic : Bool) (f : State → State) : Res :=
  let s := s0.begin
  let gone := !isPath m || !s.start.mboxReady || s.pwr.flush.isSome || (decide (m = .mboxHp1) && !s.dual)
  .next (if gone then s
    else if s.integ.romA then s.reply m rcRetry []
    else if s.pst.unconfigured && !basic then s.reply m rcUnsupported []
    else f s)

/-- R539. The command needs the media or the DRAM: it wakes the module from Moored. -/
def State.mboxWake (s : State) : State := s.wakeMoored 2

/-- R453. The return code of a DETAIL. -/
def detailCode (d : Nat) : Nat :=
  if d = 0 then rcSuccess else if d = 3 ∨ d = 0x11 then rcBusy else if d = 4 then rcRetry else rcInput

/-- R453. Record VENDOR_CMD_REFUSED. -/
def State.vendorRecord (s : State) (m : Master) (opcode detail : Nat) : State :=
  s.record (bHp (pathHead m)) (248 + 12 * pathHead m + 4) 0x0C42 .warning [(2, opcode), (4, detail), (1, pathVal m)]

/-- R453. Refuse a vendor command with a DETAIL. -/
def State.vendorRefuse (s : State) (m : Master) (opcode detail : Nat) : State :=
  (s.vendorRecord m opcode detail).reply m (detailCode detail) (leBytes 4 detail)

/-- R453. A vendor command succeeds: DETAIL 0 and its output. -/
def State.vendorOk (s : State) (m : Master) (out : List (BitVec 8)) : State := s.reply m rcSuccess (leBytes 4 0 ++ out)

/-- R454. The number in `n` bytes of a payload from byte `off`. -/
def pnum (p : List (BitVec 8)) (off n : Nat) : Nat := ofBytes ((p.drop off).take n)

/-- R453. Take a vendor command whose input payload has `len` bytes; one of another length is refused. -/
def State.vendor (s : State) (m : Master) (opcode len : Nat) (payload : List (BitVec 8)) (f : State → State) : Res :=
  s.serve m false fun s =>
    if payload.length ≠ len then (s.vendorRecord m opcode 0).reply m rcLength [] else f s

/-- R447. Start a background command, or answer Busy while one runs. -/
def State.background (s : State) (m : Master) (opcode : Nat) (f : State → State) : State :=
  match s.mbox.bg with
  | some _ => s.reply m rcBusy []
  | none =>
    let s1 : State := { s with mbox := { s.mbox with bg := some (pathHead m, opcode, s.tt.fn) } }
    (f s1).reply m rcBackground []

/-- R297, R135, R210, R449. Maintenance Needed. -/
def State.maintenanceNeeded (s : State) : Bool := s.notSft || s.xl.sparesLow || s.mnt.altHigh || (s.start.memActive && !s.pst.calValid)

/-- R449. Performance Degraded. -/
def State.performanceDegraded (s : State) : Bool :=
  !s.media.degraded.isEmpty || decide (s.cache.drams.length < 4) || ((List.range 16).any fun n => (s.cs n).removed)
    || s.sec.degraded

/-- R449. Hardware Replacement Needed. -/
def State.replacementNeeded (s : State) : Bool :=
  !s.media.lost.isEmpty || s.xl.full || !s.cache.uncachedDrams.isEmpty || s.media.lifeEnded || s.start.hwReplace

/-- R449. Hottest media die in °C. -/
def State.hottest (s : State) : Int :=
  match (List.range 144).filterMap fun k => (s.mch (k / 8)).temps.get? (k % 8) with
  | [] => 0
  | t :: ts => ts.foldl max t

/-- R449. Corrected Volatile Error Count. -/
def State.volatileErrors (s : State) : Nat := (List.range 4).foldl (fun n c => sat32 n (s.drc c).corr) 0

/-- R449. Corrected Persistent Error Count. -/
def State.persistentErrors (s : State) : Nat :=
  (List.range 18).foldl (fun n c => sat32 (sat32 (sat32 n (s.mch c).corr) (s.mch c).alt) (s.mch c).recon) 0

/-- R449. Media Status: 0 Normal, 1 Not Ready, 2 Write Persistency Lost, 3 Disabled. -/
def State.mediaStatus (s : State) : Nat :=
  if s.pst.unconfigured then 3
  else if s.sec.error || s.start.disabled then 2
  else if s.start.memActive = false then 1
  else 0

/-- R519. A field of the header of a firmware slot. -/
def State.fwHeader (s : State) (slot off n : Nat) : Nat := ofBytes (Mem.reads s.fwStore (0x2000000 * slot + off) n)

/-- R345. The approved-mode indicator. -/
def State.approved (s : State) : Bool :=
  !s.sec.error && !s.sec.degraded && s.sec.pass.user.isSome && s.sec.debug == 0 && s.fwHeader s.mbox.fwRunning 8 1 % 2 == 1

/-- R450. The level of an alert: life used, over-temperature, under-temperature, corrected volatile and corrected persistent
errors. A temperature that no tick has brought yet makes no alert. -/
def State.alertLevel (s : State) (i : Nat) : Nat :=
  let a := s.mbox.alerts
  let known := !(s.mch 0).temps.isEmpty
  let crit := match i with
    | 0 => decide (100 ≤ s.moduleLife)
    | 1 => known && decide (85 ≤ s.hottest)
    | 2 => known && decide (s.hottest ≤ 0)
    | _ => false
  let warn := match i with
    | 0 => decide (a.life ≤ s.moduleLife)
    | 1 => known && decide (a.overTemp ≤ s.hottest)
    | 2 => known && decide (s.hottest ≤ a.underTemp)
    | 3 => decide (a.volatileErr ≤ s.volatileErrors)
    | _ => decide (a.persistent ≤ s.persistentErrors)
  if crit then 2 else b2n (warn && a.enable.getLsbD i)

/-- R345, R449. The Get Health Info report. Where it shows the approved-mode indicator is not stated: bit 7 of the status
(log entry 21). -/
def State.healthInfo (s : State) : List (BitVec 8) :=
  let status := b2n s.maintenanceNeeded + 2 * b2n s.performanceDegraded + 4 * b2n s.replacementNeeded + 128 * b2n s.approved
  let lv (i : Nat) : Nat := s.alertLevel i
  let extra := lv 0 + 4 * max (lv 1) (lv 2) + 16 * lv 3 + 32 * lv 4
  leBytes 1 status ++ leBytes 1 s.mediaStatus ++ leBytes 1 extra ++ leBytes 1 s.moduleLife
    ++ leBytes 2 (signed 2 s.hottest) ++ leBytes 4 s.mbox.dirtyCount ++ leBytes 4 s.volatileErrors
    ++ leBytes 4 s.persistentErrors

end Sys2Proof.Machine
end

