-- ==== Sys2Proof/Machine/Keys.lean ====
section
/-!
DEFINITION. Keys (R299–R326, R342–R347): rekey and format with the repaver, key-record saves, SEC's service queues, IDE,
ferry key updates, self-tests between jobs, degraded operation, the error state, and debug unlock.
-/
namespace Sys2Proof.Machine

/-! ### The error state and degraded operation (R342–R344) -/

/-- R313, R168. Free a landing entry that TT has not granted; the write completions that wait for it are sent. -/
def State.freeLanding (s : State) (k : Nat) : State :=
  let l := s.entryK k
  let s1 := s.modEntry k fun l => { lpn := l.lpn, region := l.region, fn := l.fn }
  let out := s1.media.reads.map fun m => { m with joined := m.joined.filter fun r => !(l.waiters.any fun w => w.id == r.id) }
  let kept := out.filter fun m => !(m.entry == some k && m.joined.isEmpty)
  let reads := kept.map fun m => if m.entry == some k then { m with entry := none } else m
  let s2 : State := { s1 with media := { s1.media with reads := reads } }
  (l.waiters.foldl (fun s r => s.writeDone r true) s2).noteDirty (k / 512)

/-- The landing entries of the pages `sel` selects that TT has not granted. -/
def State.ungranted (s : State) (sel : Nat → Bool) : List Nat :=
  (s.cache.landing.filter fun p => (p.2.st == .filling || p.2.st == .ready) && sel p.2.lpn).map fun p => p.1

/-- R332, R344. The end of an admitted request of a head that the error state overtakes. -/
def State.cutShort (s : State) (r : HostReq) : State :=
  match r.kind with
  | .read => s.respondRead { r with outcome := 6 } 0 true
  | _ => s.respondWrite { r with outcome := 6 } false

/-- R332, R344. What the cache and the landing buffers hold is lost. The reads that heads wait for end, with poison for what they
were to serve, and the requests of heads that wait are turned away. -/
def State.errorDrop (s : State) : State :=
  let s1 := (s.cache.ways.filter fun p => p.2.used).foldl (fun s p => s.setWay (p.1 / 8) (p.1 % 8) p.2.dropped) s
  let s2 := (s1.ungranted fun _ => true).foldl State.freeLanding s1
  let cut := (s2.media.reads.flatMap fun m => m.joined).filter fun r => r.head.isSome
  let turned := s2.cache.waiting.filter fun r => r.head.isSome
  let s3 : State := { s2 with
    media := { s2.media with reads := s2.media.reads.filter fun m => m.use != .fill }
    cache := { s2.cache with waiting := s2.cache.waiting.filter fun r => r.head.isNone } }
  turned.foldl State.turnAway (cut.foldl State.cutShort s3)

/-- R344. SEC enters its error state: every key is zeroized, the DRBG stops, sessions and key operations end, and what has not
reached media is lost. The cause numbers the failures of R342 and R343 that name it as log entry 23 says. -/
def State.cryptoError (s : State) (cause : Nat) : State :=
  if s.sec.error then s
  else
    let zero (k : KeySlot) : KeySlot := { k with curKey := 0, prevKey := 0, newKey := none, passing := false }
    let s1 : State := { s with
      sec := { s.sec with error := true, drbgOk := false, cacheKey := false, ide := [], ferrySession := false
                          conns := [], sessions := [], erase := none, holdSlots := [], queue := [], blank := []
                          slots := s.sec.slots.map fun p => (p.1, zero p.2) }
      start := { s.start with errorLost := s.start.errorLost || decide (0 < s.allDirty) } }
    (s1.errorDrop).record bCry 295 0x0963 .fatal [(1, cause)]

/-- R343. Record a condition of degraded operation, by its row from 0. -/
def State.degradedOp (s : State) (row : Nat) : State :=
  ({ s with sec := { s.sec with degraded := true } } : State).record bCry 295 0x0962 .error [(1, row)]

/-- R342, R343. ENGINE_KAT of an engine: 0–7 media, 8 and 9 IDE of HP0 and HP1. -/
def execEngineKat (engine : Nat) (pass : Bool) (s0 : State) : Res :=
  let s := s0.begin
  .next (s.gate (!pass && decide (engine < 10) && !s.sec.enginesBad.contains engine) fun s =>
    let s1 : State := { s with sec := { s.sec with enginesBad := s.sec.enginesBad ++ [engine] } }
    let s2 := s1.record bCry 295 0x0961 .fatal [(1, 6), (1, engine)]
    if 8 ≤ engine then
      let h := engine - 8
      let s3 : State := { s2 with sec := { s2.sec with
        ide := (List.range 8).foldl (fun m k => Kv.mod m (h * 8 + k) {} fun x => { x with
          insecure := x.active.isSome || x.insecure, active := none }) s2.sec.ide } }
      (s3.modHp h fun p => { p with rasInternal := p.rasInternal || s3.sec.ide.any fun q => q.1 / 8 == h && q.2.insecure }).degradedOp 3
    else if s2.sec.enginesBad.contains (engine ^^^ 1) then s2.cryptoError 2
    else s2.degradedOp 1)

/-- R343. ENTROPY_TEST_FAIL: the DRBG stops. -/
def execEntropyTestFail (s0 : State) : Res :=
  let s := s0.begin
  .next (s.gate s.sec.drbgOk fun s => ({ s with sec := { s.sec with drbgOk := false } } : State).degradedOp 0)

/-! ### Pages of a slot -/

/-- Pages per GiB. -/
def gibPages : Nat := 262144

/-- R115, R314. The valid regions that name a slot, as first LPN and number of pages. -/
def State.slotRegions (s : State) (k : Nat) : List (Nat × Nat) :=
  ((List.range 64).map fun n => s.region bXl n).filterMap fun r =>
    if r.valid && r.keySlot == k then some (r.base * gibPages, r.size * gibPages) else none

/-- R314. The lowest LPN of the slot's regions at or above `l`. -/
def State.nextLpn (s : State) (k l : Nat) : Option Nat :=
  (s.slotRegions k).foldl (fun m r =>
    if l < r.1 + r.2 then some (min (max l r.1) (m.getD (max l r.1))) else m) none

/-- The slot names a mirrored region. -/
def State.slotMirrored (s : State) (k : Nat) : Bool :=
  s.pairCfg && (List.range 64).any fun n =>
    let r := s.region bXl n
    r.valid && r.keySlot == k && r.mirror

/-- An LPN lies in the slot's regions. -/
def State.inSlot (s : State) (k lpn : Nat) : Bool := s.slotOfLpn lpn == k

/-! ### Rekey and format (R311–R317) -/

/-- R311. The result code a key operation is refused with; 0 when it is taken. `atFn` tells that it came through
CONFIG_AT_FN. -/
def State.keyOpCheck (s : State) (k : Nat) (atFn : Bool) : Nat :=
  if (s.sec.queue.any fun q => q.1 == k) || (s.keySlot k).op != 0 then 1
  else if (s.slotRegions k).isEmpty then 2
  else if s.slotMirrored k && !atFn && (s.fry.role == .follower || s.fry.pstate == .stranded) then 3
  else if !s.sec.drbgOk || s.sec.error then 4
  else 0

/-- R311. Record KEYOP_REFUSED. -/
def State.keyRefused (s : State) (k op code : Nat) : State :=
  s.record bSec 289 0x0911 .warning [(1, k), (1, op), (1, code)]

/-- R311. Queue a key operation. -/
def State.keyQueue (s : State) (k : Nat) (format : Bool) : State :=
  { s with sec := { s.sec with queue := s.sec.queue ++ [(k, format)] } }

/-- R313. Drop what the cache and the landing buffers hold of the pages `sel` selects. Block reads under way serve the requests that were
admitted before, and fill no way. -/
def State.dropPages (s : State) (sel : Nat → Bool) : State :=
  let keys := (s.cache.ways.filter fun p => p.2.used && sel p.2.lpn).map fun p => p.1
  let s1 := s.dropWays keys 2 none
  let s2 := (s1.ungranted sel).foldl State.freeLanding s1
  let part (m : MediaRead) : MediaRead := if m.use == .fill && sel m.lpn then { m with way := none, apart := true } else m
  { s2 with media := { s2.media with reads := s2.media.reads.map part } }

/-- R395. A lead outside the pair that formats a slot marks every page of the slot's mirrored regions. -/
def State.formatMark (s : State) (sel : Nat → Bool) : State :=
  if s.fry.pstate = .splitLead then
    (List.range 64).foldl (fun s n =>
      let r := s.region bXl n
      s.gate (r.valid && r.mirror && sel r.keySlot) fun s => s.markSpan (r.base * gibPages) ((r.base + r.size) * gibPages)) s
  else s

/-- R299. Draw a key set: the next free value names it. -/
def State.drawKey (s : State) : State × Nat := (({ s with draws := s.draws + 1 } : State).generate, s.draws + 1)

/-- R312, R313, R317. The repaver takes an operation: a format's pages are held and dropped, a key set is drawn, the key record
is written, and the generation advances at the next tick. -/
def State.keyStart (s : State) (k : Nat) (format : Bool) : State :=
  let op := if format then 2 else 1
  let s1 : State := if format then
      (({ s with sec := { s.sec with holdSlots := s.sec.holdSlots ++ [k] } } : State).dropPages (s.inSlot k)).formatMark (· == k)
    else s
  let t := s1.drawKey
  let s2 := t.1.modKeySlot k fun x => { x with
    op := op, newKey := some t.2, f0 := s.tt.fn + 1, passing := false, pages := 0, boundary := 0 }
  s2.keyRecWrite.record bSec 289 0x0912 .info [(1, k), (1, op), (6, s.tt.fn + 1), (1, nextGen (s.keySlot k).cur)]

/-- R312, R479. KEYOP_START: the repaver takes the operation at the head of its queue, unless one runs; while a rebuild runs it
waits. -/
def execKeyopStart (s0 : State) : Res :=
  let s := s0.begin
  match s.sec.queue with
  | [] => .next s
  | (k, format) :: rest =>
    if (s.sec.slots.any fun p => p.2.op != 0) then .next s
    else
      let a := if format then 6 else 5
      match s.blocker a with
      | some b => .next (s.defer a b)
      | none => .next (s.gate (!s.mnt.waiting.has a && s.sec.drbgOk && !s.sec.error && s.pwr.flush.isNone) fun s =>
          ({ s with sec := { s.sec with queue := rest } } : State).keyStart k format)

/-- R312, R313. GENERATION_ADVANCE: at F0 the slot's generation becomes its successor, and held requests may be admitted. -/
def State.genAdvance (s : State) (k : Nat) : State :=
  let x := s.keySlot k
  s.gate (x.newKey.isSome && decide (x.f0 ≤ s.tt.fn)) fun s =>
    let s1 := s.modKeySlot k KeySlot.advanced
    { s1 with sec := { s1.sec with holdSlots := s1.sec.holdSlots.filter fun h => h != k } }

/-- R314. REPAVER_PASS_START of a slot, at the tick of F0 + 2. -/
def execRepaverPassStart (slot : Nat) (s0 : State) : Res :=
  let s := s0.begin
  let x := s.keySlot slot
  let ok := decide (slot < 64) && x.op != 0 && x.newKey.isNone && !x.passing && decide (x.f0 + 2 ≤ s.tt.fn)
    && !(s.sec.slots.any fun p => p.2.passing)
  .next (s.gate ok fun s =>
    s.modKeySlot slot fun y => { y with passing := true, boundary := (s.nextLpn slot 0).getD userPages })

/-- The slot whose pass runs. -/
def State.passSlot (s : State) : Option Nat := (s.sec.slots.find? fun p => p.2.passing).map fun p => p.1

/-- R475. The next batch of pages of the pass: at most REPAVE of them, stopping short of a district with a gap move in
flight. -/
def State.repaverBatch (s : State) : List Nat :=
  match s.passSlot with
  | none => []
  | some k =>
    let n := max 1 (s.regF bMnt 0x020 16 6)
    let walk (a : List Nat × Option Nat) (_ : Nat) : List Nat × Option Nat :=
      match a.2 with
      | none => a
      | some l => if s.districtMoving (distOf l).1 then (a.1, none) else (a.1 ++ [l], s.nextLpn k (l + 1))
    ((List.range (min n 32)).foldl walk ([], s.nextLpn k (s.keySlot k).boundary)).1

/-- R315. A page of an older generation moves on: an erase format blanks it, and otherwise it is copied to be rewritten. -/
def State.repaverMove (s : State) (lpn op : Nat) : State :=
  let set := s.setOf lpn
  let region := (s.regionAt bXl (lpn * 4096)).getD 0
  let copy (s : State) : State :=
    let n := s.sliceOf set
    let t := s.takeEntry n lpn region true .rekey
    ((t.1.fillFromSlice t.2).mergeReads t.2).noteDirty n
  if op = 2 then { s with sec := { s.sec with blank := s.sec.blank ++ [lpn] } }
  else match s.findWay lpn with
    | some way => if (s.way set way).isDirty then (s.copyOut set way true .rekey).1 else copy s
    | none => copy s

/-- R314. The page whose GEN the repaver reads next: that after the last it reads, or at the boundary. -/
def State.repaverNext (s : State) (k : Nat) : Option Nat :=
  let last := s.media.reads.foldl (fun a m => match m.use with
    | .repave l => some (max l (a.getD l))
    | _ => a) none
  match last with
  | some l => s.nextLpn k (l + 1)
  | none => s.nextLpn k (s.keySlot k).boundary

/-- R314. The page whose read this is has to move on: its line is of an older generation, or no step of the ladder could read it (log
entry 129). A crossing of its stripe that overtook the read wrote it under the current generation (R315). -/
def State.repaverOld (s : State) (k : Nat) (m : MediaRead) : Bool :=
  match m.word with
  | some w => w.gen != 0 && w.gen != (s.keySlot k).cur
  | none => m.step == 4

/-- R314, R315. The page at the boundary has been read: it is rewritten or blanked when it carries an older generation, and the boundary
moves past it. -/
def State.repaverTake (s : State) (k lpn : Nat) (m : MediaRead) : State :=
  let x := s.keySlot k
  let old := s.repaverOld k m
  let s1 := (s.dropReads m.use).gate (m.step == 4) fun s => s.uncorrectable m.psn m.pos 8 0
  let s2 := s1.modKeySlot k fun y => { y with
    boundary := (s.nextLpn k (lpn + 1)).getD userPages, pages := y.pages + b2n (old && x.op == 1) }
  s2.gate old fun s => s.repaverMove lpn x.op

/-- R314, R475. The read of GEN of the batch's next page begins. -/
def State.repaverRead (s : State) (k : Nat) : State :=
  match s.repaverNext k with
  | none => s
  | some lpn =>
    let ok := decide (0 < s.sec.batch) && s.media.rebuilds.isEmpty && s.pwr.flush.isNone && s.pwr.state != 4
      && !s.districtMoving (distOf lpn).1
    let psn := s.readPsn lpn
    s.gate ok fun s =>
      ((({ s with sec := { s.sec with batch := s.sec.batch - 1 } } : State).translates lpn 1).count bMnt 0x43 1).maintRead
        (.repave lpn) psn (blockPos psn 0)

/-- R314, R315, R475. REPAVER_PAGE: the page at the boundary is taken once its read has ended; otherwise the read of the batch's next page
begins. -/
def execRepaverPage (cyc : Nat) (s0 : State) : Res :=
  let s := s0.begin.at cyc
  match s.passSlot with
  | none => .next s
  | some k =>
    match s.nextLpn k (s.keySlot k).boundary with
    | none => .next s
    | some lpn =>
      match (s.readsOf (.repave lpn)).find? MediaRead.ended with
      | some m =>
        let room := !s.repaverOld k m || (s.keySlot k).op == 2 || s.landingRoom (s.sliceOf (s.setOf lpn)) true
        .next (s.gate (room && s.pwr.flush.isNone) fun s => s.repaverTake k lpn m)
      | none => .next (s.repaverRead k)

/-- R316. The pass of a slot has ended: no page is left, and its last crossing has committed. -/
def State.passEnded (s : State) (k : Nat) : Bool :=
  let x := s.keySlot k
  x.passing && (s.nextLpn k x.boundary).isNone && !(s.sec.blank.any fun l => s.inSlot k l)
    && !(s.cache.landing.any fun p => p.2.kind == .rekey && p.2.busy && p.2.st != .released)
    && !(s.media.crossings.any fun c => match c.work with
        | .blank l => s.inSlot k l
        | _ => false)

/-- R316. The end of a pass: the previous generation's keys are zeroized, the key record is written, and CRY records it. -/
def State.passDone (s : State) (k op code : Nat) : State :=
  s.gate (decide (k < 64) && (s.keySlot k).op == op && s.passEnded k) fun s =>
    let x := s.keySlot k
    let s1 := s.modKeySlot k fun y => { y with
      prevLive := false, prevKey := 0, op := 0, passing := false, boundary := 0, pages := 0 }
    s1.keyRecWrite.record bSec 289 code .info [(1, k), (4, x.pages), (4, s.tt.fn - x.f0)]

/-- R316. REKEY_DONE. -/
def execRekeyDone (slot : Nat) (s : State) : Res := .next (s.begin.passDone slot 1 0x0913)

/-- R316. FORMAT_DONE. -/
def execFormatDone (slot : Nat) (s : State) : Res := .next (s.begin.passDone slot 2 0x0914)

/-- R317. REPAVER_BOUNDARY_SAVE, every 2^20 frames. -/
def execRepaverBoundarySave (s0 : State) : Res :=
  let s := s0.begin
  .next (s.gate (s.tt.fn % 2 ^ 20 == 0 && s.passSlot.isSome) State.keyRecWrite)

/-- R328, R340. The session is one of the Crypto Officer. -/
def State.coSession (s : State) (id : Nat) : Bool := s.sec.sessions.any fun x => x.id == id && x.co && x.mutualAuth

/-- R394. Propose a mirrored change: 1 region attributes, 2 rekey, 3 format, at a target FN 8 frames ahead. -/
def State.proposeAtFn (s : State) (change subject value : Nat) : State :=
  let id := s.fry.atFnNext % 255 + 1
  let a : AtFn := { change := change, id := id, target := s.tt.fn + 8, subject := subject, value := value, stage := 1 }
  let s1 : State := { s with fry := { s.fry with atFn := some a, atFnNext := id } }
  (s1.atFnNote a.target id 1 false).ferry 8 [1, change, id, a.target, subject, value] []

/-- R311, R318, R453, R455. KEY_REKEY and KEY_FORMAT. -/
def State.keyCommand (s : State) (m : Master) (session : Nat) (payload : List (BitVec 8)) (format : Bool) : State :=
  let opcode := if format then 0xC061 else 0xC060
  let op := if format then 2 else 1
  let slot := pnum payload 0 1
  if m ≠ .spdm ∨ s.coSession session = false then (s.vendorRecord m opcode 0).reply m rcSecurity []
  else if 64 ≤ slot || pnum payload 1 3 != 0 then s.vendorRefuse m opcode 6
  else if s.sec.erase.isSome then s.vendorRefuse m opcode 3
  else
    let s1 := s.mboxWake
    let code := s1.keyOpCheck slot false
    if code ≠ 0 then (s1.keyRefused slot op code).vendorRefuse m opcode (0x10 + code)
    else if s1.slotMirrored slot && s1.joined && s1.isLead then
      if s1.fry.atFn.isSome then s1.vendorRefuse m opcode 3
      else
        let s2 := s1.proposeAtFn (if format then 3 else 2) slot 0
        { s2 with mbox := { s2.mbox with owed := some (m, opcode) } }
    else
      let now := s1.sec.queue.isEmpty && !(s1.sec.slots.any fun p => p.2.op != 0)
      let f0 := if now then s1.tt.fn + 1 else (Config.draw s1.draws).toNat % 2 ^ 48
      let s2 : State := if now then s1 else { s1 with draws := s1.draws + 1 }
      (s2.keyQueue slot format).vendorOk m (leBytes 6 f0)

/-- R311. KEY_REKEY. -/
def execKeyRekey (m : Master) (session : Nat) (payload : List (BitVec 8)) (s : State) : Res :=
  s.vendor m 0xC060 4 payload fun s => s.keyCommand m session payload false

/-- R311. KEY_FORMAT. -/
def execKeyFormat (m : Master) (session : Nat) (payload : List (BitVec 8)) (s : State) : Res :=
  s.vendor m 0xC061 4 payload fun s => s.keyCommand m session payload true

/-! ### SEC's service queues (R301) -/

/-- R301. SEC_SERVICE_REQUEST: pair A pushes a request, and SEC answers it. The result is not stated (log entry 2); its first
byte is the status, 0. -/
def execSecServiceRequest (word : BitVec 512) (s0 : State) : Res :=
  let s := s0.begin
  .next (s.gate (s.live bSec) fun s =>
    let s1 := s.pushQ .secRequest word true
    match (s1.getQ .secRequest).words with
    | [] => s1
    | _ =>
      let s2 := s1.setQ .secRequest ((s1.getQ .secRequest).pop).1
      let r := (Config.draw s2.draws).toNat / 256 * 256
      ({ s2 with draws := s2.draws + 1 } : State).pushQ .secResponse (BitVec.ofNat 512 r) true)

/-! ### Link keys (R323–R325) -/

/-- Change an IDE stream: head, stream (0 cachemem, 1 link, 2 selective), direction. -/
def State.modIde (s : State) (head stream dir : Nat) (f : IdeStream → IdeStream) : State :=
  { s with sec := { s.sec with ide := Kv.mod s.sec.ide ((head * 4 + stream) * 2 + dir) {} f } }

/-- The IDE stream exists and its head's engine is in service. -/
def State.ideOk (s : State) (head stream dir : Nat) : Bool :=
  decide (head < 2) && decide (stream < 3) && decide (dir < 2) && !s.sec.enginesBad.contains (8 + head) && !s.sec.error

/-- R324. IDE_FAIL of a head's CXL.cachemem stream: only a key set programmed from then on starts it again (log entry
157). -/
def execIdeFail (head set check : Nat) (s0 : State) : Res :=
  let s := s0.begin
  .next (s.gate (decide (head < 2) && (s.sec.ide.getD (head * 8) {}).active.isSome) fun s =>
    let bad (x : IdeStream) : IdeStream := { x with insecure := true, active := none, prog0 := false, prog1 := false }
    (((s.modIde head 0 0 bad).modIde head 0 1 bad).modHp head fun p => { p with rasInternal := true }).record bCry (290 + head)
      0x0921 .error [(1, 0), (1, set), (1, check)])

/-- R323. KEY_PROG inside a secured session: a key set of a stream and direction is programmed. -/
def execKeyProg (session head stream set dir : Nat) (s0 : State) : Res :=
  let s := s0.begin
  .next (s.gate (s.ideOk head stream dir && decide (set < 2) && s.sec.sessions.any fun x => x.id == session) fun s =>
    s.modIde head stream dir fun x => if set = 0 then { x with prog0 := true } else { x with prog1 := true })

/-- R323, R324. K_SET_GO: a programmed key set starts, and the stream is secure again. -/
def execKSetGo (session head stream set dir : Nat) (s0 : State) : Res :=
  let s := s0.begin
  let x := s.sec.ide.getD ((head * 4 + stream) * 2 + dir) {}
  let loaded := if set = 0 then x.prog0 else x.prog1
  let ok := s.ideOk head stream dir && decide (set < 2) && loaded && s.sec.sessions.any fun x => x.id == session
  .next (s.gate ok fun s =>
    (s.modIde head stream dir fun x => { x with active := some (set == 1), insecure := false }).record bCry (290 + head) 0x0922
      .info [(1, stream), (1, set), (1, dir)])

/-- R299, R323. K_SET_STOP: the key set stops and its key is zeroized. -/
def execKSetStop (session head stream set dir : Nat) (s0 : State) : Res :=
  let s := s0.begin
  let ok := s.ideOk head stream dir && decide (set < 2) && s.sec.sessions.any fun x => x.id == session
  .next (s.gate ok fun s => s.modIde head stream dir fun x =>
    { x with prog0 := x.prog0 && set != 0, prog1 := x.prog1 && set != 1
             active := if x.active = some (set == 1) then none else x.active })

/-- R325. FERRY_KEY_UPDATE by the lead, once 2^36 flits have passed in a direction since the last. -/
def execFerryKeyUpdate (s0 : State) : Res :=
  let s := s0.begin
  let due := decide (2 ^ 36 * (s.sec.ferryUpdates + 1) ≤ max s.sec.ferryTx s.sec.ferryRx)
  .next (s.gate (s.sec.ferrySession && s.isLead && due) fun s =>
    ({ s with sec := { s.sec with ferryUpdates := s.sec.ferryUpdates + 1 } } : State).record bCry 292 0x0932 .info
      [(4, s.sec.ferryUpdates + 1)])

/-! ### Debug (R346) -/

/-- R346. DEBUG_UNLOCK: a signed nonce whose key hash matches an OTP debug hash unlocks a level until the next cold start. -/
def execDebugUnlock (level key : Nat) (valid : Bool) (s0 : State) : Res :=
  let s := s0.begin
  .next (s.gate (valid && (level == 1 || level == 2)) fun s =>
    ({ s with sec := { s.sec with debug := max s.sec.debug level } } : State).record bCry 296 0x0971 .warning
      [(1, level), (1, key)])

end Sys2Proof.Machine
end

