-- ==== Sys2Proof/Machine/Integrity.lean ====
section
/-!
DEFINITION. Integrity (R263–R298): sweeps of SRAM, DRAM and media, the logical passes, blocks taken from the peer,
datapath failures, the MAC window, and the management pairs.
-/
namespace Sys2Proof.Machine

/-! ### Landing entries of damaged pages (R265, R281, R283) -/

/-- The slice that serves a page. -/
def State.pageSlice (s : State) (lpn : Nat) : Nat := s.sliceOf (s.setOf lpn)

/-- A landing entry of a page whose missing sectors of blocks `js` are given, the rest coming from the cache, older entries
and media (R172); the page's dirty sectors leave the cache with it. The answer holds the sectors `f` supplied. -/
def State.landWith (s : State) (lpn : Nat) (js : List Nat) (f : Nat → Sector × Bool) : State × BitVec 64 :=
  let set := s.setOf lpn
  let t := s.takeEntry (s.pageSlice lpn) lpn ((s.regionAt bXl (lpn * 4096)).getD 0) true .sweep
  let s1 := t.1.fillFromSlice t.2
  let new := (js.foldl (fun m j => m ||| blockMask j 15) 0) &&& ~~~(s1.entryK t.2).valid
  let s2 := s1.modEntry t.2 fun l => (bitList new).foldl (fun l i => l.put i (f i).1 (f i).2) l
  let s3 := s2.mergeReads t.2
  let s4 := match s3.findWay lpn with
    | some w => s3.setWay set w { s3.way set w with dirty := 0 }
    | none => s3
  (s4.noteDirty (s4.pageSlice lpn), new)

/-- R283. What the sweeper does with the positions `ps` of a stripe that no step of the ladder could read: it asks the peer for their
blocks in a mirrored region of a joined pair, or else forms a landing entry with their sectors poisoned. -/
def State.sweepLost (s : State) (psn : Nat) (ps : List Nat) : State :=
  let js := ps.filterMap (posBlock psn)
  let note (s : State) (m : BitVec 64) : State := ps.foldl (fun s q =>
    s.uncorrectable psn q 4 (match posBlock psn q with
      | some j => blockBits m j
      | none => 0)) s
  match s.lpnAt psn with
  | some lpn =>
    let peer := s.joined && (match s.regionAt bXl (lpn * 4096) with
      | some n => s.mirrored bXl n
      | none => false)
    if js.isEmpty then note s 0
    else if peer then s.askPeer lpn js
    else
      let t := s.landWith lpn js fun _ => (0, true)
      (note t.1 t.2).poisonPage .internal lpn t.2
  | none => note s 0

/-- Room for the landing entry a sweep of this stripe may form. -/
def State.sweepRoom (s : State) (psn : Nat) : Bool :=
  match s.lpnAt psn with
  | some lpn => s.landingRoom (s.pageSlice lpn) true
  | none => true


/-! ### The physical media pass (R287, R288) -/

/-- Row bands hold 2^25 PSNs; the last stripe of the pass. -/
def sweepEnd : Nat := 7375487487

/-- R288, R293. The pass time in frames. -/
def State.mediaPass (s : State) : Nat :=
  let d := s.regF bMnt 0x100 0 4
  (if d = 0 ∨ 7 < d then 7 else d) * 21093750000

/-- R287, R293. The time of a DRAM pass in frames. -/
def State.dramPass (s : State) : Nat :=
  let h := s.regF bMnt 0x100 8 4
  (if h = 0 ∨ 6 < h then 6 else h) * 878906250

/-- R287, R291, R293. A pass is behind its time: a logical pass that was recorded, a physical pass of a channel that is in use, or a pass
over DRAM or SRAM (10 s). -/
def State.sweepBehind (s : State) : Bool :=
  let late (start time : Nat) : Bool := decide (start + time < s.tt.fn)
  !s.integ.behind.isEmpty || late s.integ.dramStart s.dramPass || late s.integ.sramStart 2441407
    || (List.range 18).any fun c => ((List.range 8).any fun d => s.role c d != 31) && late (s.integ.sweepStart.getD c 0) s.mediaPass

/-- R288. At a band's first stripe, whether this pass rewrites it: its age at the start of the next pass over it would
exceed its interval, or R472's wake from Moored finds it due within 48 h. -/
def State.sweepBand (s : State) (c psn : Nat) : State :=
  if psn % 33554432 = 0 then
    let b := psn / 33554432
    let x := (s.mch c).bands.getD b {}
    let wake := if s.mnt.refreshWake then max s.mediaPass 42187500000 else s.mediaPass
    let due := decide (s.interval c b < x.age s.tt.fn b + wake)
    let rest := s.integ.rewriting.filter fun k => k != c
    if due then ({ s with integ := { s.integ with rewriting := rest ++ [c] } } : State).bandBegin c b
    else { s with integ := { s.integ with rewriting := rest } }
  else s

/-- The sweeper's position of a channel moves past a stripe; at the end of the pass a new one begins. A stripe of a band
being rewritten that owes no rewrite counts as reached. -/
def State.sweepNext (s0 : State) (c psn : Nat) : State :=
  let owed := s0.media.rewrites.any fun w => w.kind == .refresh && w.mch == c && w.psn == psn
  let s := s0.gate (s0.integ.rewriting.contains c && !owed) fun s => s.bandReach c psn
  let n := skipMargin (psn + 1)
  if n ≤ sweepEnd then { s with integ := { s.integ with sweepPos := s.integ.sweepPos.set c n } }
  else { s with integ := { s.integ with
    sweepPos := s.integ.sweepPos.set c 0, sweepStart := s.integ.sweepStart.set c s.tt.fn
    mediaPasses := Kv.mod s.integ.mediaPasses c 0 (· + 1) } }

/-- R206, R287. The ladder of a sweep's read has ended: that of a free spare's codeword, which no other can give, at step 2. -/
def MediaRead.sweptOut (m : MediaRead) : Bool := m.ended || (decide (17 ≤ m.pos) && m.step == 2 && !m.bad.isEmpty)

/-- R283, R288. The codeword of a physical pass has been read: it is rewritten in place when its band is due, a lost one is handled, and
the pass moves on. -/
def State.sweepTake (s : State) (c : Nat) (m : MediaRead) : State :=
  let s1 := (s.dropReads m.use).count bMnt 0x40 1
  let s2 := s1.gate (m.step == 4) fun s => s.sweepLost m.psn [m.pos]
  let s3 := match m.word with
    | some w => s2.gate (s2.integ.rewriting.contains c) fun s =>
        let stale (x : CwWrite) : Bool := x.kind == RewriteKind.corrective && x.mch == c && x.psn == m.psn && x.slot.isNone
        let s' : State := { s with media := { s.media with rewrites := s.media.rewrites.filter fun x => !stale x } }
        (s'.oweRewrite .refresh c m.psn w).count bMnt 0x41 1
    | none => s2
  s3.sweepNext c m.psn

/-- R287, R480. The physical pass of a channel passes over a stripe: the die has failed, or it is a rebuild target and the stripe lies at
or above its boundary. -/
def State.sweepSkips (s : State) (c psn : Nat) : Bool :=
  let d := dieOf psn
  s.role c d == 31 || (s.mch c).failed
    || ((s.mch c).rebuilding.contains d && decide ((s.mch c).rebuild.getD d 0 ≤ psn))

/-- R287, R288. The read of a codeword of a channel begins; a free spare serves no position. -/
def State.sweepBegin (s : State) (c psn : Nat) : State :=
  let q := s.role c (dieOf psn)
  if q < 17 then s.maintRead (.sweep c) psn q
  else
    let m : MediaRead := { id := s.media.nextId, kind := .maintenance, use := .sweep c, lpn := userPages, block := 16, psn := psn
                           pos := q, chans := [c], slot := s.now, waits := true }
    { s with media := { s.media with reads := s.media.reads ++ [m], nextId := s.media.nextId + 1 } }

/-- R72, R287, R288, R480. SWEEP_MEDIA_READ: the read of the codeword at the channel's position begins; once its ladder has ended, the pass
moves on. -/
def execSweepMediaRead (cyc mch : Nat) (s0 : State) : Res :=
  let s := s0.begin.at cyc
  let psn := s.integ.sweepPos.getD mch 0
  .next (s.gate (decide (mch < 18)) fun s =>
    match s.readsOf (.sweep mch) with
    | m :: _ => s.gate (m.sweptOut && (m.step != 4 || s.sweepRoom m.psn)) fun s => s.sweepTake mch m
    | [] => s.gate s.enginesRun fun s =>
        let s1 := s.sweepBand mch psn
        if s1.sweepSkips mch psn then s1.sweepNext mch psn else s1.sweepBegin mch psn)

/-! ### Logical passes and Scan Media (R289–R292) -/

/-- R289. The time of a region's logical pass in frames; 0 for class 0. -/
def classFrames (k : Nat) : Nat :=
  match k with
  | 1 => 21093750000
  | 2 => 5273437500
  | 3 => 878906250
  | _ => 0

/-- R293. LOGICAL_CAP. -/
def State.logicalCap (s : State) : Nat := min 16 (max 1 (s.regF bMnt 0x100 16 5))

/-- R289, R292. The pages of a logical pass: those of a region, or of the scan (64). -/
def State.passRange (s : State) (r : Nat) : Option (Nat × Nat) :=
  if r = 64 then s.integ.scan
  else
    let g := s.region bXl r
    if r < 64 ∧ g.valid = true ∧ 0 < classFrames g.sweep then some (g.base * gibPages, g.size * gibPages) else none

/-- R289. A pass of a region may start: its last began a whole interval ago. -/
def State.passDue (s : State) (r : Nat) : Bool :=
  r == 64 || match s.integ.logicalStart.get? r with
    | some f => decide (f + classFrames (s.region bXl r).sweep ≤ s.tt.fn)
    | none => true

/-- R291, R293. A pass falls behind: SWEEP_BEHIND once for it, with its target and projected times in s. -/
def State.sweepLate (s : State) (r pos len : Nat) : State :=
  let start := s.integ.logicalStart.getD r s.tt.fn
  let target := classFrames (s.region bXl r).sweep
  let spent := s.tt.fn - start
  if r < 64 ∧ target < spent ∧ s.integ.behind.contains r = false then
    let proj := spent * len / max 1 pos
    ({ s with integ := { s.integ with behind := s.integ.behind ++ [r] } } : State).record bMnt 336 0x0851 .warning
      [(1, r), (4, target / 244140), (4, proj / 244140)]
  else s

/-- R290. Data `ws` and parity `p` of a stripe whose 17 codewords all passed: the parity is rewritten when it does not match. -/
def State.parityWith (s : State) (psn : Nat) (ws : List Codeword) (p : Codeword) : State :=
  let q := parityPos psn
  let x := parityOf ws
  if p.data = x.data ∧ p.mac = x.mac ∧ p.poison = x.poison then s
  else (s.oweRewrite .parityFix (s.assigned (dieOf psn) q) psn { x with home := p.home, internal := p.internal }).record bMnt 336
    0x0852 .warning [(5, psn), (1, q)]

/-- R290. The parity of a stripe is checked against its data, as media holds them. -/
def State.parityCheck (s : State) (psn : Nat) : State :=
  let at0 (q : Nat) : Codeword := s.cell (s.assigned (dieOf psn) q) psn
  s.parityWith psn ((List.range 16).map fun j => at0 (blockPos psn j)) (at0 (parityPos psn))

/-- R292. A scan notes the sectors of a page that are poisoned. -/
def State.scanNote (s : State) (lpn : Nat) : State :=
  let mine := s.integ.list.filter fun r => decide (lpn * 4096 ≤ r.dpa) && decide (r.dpa < lpn * 4096 + 4096)
  { s with integ := { s.integ with scanHits := s.integ.scanHits ++ mine } }

/-- R289. A pass begins, at its first page. -/
def State.passBegin (s : State) (region : Nat) : State :=
  { s with integ := { s.integ with
    logicalStart := s.integ.logicalStart.set region s.tt.fn
    behind := s.integ.behind.filter fun b => b != region } }

/-- R289. A logical read of a page begins: the 17 codewords of its stripe. -/
def State.logicalBegin (s : State) (region lpn : Nat) : State :=
  let s1 : State := { s with integ := { s.integ with logicalNow := s.integ.logicalNow + 1 } }
  let s2 := (s1.count bMnt 0x40 17).translates lpn 17
  let psn := s2.readPsn lpn
  (List.range 17).foldl (fun s q => s.maintRead (.logical region) psn q) s2

/-- R290. All 17 codewords of a logical read passed: the parity is checked. -/
def State.logicalCheck (s : State) (psn : Nat) (rs : List MediaRead) : State :=
  let word (q : Nat) : Option Codeword := (rs.find? fun m => m.pos == q).bind fun m => m.word
  let ws := (List.range 16).filterMap fun j => word (blockPos psn j)
  match word (parityPos psn) with
  | some p => s.gate (ws.length == 16) fun s => s.parityWith psn ws p
  | none => s

/-- R290–R292. The 17 blocks of a page have been read; the pass moves on to the next page. -/
def State.logicalTake (s : State) (region lpn psn pos len : Nat) : State :=
  let rs := s.readsOf (.logical region)
  let lost := (rs.filter fun m => m.step == 4).map fun m => m.pos
  let s1 := (s.dropReads (.logical region)).logicalCheck psn rs
  let s2 := s1.gate (!lost.isEmpty) fun s => s.sweepLost psn lost
  let s3 := (s2.gate (region == 64) fun s => s.scanNote lpn).sweepLate region (pos + 1) len
  let next := if pos + 1 < len then pos + 1 else if region = 64 then len else 0
  { s3 with integ := { s3.integ with logicalPos := s3.integ.logicalPos.set region next } }

/-- R480. The read met an error. -/
def MediaRead.erred (m : MediaRead) : Bool := m.step != 1 || m.missed

/-- R289–R292, R480. SWEEP_LOGICAL_READ: the read of the next page of a region's logical pass, or of the scan (64), begins; once its 17
ladders have ended, the pass moves on. An error in a page that was in motion is discarded, and the page is read again in a later
frame. -/
def execSweepLogicalRead (cyc region : Nat) (s0 : State) : Res :=
  let s := s0.begin.at cyc
  match s.passRange region with
  | none => .next s
  | some (base, len) =>
    let pos := s.integ.logicalPos.getD region 0
    let lpn := base + pos
    let free := s.enginesRun && decide (s.integ.logicalNow < s.logicalCap)
    match s.readsOf (.logical region) with
    | [] => .next (s.gate (free && (decide (0 < pos) || s.passDue region) && decide (pos < len)) fun s =>
        (s.gate (pos == 0) fun s => s.passBegin region).logicalBegin region lpn)
    | m :: rest =>
      let rs := m :: rest
      let moved := (s.moveOf m.psn).isSome || s.readPsn lpn != m.psn
      if !(rs.all MediaRead.ended) then .next s
      else if moved && rs.any MediaRead.erred then
        .next (s.gate (free && rs.all fun x => decide ((x.slot + 1) / 16 < s.frame)) fun s =>
          (s.dropReads m.use).logicalBegin region lpn)
      else .next (s.gate ((rs.all fun x => x.step != 4) || s.sweepRoom m.psn) fun s => s.logicalTake region lpn m.psn pos len)

/-! ### Blocks from the peer (R281) -/

/-- R281. A block that was asked of a peer which is gone is poisoned, once there is room for its landing entry
(log entry 160). -/
def State.peerLost (s : State) (key : Nat) : State :=
  let lpn := key / 16
  let j := key % 16
  s.gate (s.landingRoom (s.pageSlice lpn) true) fun s =>
    let s1 : State := { s with integ := { s.integ with fromPeer := s.integ.fromPeer.filter fun k => k != key } }
    let psn := s1.readPsn lpn
    let t := s1.landWith lpn [j] fun _ => (0, true)
    (t.1.uncorrectable psn (blockPos psn j) 4 (blockBits t.2 j)).poisonPage .internal lpn t.2

/-- R281. The peer is gone: reads that wait for a block of it end at step 4, and the blocks asked of it are poisoned. -/
def State.peerGone (s : State) : State :=
  let s1 : State := { s with media := { s.media with reads := s.media.reads.map fun m => if m.step = 5 then { m with step := 4 } else m } }
  s1.integ.fromPeer.eraseDups.foldl State.peerLost s1

/-- R275, R281. PEER_REPAIRED: the peer's block arrives for a page that could not read its own. `readable` is false when the
peer could not read it either. -/
def execPeerRepaired (cyc lpn block : Nat) (data : BitVec 2048) (poison : BitVec 4) (readable : Bool) (s0 : State) : Res :=
  let s := s0.begin.at cyc
  let key := lpn * 16 + block
  let read := s.media.reads.find? fun m => m.step == 5 && m.lpn == lpn && m.block == block
  let owed := s.integ.fromPeer.contains key
  let n := s.pageSlice lpn
  .next (s.gate (decide (block < 16) && (read.isSome || owed) && s.landingRoom n true) fun s =>
    let s1 : State := { s with
      integ := { s.integ with fromPeer := s.integ.fromPeer.filter fun k => k != key }
      media := { s.media with reads := s.media.reads.map fun m =>
        if m.step == 5 && m.lpn == lpn && m.block == block then
          { m with step := if readable then 3 else 4, result := if readable then some (data, poison) else none
                   word := if readable ∧ m.use ≠ .fill then some (s.encryptLine lpn block data poison) else none }
        else m } }
    if readable then
      let t := s1.landWith lpn [block] fun i => (lineSector data (i % 4), poison.getLsbD (i % 4))
      (t.1.poisonPage .internal lpn (t.2 &&& blockMask block poison)).record (bCs n) (184 + 4 * n) 0x0843 .info
        [(5, lpn), (1, block)]
    else if owed then s1.peerLost key
    else s1)

/-! ### SRAM and DRAM sweeps (R264, R265, R269, R287) -/

/-- R295, R284. A management pair restarts from its boot ROM: commands in progress on pair A end with Retry Required. -/
def State.romRestart (s : State) (pair : Nat) : State :=
  if pair = 0 then
    let s1 := match s.mbox.bg with
      | some b => s.emit (.reply (2 + b.1) rcRetry [])
      | none => s
    ({ s1 with integ := { s1.integ with romA := true } } : State).endBackground
  else { s with integ := { s.integ with romB := true } }

/-- R284. A management trap: MGT_TRAP, and the pair restarts. -/
def State.mgtTrap (s : State) (pair cause addr : Nat) : State :=
  (s.record bMgt (if pair = 0 then 352 else 360) 0x0862 .error [(1, pair), (1, cause), (4, addr)]).romRestart pair

/-- R265. The outcome of an SRAM word that fails its decode, by the row of R265 from 0; `a`, `b` and `c` place the word. -/
def State.sramLost (s : State) (block site a b c addr : Nat) (both : Bool) : State :=
  match site with
  | 0 => s.loseTag a b
  | 1 =>
    let l := s.entry a b
    if l.busy && l.valid.getLsbD c then
      (s.modEntry (a * 512 + b) fun l => { l with poison := l.poison ||| bit64 c }).poisonPage .internal l.lpn (bit64 c)
    else s
  | 2 => if both then { s with integ := { s.integ with
      failedBlocks := if s.integ.failedBlocks.contains block then s.integ.failedBlocks else s.integ.failedBlocks ++ [block] } }
    else s
  | 5 => s.mgtTrap a 0 addr
  | 6 => if both then s.cryptoError 3 else s
  | 7 =>
    let q : QueueId :=
      if block = bEvq then .records else if block = bCen then .samples
      else if block = bBrg then (if b % 2 = 0 then .descriptors (Fin.ofNat 4 (b / 2)) else .completions (Fin.ofNat 4 (b / 2)))
      else if b = 0 then .secRequest else .secResponse
    let x := s.getQ q
    s.setQ q { x with words := x.words.mapIdx fun i w => if i = a then { w with bad := true } else w }
  | 9 =>
    if b = 0 then
      let x := s.cen.samples
      { s with cen := { s.cen with samples := { x with words := x.words.eraseIdx a } } }
    else { s with cen := { s.cen with
      banks := Kv.mod s.cen.banks (b - 1) [] fun m => Mem.writes m (8 * a) (List.replicate 8 0) } }
  | _ => s

/-- R264, R265, R287. SRAM_SWEEP_READ: a word of SRAM `sram` of a powered block, with `errs` bits wrong; `last` tells that the
pass has reached every word. -/
def execSramSweepRead (block sram addr errs site a b c : Nat) (both last : Bool) (s0 : State) : Res :=
  let s := s0.begin
  let room := site != 0 || s.landingRoom (s.sliceOf a) true
  .next (s.gate (decide (block < 54) && s.live block && (decide (errs < 2) || room)) fun s =>
    let s1 := if errs = 0 then s
      else if errs = 1 then
        ((s.count block 5 1).tally 0x0801 (blkSource block) 0 1).noteLast 0x0801 (blkSource block) sram
      else (s.record block (blkSource block) 0x0802 .error [(1, sram), (4, addr), (1, site)]).sramLost block site a b c addr both
    if last then { s1 with integ := { s1.integ with sramPasses := satAdd 0xffff s1.integ.sramPasses 1, sramStart := s1.tt.fn } }
    else s1)

/-- R402, R404. The page a metadata line or cache burst belongs to. -/
def State.burstPage (s : State) (c x : Nat) : Option (Nat × Nat × Nat) :=
  if x < 0x780000000 then s.placeOf c x
  else if x < 0x780000000 + 64 * 7864320 then s.placeOf c (4096 * ((x - 0x780000000) / 64))
  else none

/-- R404, R406. Channel-local address `x` lies in the resync bitmap area. -/
def inBitmap (x : Nat) : Bool := decide (0x79e000000 ≤ x) && decide (x < 0x7ae000000)

/-- R404, R406. Channel-local address `x` lies in the management area. -/
def inMgt (x : Nat) : Bool := decide (0x7be000000 ≤ x) && decide (x < 0x7ce000000)

/-- R406. The other copy of a sector of the management area: the other half of the other channel of its pair (log entry 153). -/
def mgtCopy (c x : Nat) : Nat × Nat :=
  let y := x - 0x7be000000
  (if c % 2 = 0 then c + 1 else c - 1, 0x7be000000 + (if y < 0x8000000 then y + 0x8000000 else y - 0x8000000))

/-- R406. A sector of the bitmap or management area that is uncorrectable is written again, from parity or from the other copy. -/
def State.areaRestore (s : State) (c x : Nat) : State :=
  if inBitmap x then
    let j := (x - 0x79e000000) / 4096
    let i := x / 64 % 64
    let d := ((List.range 4).filter fun d => d != c).foldl (fun a d => a ^^^ s.fry.bitmapSector d j i) (0 : Sector)
    s.gate ((List.range 4).all fun d => d == c || !(s.drc d).failed) fun s => s.dramPut c x d
  else if inMgt x then
    let t := mgtCopy c x
    s.gate (!(s.drc t.1).failed) fun s => s.dramPut c x (s.dramSector t.1 t.2)
  else s

/-- R283, R287. A swept burst is uncorrectable: the sector of the cache that it holds is lost. -/
def State.sweptLost (s : State) (ch addr : Nat) : State :=
  let u := subOf addr
  match s.burstPage ch addr with
  | some (set, w, i) =>
    let v := s.way set w
    let lpn := if v.used then v.lpn else 0
    if addr < 0x780000000 ∧ v.valid.getLsbD i = true then
      (s.dramUncorrectable ch u addr lpn i (b2n (v.dirty.getLsbD i))).loseSector set w i
    else s.dramUncorrectable ch u addr lpn (if addr < 0x780000000 then i else 0) 2
  | none => (s.dramUncorrectable ch u addr 0 0 2).areaRestore ch addr

/-- R269, R287. What a swept burst shows: it is corrected, or read once more and then corrected or lost. -/
def State.sweptBurst (s1 : State) (ch addr errs again dev : Nat) : State :=
  let u := subOf addr
  if s1.corrects ch u errs then s1.gate (errs != 0) fun s => s.dramCorrected ch u dev addr
  else
    let s2 := (s1.column ch addr 0x40).bwAdd (21 + ch) 0 64
    if s2.corrects ch u again then s2.gate (again != 0) fun s => s.dramCorrected ch u dev addr
    else s2.sweptLost ch addr

/-- R269, R283, R287. DRAM_SWEEP_READ: a burst of a channel in service, with `errs` bad symbols of device `dev`, and `again`
when it is read once more. -/
def execDramSweepRead (cyc ch addr errs again dev : Nat) (last : Bool) (s0 : State) : Res :=
  let s := s0.begin.at cyc
  let u := subOf addr
  .next (s.gate (decide (ch < 4) && (s.drc ch).state == 3 && !(s.sub ch u).selfRefresh && s.pwr.state != 4) fun s =>
    let s1 := ((s.column ch addr 0x40).bwAdd (21 + ch) 0 64).count bMnt 0x40 1
    let s2 := s1.sweptBurst ch addr errs again dev
    if last then { s2 with integ := { s2.integ with dramPasses := satAdd 255 s2.integ.dramPasses 1, dramStart := s2.tt.fn } }
    else s2)

/-! ### Datapath and the MAC window (R271–R273) -/

/-- R273, R275. A sector whose transfer to the host failed its check twice is poisoned where it is newest: in the cache, in a landing entry,
or in the block read that brings it (log entry 161). -/
def State.spoil (s : State) (lpn i : Nat) : State :=
  let set := s.setOf lpn
  let b := bit64 i
  match (s.findWay lpn).filter fun w => (s.way set w).valid.getLsbD i with
  | some w => s.setWay set w { s.way set w with poison := (s.way set w).poison ||| b, dirty := (s.way set w).dirty ||| b }
  | none => match newest ((s.landingsOf lpn).filter fun p => p.2.valid.getLsbD i) with
    | some p => s.modEntry p.1 fun l => { l with poison := l.poison ||| b }
    | none => { s with media := { s.media with reads := s.media.reads.map fun m =>
        if m.use == .fill && m.lpn == lpn && m.block == i / 4 then { m with spoiled := m.spoiled ||| BitVec.ofNat 4 (2 ^ (i % 4)) }
        else m } }

/-- R273. The outcome of a request whose transfer failed its check twice: 0 a host read completes with poison, 1 a host write
is accepted poisoned, 2 a crossing is withdrawn and offered again; maintenance work is tried again by its engine. -/
def State.datapathLost (s : State) (kind id : Nat) : State :=
  match kind with
  | 0 =>
    let inDrc := ((List.range 8).flatMap fun i => (s.sub (i / 2) (i % 2)).readQ).map fun r => r.req
    let all := s.cache.waiting ++ inDrc ++ s.media.reads.flatMap fun m => m.joined
    match all.find? fun r => r.id == id && r.kind == .read with
    | none => s
    | some r =>
      let drop (s : State) (i : Nat) : State := s.dropRead (i / 2) (i % 2) id
      let s1 : State := { s with
        cache := { s.cache with waiting := s.cache.waiting.filter fun q => q.id != id }
        media := { s.media with reads := s.media.reads.map fun m =>
          { m with joined := m.joined.filter fun q => q.id != id } } }
      let s2 := (List.range 8).foldl drop s1
      ((s2.spoil (lpnOfDpa r.dpa) (sectorOf r.dpa)).poisonOne .internal (r.dpa / 64 * 64)).respondRead r 0 true
  | 1 =>
    match s.cache.waiting.find? fun r => r.id == id && r.kind != .read with
    | none => s
    | some r => ({ s with cache := { s.cache with waiting := s.cache.waiting.map fun q =>
        if q.id = id then { q with poison := true } else q } } : State).poisonOne .internal (r.dpa / 64 * 64)
  | 2 =>
    match s.media.crossings.find? fun x => x.id == id && !x.launched with
    | some x => ((((s.dropCrossing id).workBack x.work 0#8).count bTt 0x46 1).beatAll x.chans 1)
    | none => s
  | _ => s

/-- R272, R273. DATAPATH_RETRIED: a stage discards a transfer that failed its check; `again` tells that the retry failed as
well. -/
def execDatapathRetried (block stage check : Nat) (again : Bool) (kind id : Nat) (s0 : State) : Res :=
  let s := s0.begin
  .next (s.gate (decide (block < 54) && s.live block) fun s =>
    let s1 := (s.count block 6 1).record block (blkSource block) 0x0831 .warning [(1, stage), (1, check)]
    s1.gate again fun s =>
      let s2 := s.record block (blkSource block) 0x0832 .error [(1, stage), (1, check), (1, kind)]
      let failed := if s2.integ.failedBlocks.contains block then s2.integ.failedBlocks else s2.integ.failedBlocks ++ [block]
      ({ s2 with integ := { s2.integ with failedBlocks := failed } } : State).datapathLost kind id)

/-- R271. MAC_WINDOW_END, at a tick whose FN is a multiple of 2^20. -/
def execMacWindowEnd (s0 : State) : Res :=
  let s := s0.begin
  .next (s.gate (s.tt.fn % 2 ^ 20 == 0) fun s => { s with integ := { s.integ with macFails := 0, macStorm := false } })

/-! ### Management pairs (R284, R295) -/

/-- R295. MGT_CHECKPOINT of pair A (0) or B (1). -/
def execMgtCheckpoint (pair : Nat) (s0 : State) : Res :=
  let s := s0.begin
  .next (if pair = 0 then { s with integ := { s.integ with ckptA := s.uptimeUs } }
    else if pair = 1 then { s with integ := { s.integ with ckptB := s.uptimeUs } } else s)

/-- R295. MGT_LOCKSTEP: the pair resumes from its checkpoint; a second mismatch within 1 s restarts it from ROM. -/
def execMgtLockstep (pair : Nat) (s0 : State) : Res :=
  let s := s0.begin
  .next (s.gate (decide (pair < 2)) fun s =>
    let now := s.uptimeUs
    let last := if pair = 0 then s.integ.lockstepA else s.integ.lockstepB
    let ckpt := if pair = 0 then s.integ.ckptA else s.integ.ckptB
    let s1 := (s.count bMgt 0x40 1).record bMgt (if pair = 0 then 352 else 360) 0x0861 .error [(1, pair), (4, now - ckpt)]
    let s2 : State := if pair = 0 then { s1 with integ := { s1.integ with lockstepA := some now } }
      else { s1 with integ := { s1.integ with lockstepB := some now } }
    match last with
    | some t => if now ≤ t + 1000000 then s2.romRestart pair else s2
    | none => s2)

/-- R284. MGT_TRAP. -/
def execMgtTrap (pair cause addr : Nat) (s0 : State) : Res :=
  let s := s0.begin
  .next (s.gate (decide (pair < 2)) fun s => s.mgtTrap pair cause addr)

/-- R284. ROM_RESTART_DONE: the pair resumes its services. -/
def execRomRestartDone (pair : Nat) (s0 : State) : Res :=
  let s := s0.begin
  .next (if pair = 0 then { s with integ := { s.integ with romA := false } }
    else if pair = 1 then { s with integ := { s.integ with romB := false } } else s)

end Sys2Proof.Machine
end

