-- ==== Sys2Proof/Machine/Image.lean ====
section
/-!
DEFINITION. The Traud image as the store holds it (R499–R506): header, records, the record check, and the writes the
records make. Numbers in the store are little-endian.
-/
namespace Sys2Proof.Machine

/-- R8. The little-endian number in `n` bytes of a memory from address `a`. -/
def Mem.num (m : Mem) (a n : Nat) : Nat := ofBytes (Mem.reads m a n)

/-- R495. Where image copy A (0) or B (1) begins. -/
def imgBase (copy : Nat) : Nat := if copy = 0 then 0x180000 else 0x1c0000

/-- R231, R512, R513. The module as delivered: the parameter store is zeros but for a Traud image in both copies and the calibration set,
whose bytes the spec does not state (log entry 31). -/
def State.delivered (img cal : List (BitVec 8)) : State :=
  { State.reset with store := Mem.writes (Mem.writes (Mem.writes [] 0x180000 img) 0x1c0000 img) 0x100000 cal }

/-- R501. Sequence number `a` is newer than `b`. -/
def seqNewer (a b : Nat) : Bool :=
  let d := (a + 2 ^ 32 - b % 2 ^ 32) % 2 ^ 32
  decide (1 ≤ d) && decide (d < 2 ^ 31)

/-- R502. One image record, with its index and store address. -/
structure ImgRec where
  ty : Nat
  flags : Nat
  block : Nat
  off : Nat
  value : Nat
  mask : Nat
  idx : Nat
  at' : Nat
deriving DecidableEq, Repr

/-- R502. The record at index `i` of an image at `base`. -/
def imgRec (m : Mem) (base i : Nat) : ImgRec :=
  let a := base + 64 + 16 * i
  { ty := Mem.num m a 1, flags := Mem.num m (a + 1) 1, block := Mem.num m (a + 2) 2, off := Mem.num m (a + 4) 4
    value := Mem.num m (a + 8) 4, mask := Mem.num m (a + 12) 4, idx := i, at' := a }

/-- R503. The records of an image in order, up to its END or its last: a TABLE's payload is passed over. -/
def imgWalk : Nat → Mem → Nat → Nat → Nat → List ImgRec
  | 0, _, _, _, _ => []
  | fuel + 1, m, base, i, n =>
    if n ≤ i then []
    else
      let r := imgRec m base i
      if r.ty = 0x0f then [r]
      else r :: imgWalk fuel m base (i + 1 + (if r.ty = 5 then (r.value + 15) / 16 else 0)) n

/-- R499, R502. The records of the image at `base`. -/
def imgRecs (m : Mem) (base : Nat) : List ImgRec :=
  imgWalk 16384 m base 0 (min 16384 (Mem.num m (base + 48) 4))

/-- R502. ALL_INSTANCES and REGION_COPIES. -/
def ImgRec.all (r : ImgRec) : Bool := r.flags % 2 == 1
/-- R502. REGION_COPIES. -/
def ImgRec.copies (r : ImgRec) : Bool := r.flags / 2 % 2 == 1

/-- The 19 blocks that hold a region table (R115). -/
def regionBlocks : List Nat := [bHp 0, bHp 1] ++ (List.range 16).map bCs ++ [bXl]

/-- R502. The block instances a record acts on. -/
def ImgRec.blocks (r : ImgRec) : List Nat :=
  match blkAt r.block with
  | none => []
  | some b =>
    if r.copies then (if b = bXl ∧ 0x400 ≤ r.off ∧ r.off < 0x800 then regionBlocks else [])
    else if r.all then
      (if blkInst b = 0 ∧ (blkType b = 4 ∨ blkType b = 5 ∨ blkType b = 7 ∨ blkType b = 8) then
        (List.range 54).filter fun x => blkType x == blkType b else [])
    else [b]

/-- R506. A target the image may not write. -/
def imgForbidden (b off : Nat) : Bool :=
  (b == bSec && !(decide (off < 0x10) || decide (0xf00 ≤ off ∧ off < 0x1000)))
    || (b == bCry && decide (0x8000 ≤ off)) || b == bPst || (b == bTop && off == 0x100)
    || (b == bBrg && decide (0x4000 ≤ off)) || (b == bEvq && decide (0x8000 ≤ off)) || (b == bCen && decide (0xc000 ≤ off))
    || (b == bTt && decide (0x4060 ≤ off)) || (blkType b == 8 && decide (0x100 ≤ off ∧ off < 0x180))

/-- R42, R506. Bytes `off` up to `off + len` lie in one table window of block `b`. -/
def tableWindow (b off len : Nat) : Bool :=
  let windows : List (Nat × Nat) := match blkType b with
    | 2 => [(0x4000, 0x4080)]
    | 4 => [(0x4000, 0x4080)]
    | 5 => [(0x8000, 0x10000)]
    | 6 => [(0x4000, 0x4c00), (0x8000, 0x10000)]
    | 7 => [(0x4000, 0x4e40), (0x6000, 0x6100), (0x7000, 0x7400), (0x8000, 0x8800)]
    | 8 => [(0x4000, 0x4140), (0x5000, 0x6000), (0x8000, 0x8200)]
    | 9 => [(0x4000, 0x4400)]
    | 14 => [(0x4000, 0x4600)]
    | 15 => [(0x4000, 0xc000)]
    | 16 => [(0x4000, 0x4088), (0x5000, 0x5180)]
    | _ => []
  windows.any fun w => decide (w.1 ≤ off) && decide (off + len ≤ w.2)

/-- R503, R506. A record's form: its type, flags, mask, target and length. -/
def ImgRec.formOk (r : ImgRec) (m : Mem) : Bool :=
  let tyOk := (decide (1 ≤ r.ty) && decide (r.ty ≤ 6)) || r.ty == 0x0f
  let flagsOk := r.flags / 4 % 4 == 0 && (r.ty == 4 || decide (r.flags < 16)) && !(r.all && r.copies)
    && (r.ty != 0x0f || r.flags == 0)
  let maskOk := r.ty == 2 || r.ty == 4 || r.ty == 6 || r.mask == 0
  let spec := regSpec (blkType (r.blocks.headD 0)) r.off
  let write := r.ty == 1 || r.ty == 2 || r.ty == 3 || r.ty == 5
  let target := if r.ty = 0x0f then r.block == 0 && r.off == 0
    else !r.blocks.isEmpty && r.off % 4 == 0
      && (r.blocks.all fun b => if r.ty = 5 then tableWindow b r.off r.value else decide (r.off < 0x1000) || tableWindow b r.off 4)
      && !(write && r.blocks.any fun b => imgForbidden b r.off || imgForbidden b (r.off + (if r.ty = 5 then r.value - 4 else 0)))
  let value := match r.ty with
    | 1 => decide ((BitVec.ofNat 32 r.value &&& spec.ws) = 0)
    | 2 => decide ((BitVec.ofNat 32 r.mask &&& spec.ws) = 0)
    | 3 => decide ((BitVec.ofNat 32 r.value &&& ~~~spec.ws) = 0)
    | 5 => decide (4 ≤ r.value) && decide (r.value ≤ 49152) && r.value % 4 == 0
        && Mem.num m (r.at' + 16 + r.value) ((16 - r.value % 16) % 16) == 0
    | _ => true
  tyOk && flagsOk && maskOk && target && value

/-- R503. A word the loader writes into a block: the bits the image may set, in active and shadow copies alike. -/
def State.imgWord (s : State) (b off : Nat) (v : Word) : State :=
  let sp := regSpec (blkType b) off
  let w := sp.rs ||| sp.ri ||| sp.rp ||| sp.img
  s.load b off ((s.actW b off &&& ~~~w) ||| (v &&& w))

/-- R70, R433, R503. Bytes into the beat map window, or into the timing window of a DRC; the other windows take no writes. -/
def State.imgTable (s : State) (b off len : Nat) (get : Nat → BitVec 8) : State :=
  if b = bTt then
    let word (m : Nat) (n : Nat) : BitVec 16 :=
      let o := 0x4000 + 0x20 * m + 2 * n
      if off ≤ o ∧ o < off + len then (get (o + 1 - off)) ++ (get (o - off)) else s.slotWord m n
    { s with tt := { s.tt with maps := (List.range 3).map fun m => (List.range 16).map (word m) } }
  else if blkType b = 8 then
    let put (m : Kv (BitVec 8)) (i : Nat) : Kv (BitVec 8) :=
      if 0x5000 ≤ off + i ∧ off + i < 0x6000 then m.set (off + i - 0x5000) (get i) else m
    s.modDrc (blkInst b) fun d => { d with train := { d.train with timings := (List.range len).foldl put d.train.timings } }
  else s

/-- R503. The word of a register or of a window the image writes, as WRITE_MASKED finds it. -/
def State.imgOld (s : State) (b off : Nat) : Word :=
  if off < 0x4000 then s.actW b off
  else if b = bTt then s.slotWord ((off - 0x4000) / 32) (off / 2 % 16 + 1) ++ s.slotWord ((off - 0x4000) / 32) (off / 2 % 16)
  else
    let byte (i : Nat) : BitVec 8 := (s.drc (blkInst b)).train.timings.getD (off + i - 0x5000) 0
    byte 3 ++ byte 2 ++ byte 1 ++ byte 0

/-- R503. A word of a register, or of a table window. -/
def State.imgPut (s : State) (b off : Nat) (v : Word) : State :=
  if off < 0x4000 then s.imgWord b off v else s.imgTable b off 4 fun i => v.extractLsb' (8 * i) 8

/-- R503. What a WRITE, WRITE_MASKED or TABLE record writes. -/
def State.imgApply (s : State) (r : ImgRec) : State :=
  match r.ty with
  | 1 => r.blocks.foldl (fun s b => s.imgPut b r.off (BitVec.ofNat 32 r.value)) s
  | 2 => r.blocks.foldl (fun s b =>
      let k := BitVec.ofNat 32 r.mask
      s.imgPut b r.off ((s.imgOld b r.off &&& ~~~k) ||| (BitVec.ofNat 32 r.value &&& k))) s
  | 5 => r.blocks.foldl (fun s b => s.imgTable b r.off r.value fun i => Mem.read s.store (r.at' + 16 + i)) s
  | _ => s

/-- The registers and beat maps at their reset values, with the store as it is: what the records are checked over. -/
def State.imgScratch (s : State) : State := { State.reset with store := s.store }

/-- R73. The first slot and beat at which a beat map fails; 255 where there is none (R623). A slot with more than four write beats fails
at its fifth (log entry 131). -/
def mapFault (ws : List (BitVec 16)) : Option (Nat × Nat) :=
  let reads (b : Nat) : Nat := (List.range 16).countP fun n => beatOf (ws.getD n 0) b == 0
  let bad (n b : Nat) : Bool :=
    let k := beatOf (ws.getD n 0) b
    k == 3 || (k != 0 && decide (0 < reads b)) || (b == 0 && k != 0)
      || (k == 1 && decide (4 < (List.range (b + 1)).countP fun i => beatOf (ws.getD n 0) i == 1))
  let slot (n : Nat) : Option (Nat × Nat) :=
    match (List.range 6).find? (bad n) with
    | some b => some (n, b)
    | none => if bits (ws.getD n 0) 12 4 = 0 then none else some (n, 255)
  match (List.range 16).findSome? slot with
  | some x => some x
  | none =>
    if (List.range 16).any fun n => (List.range 6).any fun b => beatOf (ws.getD n 0) b == 1 then none else some (255, 255)

/-- R117. The region table of block `b`'s copy: valid regions do not overlap, end within user memory, and have attributes that
their own REGn_ALLOW allows. -/
def State.regionsOf (s : State) (b : Nat) : Bool :=
  let rs := (List.range 64).map fun n => (n, s.region b n)
  let valid := rs.filter fun p => p.2.valid
  (valid.all fun p =>
    let w := s.actW b (0x404 + 16 * p.1)
    let a := s.actW b (0x408 + 16 * p.1)
    decide (1 ≤ p.2.size) && decide (p.2.base + p.2.size ≤ 24576) && regAllows a 0 (bits w 0 2) && regAllows a 1 (bits w 2 1)
      && regAllows a 2 (bits w 8 2)
      && valid.all fun q => p.1 == q.1 || decide (p.2.base + p.2.size ≤ q.2.base) || decide (q.2.base + q.2.size ≤ p.2.base))

/-- R117. Every copy of the region table passes. -/
def State.regionsOk (s : State) : Bool := regionBlocks.all s.regionsOf

/-- R506. A field value to which its table gives no meaning. -/
def State.fieldsOk (s : State) : Bool :=
  (s.regF (bHp 0) 0x010 0 2 != 3) && (s.regF (bHp 1) 0x010 0 2 != 3) && s.regF bPwr 0x014 0 2 != 3
    && s.regF bPwr 0x010 8 2 != 3 && (List.range 16).all fun n => decide (s.regF (bCs n) 0x014 0 3 ≤ 4)

/-- R506. The record check. -/
def State.recordCheck (s : State) (base : Nat) : Bool :=
  let rs := imgRecs s.store base
  let n := Mem.num s.store (base + 48) 4
  let ended := match rs.getLast? with
    | some r => r.ty == 0x0f && r.idx + 1 == n && r.value == n && Mem.num s.store (base + 12) 4 == 64 + 16 * n
    | none => false
  let t := rs.foldl State.imgApply s.imgScratch
  let m := t.regF bTt 0x020 0 2
  ended && (rs.all fun r => r.formOk s.store) && t.regionsOk && t.fieldsOk
    && ((List.range 3).all fun k => (mapFault (t.tt.maps.getD k [])).isNone
        || (!(t.actW bTt 0x028).getLsbD k && (t.tt.maps.getD k []).all fun w => w == 0))
    && decide (m < 3) && (t.actW bTt 0x028).getLsbD m

/-- R618. The printed form of the serial number: 16 hexadecimal characters, most significant digit first. -/
def serialChars : List (BitVec 8) :=
  (List.range 16).map fun i =>
    let d := Config.serial.toNat / 16 ^ (15 - i) % 16
    BitVec.ofNat 8 (if d < 10 then 48 + d else 55 + d)

/-- R499, R504. The step of R504 at which a copy fails, 0 when it is valid. `sig` is SEC's verdict on the signature. -/
def State.imgFails (s : State) (copy : Nat) (sig : Bool) : Nat :=
  let b := imgBase copy
  let n (o w : Nat) : Nat := Mem.num s.store (b + o) w
  let len := n 12 4
  if n 0 4 ≠ 0x31445254 ∨ n 4 1 ≠ 1 ∨ len < 64 ∨ 0x40000 < n 16 4 + 208 then 1
  else if 0x40000 < len ∨ len % 16 ≠ 0 ∨ n 16 4 < len ∨
      (crc32c (Mem.reads s.store b 56 ++ Mem.reads s.store (b + 64) (len - 64))).toNat ≠ n 56 4 then 2
  else if sig = false ∨ 1 < n 44 1 then 3
  else if n 20 4 ≠ 0x2400e301 ∨ Config.siliconRev.toNat < n 24 2 ∨ n 26 2 < Config.siliconRev.toNat ∨
      (n 6 2 % 2 = 1 ∧ Mem.reads s.store (b + 28) 16 ≠ serialChars) then 4
  else if s.recordCheck b then 0 else 5

/-- R499. SEQ of a copy. -/
def State.imgSeqOf (s : State) (copy : Nat) : Nat := Mem.num s.store (imgBase copy + 8) 4

end Sys2Proof.Machine
end

