-- ==== Sys2Proof/Machine/Store.lean ====
section
/-!
DEFINITION. PST (R491–R517, R521): the image and calibration windows, writes through the store window, checks, the
calibration set, and the event log ring.
-/
namespace Sys2Proof.Machine

/-- R497. The protection level that the windows and PAIR_CFG call for in service. -/
def State.protectNow (s : State) : Nat :=
  if s.pst.imgOpen then 0 else if s.pairCfg || s.pst.calOpen then 1 else 2

/-- R497. Protection follows the windows. -/
def State.protectSet (s : State) : State := { s with pst := { s.pst with protect := s.protectNow } }

/-- R508. PST_IMG_CTRL.OPEN: ignored while the window is open or a flush runs. -/
def State.imgOpenCmd (s : State) : State :=
  s.gate (!s.pst.imgOpen && s.pwr.flush.isNone) fun s =>
    ({ s with pst := { s.pst with imgOpen := true } } : State).protectSet

/-- R509. PST_IMG_CTRL.CHECK: the window closes and a check starts. -/
def State.imgCheckCmd (s : State) : State :=
  s.gate (!s.pst.imgBusy && s.pwr.flush.isNone) fun s =>
    ({ s with pst := { s.pst with imgOpen := false, imgBusy := true } } : State).protectSet

/-- R508. IMAGE_WINDOW_OPEN. -/
def execImageWindowOpen (s : State) : Res := .next s.begin.imgOpenCmd

/-- R509. IMAGE_CHECK. -/
def execImageCheck (s : State) : Res := .next s.begin.imgCheckCmd

/-- R509. IMAGE_CHECK_DONE: RESULT is set from the target copy, and BUSY clears. -/
def execImageCheckDone (sig : Bool) (s0 : State) : Res :=
  let s := s0.begin
  .next (s.gate s.pst.imgBusy fun s =>
    let c := 1 - s.pst.imgInUse
    let step := s.imgFails c sig
    let seq := s.imgSeqOf c
    let r := if step ≠ 0 then step + 2 else if seqNewer seq s.pst.imgSeq then 1 else 2
    { s with pst := { s.pst with imgBusy := false, imgResult := r, otherValid := step == 0, imgSeqOther := seq } })

/-- R513. The calibration set's serial number and the CRC of the whole set with its field zero. -/
def State.calCrc (s : State) : Nat :=
  (crc32c (Mem.reads s.store 0x100000 60 ++ List.replicate 4 0 ++ Mem.reads s.store 0x100040 98240)).toNat

/-- R513, R515. What is wrong with the calibration set: 0 its CRC, 1 another serial number. -/
def State.calFault (s : State) : Option Nat :=
  if Mem.num s.store 0x100000 4 ≠ 0x4c414343 ∨ Mem.num s.store 0x10003c 4 ≠ s.calCrc then some 0
  else if Mem.reads s.store 0x10001c 16 ≠ serialChars then some 1
  else none

/-- R514. PST_CAL_CTRL.OPEN: ignored while open, while a recalibration runs, or during a flush. -/
def State.calOpenCmd (s : State) : State :=
  s.gate (!s.pst.calOpen && !s.mnt.recalBusy && s.pwr.flush.isNone) fun s =>
    ({ s with pst := { s.pst with calOpen := true } } : State).protectSet

/-- R513, R514. PST records CAL_WRITTEN with the source and sequence number of the set. -/
def State.calWritten (s : State) (source : Nat) : State :=
  ({ s with pst := { s.pst with calSource := source } } : State).record bPst 383 0x0e12 .info
    [(1, source), (4, Mem.num s.store 0x100008 4)]

/-- R514. PST_CAL_CTRL.CLOSE: the window closes and the set's CRC and serial number decide CAL_VALID. -/
def State.calCloseCmd (s : State) : State :=
  s.gate s.pst.calOpen fun s =>
    let ok := s.calFault.isNone
    (({ s with pst := { s.pst with calOpen := false, calValid := ok } } : State).protectSet).calWritten
      (Mem.num s.store 0x100005 1)

/-- R514. CAL_WINDOW_OPEN. -/
def execCalWindowOpen (s : State) : Res := .next s.begin.calOpenCmd

/-- R514. CAL_WINDOW_CLOSE. -/
def execCalWindowClose (s : State) : Res := .next s.begin.calCloseCmd

/-- R508, R509, R514. The store window takes writes at this store address. -/
def State.storeOpen (s : State) (a : Nat) : Bool :=
  let b := imgBase (1 - s.pst.imgInUse)
  (s.pst.imgOpen && !s.pst.imgBusy && decide (b ≤ a) && decide (a < b + 0x40000))
    || (s.pst.calOpen && decide (0x100000 ≤ a) && decide (a < 0x118000))

/-- R496. The `n` bytes of the store from `a` on, with the enabled bytes of a write in place. -/
def State.storeBytes (s : State) (a n : Nat) (bs : List (Nat × Bool × Nat)) : List (BitVec 8) :=
  (List.range n).map fun i => match bs.find? fun b => b.1 == a + i with
    | some b => BitVec.ofNat 8 b.2.2
    | none => Mem.read s.store (a + i)

/-- R496, R521. A write through the store window, at a byte offset within it. -/
def State.storeWindow (s : State) (m : Master) (off size : Nat) (be : BitVec 64) (v : BitVec 512) : State :=
  let base := 0x8000 * s.regF bPst 0x030 0 6
  let bs := (accessBytes (base + off) size be v).filter fun b => b.2.1
  if s.bar2There m = false then s
  else if s.live bPst = false then s.offRecord m bPst (regKey bPst (0x8000 + off)) 1
  else if bs.all fun b => s.storeOpen b.1 then
    let s1 := s.count bPst 0x40 (storePages 2 (base + off) size).length
    (s1.storeBegin (if base < 0x180000 then 6 else 7) (base + off) (s1.storeBytes (base + off) size bs)).count bPst 0x41 bs.length
  else s.record bPst 383 0x0e11 .warning [(1, masterVal m), (4, base + off)]

/-- R498, R513. Bytes of the calibration set are written in place. -/
def State.storePoke (s : State) (a : Nat) (bs : List (BitVec 8)) : State := s.storeBegin 6 a bs

/-- R514, R515. While the stored set is not valid the generic curves and trims are in use: RECALIBRATE starts from them
(log entry 163). -/
def State.calGeneric (s : State) : State := s.storePoke 0x100040 ((List.range 19072).map genericCal)

/-- R476, R513, R514. The eight bytes C[d][k][·] of die `o.1` and row k = `o.2.1` move by the shift `o.2.2`, clamped to 0–255. -/
def State.recalCurve (s : State) (o : Nat × Nat × Int) : State :=
  let a := 0x100040 + 128 * o.1 + 8 * o.2.1
  s.storePoke a ((Mem.reads s.store a 8).map fun b => BitVec.ofNat 8 (min 255 (Int.ofNat b.toNat + o.2.2).toNat))

/-- R513. The CRC of the calibration set goes into its header. -/
def State.calSeal (s : State) : State := s.storePoke 0x10003c (leBytes 4 s.calCrc)

/-- R514, R515. The set that RECALIBRATE wrote is valid. -/
def State.calDone (s : State) : State := ({ s with pst := { s.pst with calValid := true } } : State).calWritten 1

/-- R513, R514. RECALIBRATE writes the set in place: curve bytes, then the header with this module's serial number
(log entry 163). -/
def State.calRecal (s : State) (offs : List (Nat × Nat × Int)) : State :=
  let s0 := s.gate (!s.pst.calValid) State.calGeneric
  let s1 := (offs.filter fun o => decide (o.1 < 144) && decide (o.2.1 < 16)).foldl State.recalCurve s0
  let seq := (Mem.num s1.store 0x100008 4 + 1) % 2 ^ 32
  let hd := leBytes 4 0x4c414343 ++ [1, 1, 0, 0] ++ leBytes 4 seq ++ leBytes 6 s1.tt.fn ++ leBytes 10 0 ++ serialChars ++ leBytes 16 0
  (s1.storePoke 0x100000 hd).calSeal.calDone

/-- R577. The 32 bytes of a record. -/
def Record.bytes (r : Record) : List (BitVec 8) :=
  let flags := b2n r.relayed + 2 * b2n r.cont + 4 * b2n r.stored + 8 * b2n r.lostBefore
  leBytes 6 r.fn ++ leBytes 2 r.source ++ leBytes 2 r.code ++ leBytes 1 (sevVal r.severity) ++ leBytes 1 flags
    ++ leBytes 20 r.data.toNat

/-- R516, R517. EVENT_RING_WRITE: the oldest staged record goes into the next slot of the ring, wrapping at its end; it is
written at class 9 of R498, bytes 6 to 31 first, then its FN. -/
def execEventRingWrite (ok : Bool) (s0 : State) : Res :=
  let s := s0.begin
  match s.tele.evq.staged with
  | [] => .next s
  | r :: rest =>
    let s1 : State := { s with tele := { s.tele with evq := { s.tele.evq with staged := rest } } }
    let a := 0x020000 + 32 * s1.pst.next
    let s1a := s1.storePut 8 (a + 6) (r.bytes.drop 6) ok
    let s2 := if ok then s1a.storePut 8 a (r.bytes.take 6) true else s1a
    let wrap := s2.pst.next + 1 == 24576
    .next { s2 with pst := { s2.pst with
      next := if wrap then 0 else s2.pst.next + 1, wraps := if wrap then satAdd 0x1ffff s2.pst.wraps 1 else s2.pst.wraps
      ringCount := min 24576 (s2.pst.ringCount + 1) } }

end Sys2Proof.Machine
end

