-- ==== Sys2Proof/Machine/Maintenance.lean ====
section
/-!
DEFINITION. Maintenance that waits or runs in the background (R472, R476, R478–R480): waiting activities that begin,
recalibration, the capacitor test with the bank's monitor (R546, R547), and the refresh wake from Moored.
-/
namespace Sys2Proof.Machine

/-! ### Recalibration (R476) -/

/-- R476. The dies a recalibration names: 8 × channel + die, by the two masks. -/
def recalDies (mch die : Nat) : List Nat :=
  (List.range 144).filter fun k => (mch.testBit (k / 8)) && die.testBit (k % 8)

/-- R454, R476, R480, R514. RECALIBRATE. While a background command or an erase runs it is refused; while the calibration
window is open it ends at once with RESULT 3. -/
def State.recalStart (s0 : State) (m : Master) (payload : List (BitVec 8)) : State :=
  let mask := pnum payload 0 3
  let dies := pnum payload 3 1
  if 2 ^ 18 ≤ mask then s0.vendorRefuse m 0xC030 6
  else
    let s := s0.mboxWake
    if s.mbox.bg.isSome || s.sec.erase.isSome then (s.actRefused 7 (if s.sec.erase.isSome then 12 else 7) 0 true).vendorRefuse m 0xC030 3
    else
      let s1 : State := { s with mbox := { s.mbox with bg := some (pathHead m, 0xC030, s.tt.fn) } }
      let s2 : State := if s1.pst.calOpen then { s1 with mnt := { s1.mnt with recalResult := 3 } }
        else
          let first := ((recalDies mask dies).head?).getD 0
          { s1 with mnt := { s1.mnt with
            recalBusy := true, recalMask := mask, recalDies := dies, recalMch := first / 8, recalDie := first % 8 } }
      s2.reply m rcBackground (leBytes 4 0)

/-- R476. RECALIBRATE. -/
def execRecalibrate (m : Master) (payload : List (BitVec 8)) (s : State) : Res :=
  s.vendor m 0xC030 4 payload fun s => s.recalStart m payload

/-- R476, R513. RECAL_DONE: the offsets found, by die and age bucket, are added to the curves of the dies named that have not
failed, and the set is written to the store. -/
def execRecalDone (offs : List (Nat × Nat × Int)) (ok : Bool) (s0 : State) : Res :=
  let s := s0.begin
  .next (s.gate s.mnt.recalBusy fun s =>
    let named := recalDies s.mnt.recalMask s.mnt.recalDies
    let good := named.filter fun k => s.role (k / 8) (k % 8) != 31
    let mine := offs.filter fun o => good.contains o.1 && decide (o.2.1 < 16)
    let largest := mine.foldl (fun (a : Int) o => if a.natAbs < o.2.2.natAbs then o.2.2 else a) 0
    let result := if !ok then 3 else if good.length < named.length then 2 else 1
    let s1 : State := { s with mnt := { s.mnt with recalBusy := false, recalResult := result, altHigh := false } }
    let s2 := if ok then s1.calRecal mine else s1.storePut 6 0x100000 [] false
    s2.record bMnt 340 0x0D21 .info [(1, good.length), (1, named.length - good.length), (1, signed 1 largest)])

/-! ### The capacitor test and the monitor (R478, R546, R547) -/

/-- R478, R546. The health test is due: asked for, 24 h after the last began, or 1 h after one that failed. -/
def State.capDue (s : State) : Bool :=
  s.pwr.testDue || decide (s.mnt.capStartUs + 86400000000 ≤ s.uptimeUs)
    || (decide (2 ≤ s.pwr.testResult) && decide (s.mnt.capStartUs + 3600000000 ≤ s.uptimeUs))

/-- R478, R480, R546. The health test begins, or waits: in a flush, in Moored, and while a frequency change runs. -/
def State.capStart (s : State) : State :=
  if s.pwr.testRunning then s
  else if (s.pwr.state != 2 && s.pwr.state != 3) then { s with pwr := { s.pwr with testDue := true } }
  else
    match s.blocker 10 with
    | some b => ({ s with pwr := { s.pwr with testDue := true } } : State).defer 10 b
    | none =>
      { s with
        pwr := { s.pwr with testRunning := true, testDue := false }
        mnt := { s.mnt with capStartUs := s.uptimeUs } }

/-- R478, R546. CAPACITOR_HEALTH_TEST. -/
def execCapacitorHealthTest (s0 : State) : Res :=
  let s := s0.begin
  .next (s.gate (s.capDue && !s.mnt.waiting.has 10) State.capStart)

/-- R546, R552. BANK_TEST: the running test ends. A test that a monitor fault overtook ends with result 5 and is due again. -/
def execBankTest (cm esr : Nat) (timeout : Bool) (s0 : State) : Res :=
  let s := s0.begin
  .next (s.gate s.pwr.testRunning fun s =>
    let result := if s.pwr.testDue then 5 else if timeout then 4 else if cm < 1000 then 2 else if 30 < esr then 3 else 1
    let c := if timeout then s.pwr.cm else cm
    let s1 : State := { s with pwr := { s.pwr with
      testRunning := false, testResult := result, cm := c, esr := esr
      monitorFault := s.pwr.monitorFault && result != 1 } }
    let items : List Item := [(4, c), (4, esr), (1, result)]
    (s1.record bPwr 323 0x0F33 .info items).gate (result != 1) fun s => s.record bPwr 323 0x0F34 .error items)

/-- R547. What the monitor finds: the cause (0 a cell above 2.35 V, 1 two cells more than 0.15 V apart, 2 a fall of VRES) and
the cell, 255 for none. -/
def monitorCause (cells : List Nat) (fell : Bool) : Option (Nat × Nat) :=
  let hi := cells.foldl max 0
  let lo := cells.foldl min hi
  let at' := (cells.findIdx? fun c => c == hi).getD 255
  if 2350 < hi then some (0, at') else if lo + 150 < hi then some (1, at') else if fell then some (2, 255) else none

/-- R547. BANK_MONITOR: the monitor's check of a frame. A fault is recorded when it appears and asks for a health test. -/
def execBankMonitor (cells : List Nat) (vres : Nat) (fell : Bool) (s0 : State) : Res :=
  let s1 := s0.begin
  let s : State := { s1 with pwr := { s1.pwr with vres := vres } }
  match monitorCause cells (fell && !s.pwr.testRunning && s.pwr.flush.isNone) with
  | none => .next s
  | some (cause, cell) =>
    let s2 : State := { s with pwr := { s.pwr with monitorFault := true, testDue := true } }
    .next (s2.gate (!s.pwr.monitorFault) fun s =>
      s.record bPwr 323 0x0F35 .error ([(1, cell)] ++ ((cells ++ [0, 0, 0, 0, 0]).take 5).map (fun v => (2, v)) ++ [(1, cause)]))

/-! ### Waiting activities (R480) -/

/-- R335. Sanitize zero-fills DRAM under a new cache key; writes still queued for it are dropped. -/
def State.zeroDram (s : State) : State :=
  { s with
    draws := s.draws + 1
    dram := []
    sec := { s.sec with cacheKey := true, cacheKeyEpoch := s.sec.cacheKeyEpoch + 1 }
    drcs := s.drcs.map fun d => (d.1, { d.2 with subs := d.2.subs.map fun u => (u.1, { u.2 with writeQ := [] }) }) }

/-- R480. What a waiting activity does when it begins. -/
def State.actBegin (s : State) (a : Nat) : State :=
  if a = 5 ∨ a = 6 then
    match s.sec.queue with
    | [] => s
    | (k, f) :: rest =>
      if f = (a == 6) ∧ s.sec.drbgOk = true ∧ s.sec.error = false ∧ (s.sec.slots.any fun p => p.2.op != 0) = false then
        ({ s with sec := { s.sec with queue := rest } } : State).keyStart k f
      else s
  else if a = 8 then
    match s.mnt.retrain with
    | [] => s
    | c :: _ => s.retrainStart c
  else if a = 10 then s.capStart
  else if a = 12 then s.zeroDram
  else s

/-- R480. ACT_RESUMED: an activity that waited begins, once nothing it waits for runs. -/
def execActResumed (activity : Nat) (s0 : State) : Res :=
  let s := s0.begin
  match s.mnt.waiting.get? activity with
  | none => .next s
  | some since =>
    .next (s.gate ((s.blocker activity).isNone && s.pwr.flush.isNone) fun s =>
      let s1 : State := { s with mnt := { s.mnt with waiting := s.mnt.waiting.erase activity } }
      (s1.record bMnt (actSource activity) 0x0D03 .info [(1, activity), (4, s.tt.fn - since)]).actBegin activity)

/-! ### The refresh wake (R472) -/

/-- R211, R472. Row bands, by channel × 228 + band, that will exceed their refresh interval within `h` hours. -/
def State.bandsDue (s : State) (h : Nat) : List Nat :=
  (List.range 4104).filter fun k =>
    let c := k / 228
    !(s.mch c).failed && decide (s.interval c (k % 228) < ((s.mch c).bands.getD (k % 228) {}).age s.tt.fn (k % 228) + h * 878906250)

/-- R472, R538. MOOR_REFRESH_WAKE: bands due within 24 h wake the module; those due within 48 h are then rewritten. -/
def execMoorRefreshWake (s0 : State) : Res :=
  let s := s0.begin
  let due := s.bandsDue 24
  .next (s.gate (s.pwr.state == 4 && !due.isEmpty) fun s =>
    let s1 := s.wakeMoored 3
    ({ s1 with mnt := { s1.mnt with refreshWake := true } } : State).record bMnt 336 0x0D31 .info [(4, due.length)])

end Sys2Proof.Machine
end

