-- ==== Sys2Proof/Machine/Barge.lean ====
section
/-!
DEFINITION. The barge (R481–R487, R396): doorbells, the checks a descriptor passes, the four operations, completion and
resume.
-/
namespace Sys2Proof.Machine

/-! ### Descriptors (R481, R483) -/

/-- R481. SRC. -/
def Descriptor.src (d : Descriptor) : Nat := bits d.word 64 64
/-- R481. DST. -/
def Descriptor.dst (d : Descriptor) : Nat := bits d.word 128 64
/-- R481. LEN in sectors. -/
def Descriptor.len (d : Descriptor) : Nat := bits d.word 192 32
/-- R481. PATTERN or SEED. -/
def Descriptor.arg (d : Descriptor) : Nat := bits d.word 256 64
/-- R481. FLAGS.IRQ. -/
def Descriptor.irq (d : Descriptor) : Bool := d.word.getLsbD 8
/-- R481. FLAGS.SEEDED. -/
def Descriptor.seeded (d : Descriptor) : Bool := d.word.getLsbD 9
/-- R482. The operation reads a source. -/
def Descriptor.reads (d : Descriptor) : Bool := d.op == 1 || d.op == 4
/-- R482. The operation writes a destination. -/
def Descriptor.writes (d : Descriptor) : Bool := d.op == 1 || d.op == 2 || d.op == 3
/-- The DPA of the range an operation touches first. -/
def Descriptor.first (d : Descriptor) : Nat := if d.reads then d.src else d.dst

/-- R481, R483. The form of a descriptor: its operation, end mark, zero fields, alignment and length. -/
def Descriptor.formOk (d : Descriptor) : Bool :=
  let dpaOk (used : Bool) (a : Nat) : Bool := if used then a % 64 == 0 && decide (a < 2 ^ 45) else a == 0
  let argUsed := d.op == 2 || (d.op == 4 && d.seeded)
  decide (1 ≤ d.op) && decide (d.op ≤ 4) && d.endMark && bits d.word 10 22 == 0 && (!d.seeded || d.op == 4)
    && dpaOk d.reads d.src && dpaOk d.writes d.dst && decide (1 ≤ d.len) && decide (d.len ≤ 4194304)
    && bits d.word 224 32 == 0 && (argUsed || d.arg == 0) && bits d.word 320 192 == 0

/-- R483. The valid region that holds a whole range. -/
def State.rangeRegion (s : State) (dpa len : Nat) : Option Nat :=
  (s.regionAt bXl dpa).filter fun n => decide (dpa + 64 * len ≤ ((s.region bXl n).base + (s.region bXl n).size) * 2 ^ 30)

/-- R483. The staging DRAM channel of barge channel `n` is in use. -/
def State.stagingUsed (s : State) (n : Nat) : Bool :=
  !(s.brg n).out && s.cache.drams.contains n && !s.cache.uncachedDrams.contains n

/-- R483. The status of the first check a descriptor fails; 0 when it passes. `forPeer` leaves out the check of the role. -/
def State.bargeCheck (s : State) (n : Nat) (d : Descriptor) (forPeer : Bool) : Nat :=
  let src := s.rangeRegion d.src d.len
  let dst := s.rangeRegion d.dst d.len
  let overlap := d.op == 1 && decide (d.src < d.dst + 64 * d.len) && decide (d.dst < d.src + 64 * d.len)
  let named := (if d.reads then [src] else []) ++ (if d.writes then [dst] else [])
  let allowed (r : Option Nat) : Bool := match r with
    | some k => (s.region bXl k).bargeOk && !(s.region bXl k).protectedR
    | none => true
  let mirror (r : Option Nat) : Bool := match r with
    | some k => s.mirrored bXl k
    | none => false
  if d.formOk = false then 3
  else if (named.any fun r => r.isNone) || overlap then 3
  else if !(named.all allowed) then 2
  else if s.sec.pass.locked || s.sec.error || s.sec.erase.isSome then 4
  else if !s.stagingUsed n then 5
  else if d.writes && mirror dst && ((!forPeer && s.refusesMirror) || (d.op == 1 && !mirror src)) then 6
  else 0

/-! ### Doorbell, start and resume (R485, R486, R396) -/

/-- R485. A write of TAIL. When the module is Moored it wakes it, as a CXL.mem request does. -/
def State.doorbell (s : State) (n tail cause : Nat) : State :=
  (s.wakeMoored cause).modBrg n fun c => { c with tail := tail % 65536 }

/-- R485, R454. BARGE_DOORBELL, as the vendor command C050h or as a write of BRG_CHn_DOORBELL; a bus write gives the channel
and TAIL in the same places. -/
def execBargeDoorbell (m : Master) (payload : List (BitVec 8)) (s : State) : Res :=
  if isPath m then s.vendor m 0xC050 4 payload fun s =>
    if 4 ≤ pnum payload 0 1 ∨ pnum payload 1 1 ≠ 0 then s.vendorRefuse m 0xC050 6
    else (s.doorbell (pnum payload 0 1) (pnum payload 2 2) 2).vendorOk m []
  else .next (s.begin.gate (decide (pnum payload 0 1 < 4) && (s.live bBrg || s.pwr.state == 4)) fun s =>
    s.doorbell (pnum payload 0 1) (pnum payload 2 2) 1)

/-- R486. RESUME takes a halted channel out of its halt. -/
def State.bargeGoOn (s : State) (n : Nat) : State :=
  s.gate ((s.brg n).state == 2) fun s => s.modBrg n fun c => { c with state := 0 }

/-- R486. RESUME. -/
def execBargeResume (ch : Nat) (s : State) : Res := .next (s.begin.gate (decide (ch < 4)) fun s => s.bargeGoOn ch)

/-- R482. The CRC a CRC descriptor begins with, before the final XOR. -/
def Descriptor.crcInit (d : Descriptor) : BitVec 64 :=
  if d.seeded then ~~~(BitVec.ofNat 64 d.arg) else BitVec.allOnes 64

/-- A checked descriptor begins to run on channel `n`. -/
def State.bargeRun (s : State) (n : Nat) : State :=
  s.modBrg n fun c => { c with
    state := 1, sectors := 0, moved := false, outstanding := 0, flag1 := false
    phase := match c.cur with
      | some d => !d.reads
      | none => false
    acc := match c.cur with
      | some d => d.crcInit
      | none => 0 }

/-- R396. The lead proposes the launch of a descriptor with a mirrored destination 8 frames ahead. -/
def State.bargePropose (s : State) (n : Nat) (d : Descriptor) : State :=
  let id := s.fry.atFnNext % 255 + 1
  let b : BargeAtFn := { id := id, desc := d, mine := true, launch := s.tt.fn + 8, widx := s.fry.widxSent, stage := 1
                         dst := d.dst, len := d.len }
  let s1 : State := { s with fry := { s.fry with atFnNext := id, bargeAt := s.fry.bargeAt.set n b } }
  ((s1.atFnNote b.launch id 1 true).ferry 9 [1, n, id, b.launch, b.widx] (leBytes 64 d.word.toNat)).modBrg n
    fun c => { c with state := 3 }

/-- R396. The destination of a descriptor lies in a mirrored region of a joined lead. -/
def State.bargeMirrored (s : State) (d : Descriptor) : Bool :=
  s.joined && s.isLead && d.writes && (match s.rangeRegion d.dst d.len with
    | some k => s.mirrored bXl k
    | none => false)

/-- R483, R485, R487. DESCRIPTOR_START: an idle channel takes the descriptor at its queue's head, checks it, and runs it or
waits for its launch. -/
def execDescriptorStart (ch : Nat) (s0 : State) : Res :=
  let s := s0.begin
  let c := s.brg ch
  let ready := decide (ch < 4) && c.state == 0 && c.cur.isNone && c.head != c.tail && s.live bBrg && s.pwr.flush.isNone
    && (s.pwr.state == 2 || s.pwr.state == 3)
  match c.desc.words with
  | [] => .next s
  | w :: _ => .next (s.gate ready fun s =>
      let d : Descriptor := { word := w.word, endMark := w.endMark && !w.bad, index := c.head }
      let s1 := s.modBrg ch fun c => { c with desc := c.desc.pop.1, head := (c.head + 1) % 65536, cur := some d }
      let status := s1.bargeCheck ch d false
      if status ≠ 0 then s1.bargeHalt ch d status (if status = 3 then 0 else d.first)
      else if s1.bargeMirrored d then s1.bargePropose ch d
      else s1.bargeRun ch)

/-! ### Reading and writing sectors (R482, R484) -/

/-- R482. A source sector: from the cache or a landing entry when it is valid there, else from its block once that has been read; a
block that no step of the ladder reads counts as poisoned (R484). -/
def State.bargeSector (s : State) (n dpa : Nat) : Option (Sector × Bool) :=
  let lpn := lpnOfDpa dpa
  let i := sectorOf dpa
  match s.sectorHere lpn i with
  | some v => some v
  | none => (s.blockFor (.barge n) lpn (i / 4)).bind fun m =>
      if m.step = 4 then some (0, true) else m.result.map fun r => (lineSector r.1 (i % 4), r.2.getLsbD (i % 4))

/-- R405. Channel-local address of staged sector `i`. -/
def stageAddr (i : Nat) : Nat := 0x7ae000000 + 64 * i

/-- R482. CRC-64 of a sector, byte 0 first, from a running value. -/
def crc64 (c : BitVec 64) (d : Sector) : BitVec 64 :=
  let step (c : BitVec 64) : BitVec 64 := if c.getLsbD 0 then (c >>> 1) ^^^ 0xad93d23594c935a9#64 else c >>> 1
  (leBytes 64 d.toNat).foldl (fun c b => (List.range 8).foldl (fun x _ => step x) (c ^^^ b.setWidth 64)) c

/-- R482, R489. Sectors the barge may still move in this frame: BRG_RATE.CAP GB/s. -/
def State.bargeRoom (s : State) : Nat := 64 * max 1 (s.regF bBrg 0x014 0 6) - s.mnt.bargeNow

/-- Note one sector moved by channel `n`. -/
def State.bargeStep (s : State) (n ev : Nat) : State :=
  ({ s with mnt := { s.mnt with bargeNow := s.mnt.bargeNow + 1 } } : State).count bBrg ev 1 |>.modBrg n fun c =>
    { c with sectors := c.sectors + 1 }

/-- R391, R396. A sector's page is being taken from the peer. -/
def State.sectorBusy (s : State) (dpa : Nat) : Bool :=
  s.needsFetch (lpnOfDpa dpa) || s.integ.fromPeer.contains (lpnOfDpa dpa * 16 + sectorOf dpa / 4)

/-- R482. The reads of the blocks that the next `k` source sectors lack begin. -/
def State.bargeAhead (s : State) (n k : Nat) : State :=
  let c := s.brg n
  match c.cur with
  | some d =>
    if c.phase || c.state != 1 then s
    else (List.range (min k s.bargeRoom)).foldl (fun s i =>
      let a := d.src + 64 * (c.sectors + i)
      let need := decide (c.sectors + i < d.len) && !s.sectorBusy a && (s.bargeSector n a).isNone
        && (s.blockFor (.barge n) (lpnOfDpa a) (sectorOf a / 4)).isNone
      s.gate need fun s => s.blockBegin .barge (.barge n) (lpnOfDpa a) (sectorOf a / 4)) s
  | none => s

/-- R482. The block of a source sector has been used: its read is dropped after its last sector. -/
def State.bargeUsed (s : State) (n dpa : Nat) (last : Bool) : State :=
  if last || sectorOf dpa % 4 == 3 then
    { s with media := { s.media with reads := s.media.reads.filter fun m =>
        !(m.use == .barge n && m.lpn == lpnOfDpa dpa && m.block == sectorOf dpa / 4) } }
  else s

/-- R283, R484. A source sector of channel `n` is poisoned, or its block is uncorrectable: the channel halts with status 1. -/
def State.bargeBad (s : State) (n : Nat) (d : Descriptor) (a : Nat) : State :=
  let lost := (s.sectorHere (lpnOfDpa a) (sectorOf a)).isNone
  let s1 := match s.blockFor (.barge n) (lpnOfDpa a) (sectorOf a / 4) with
    | some m => s.gate (lost && m.step == 4) fun s => s.uncorrectable m.psn m.pos 3 0
    | none => s
  s1.bargeHalt n d 1 a

/-- R482, R484. Take the next source sector of channel `n`: into staging for COPY, into the CRC for CRC. -/
def State.bargeReadOne (s : State) (n : Nat) : State :=
  let c := s.brg n
  match c.cur with
  | none => s
  | some d =>
    let a := d.src + 64 * c.sectors
    if c.phase || c.state != 1 || d.len ≤ c.sectors || s.sectorBusy a || s.bargeRoom == 0 then s
    else
      match s.bargeSector n a with
      | none => s
      | some (x, false) =>
        let s1 := (s.bargeUsed n a (c.sectors + 1 == d.len)).bargeStep n 0x40
        if d.op = 1 then s1.dramPut n (stageAddr c.sectors) x
        else s1.modBrg n fun c => { c with acc := crc64 c.acc x }
      | some _ => s.bargeBad n d a

/-- R482, R484. Write the next destination sector of channel `n`. A staged sector that is uncorrectable is written poisoned. -/
def State.bargeWriteOne (s : State) (n : Nat) (bad : List Nat) : State :=
  let c := s.brg n
  match c.cur with
  | none => s
  | some d =>
    let a := d.dst + 64 * c.sectors
    if !c.phase || c.state != 1 || d.len ≤ c.sectors || s.bargeRoom == 0 then s
    else
      let x := stageAddr c.sectors
      let lost := d.op == 1 && bad.contains c.sectors
      let s1 := if d.op = 1 then s.column n x 0x40 else s
      let s2 := if lost then (s1.dramUncorrectable n (subOf x) x (lpnOfDpa a) (sectorOf a) 2).modBrg n
          fun c => { c with flag1 := true }
        else s1
      let data : Sector := if lost then 0 else if d.op = 1 then s2.dramSector n x
        else if d.op = 2 then ofWords d.arg else 0
      let r : HostReq := { id := s2.cache.nextReq, origin := .barge ⟨n % 4, Nat.mod_lt _ (by decide)⟩, dpa := a
                           kind := .write, data := data, be := BitVec.allOnes 64, poison := lost
                           region := (s2.regionAt bXl a).getD 0, recv := s2.ns, admitNs := s2.ns }
      let s3 : State := { s2 with cache := { s2.cache with nextReq := s2.cache.nextReq + 1 } }
      ((s3.bargeStep n 0x41).modBrg n fun c => { c with outstanding := c.outstanding + 1 }).submit r
where
  /-- R481. The 8 B pattern repeated over a sector. -/
  ofWords (p : Nat) : Sector := (List.range 8).foldl (fun v i => v ||| (BitVec.ofNat 512 p <<< (64 * i))) 0

/-- Apply `f` `k` times. -/
def repeatOn (f : State → State) : Nat → State → State
  | 0, s => s
  | k + 1, s => repeatOn f k (f s)

/-- The phase of channel `n` that has moved every sector ends: COPY goes on to its writes; otherwise all is moved. -/
def State.bargePhase (s : State) (n : Nat) : State :=
  let c := s.brg n
  match c.cur with
  | none => s
  | some d =>
    if c.state != 1 || c.sectors < d.len then s
    else if d.op = 1 ∧ c.phase = false then s.modBrg n fun c => { c with phase := true, sectors := 0 }
    else s.modBrg n fun c => { c with moved := true }

/-- R480 note 15. The staging area of channel `n` can be reached: its DRAM channel is in service. -/
def State.stagingUp (s : State) (n : Nat) : Bool := (s.drc n).state == 3 && !s.cache.retrainDrams.contains n

/-- R482. Up to `k` sectors of the phase in progress of a descriptor with operation `op` move on channel `n`. `lost` are the staged sectors
whose burst is uncorrectable. -/
def State.bargeMove (s : State) (n k op : Nat) (lost : List Nat) : State :=
  let c := s.brg n
  let mine := match c.cur with
    | some d => d.op == op
    | none => false
  s.gate (decide (n < 4) && c.state == 1 && mine && s.live bBrg && s.pwr.flush.isNone && (op != 1 || s.stagingUp n)) fun s =>
    (if c.phase then repeatOn (fun s => s.bargeWriteOne n lost) k s else repeatOn (fun s => s.bargeReadOne n) k (s.bargeAhead n k)).bargePhase n

/-- R482. COPY. -/
def execBargeCopy (cyc ch sectors : Nat) (lost : List Nat) (s : State) : Res :=
  .next ((s.begin.at cyc).bargeMove ch sectors 1 lost)

/-- R482. FILL_PATTERN. -/
def execBargeFill (cyc ch sectors : Nat) (s : State) : Res := .next ((s.begin.at cyc).bargeMove ch sectors 2 [])

/-- R482. ZERO. -/
def execBargeZero (cyc ch sectors : Nat) (s : State) : Res := .next ((s.begin.at cyc).bargeMove ch sectors 3 [])

/-- R482. CRC. -/
def execBargeCrc (cyc ch sectors : Nat) (s : State) : Res := .next ((s.begin.at cyc).bargeMove ch sectors 4 [])

/-! ### Completion (R486, R487) -/

/-- R486. The descriptor of channel `n` completes: its record is pushed, and vector 8 is raised when it asks for it. -/
def State.bargeFinish (s : State) (n : Nat) (d : Descriptor) : State :=
  let crc := ~~~(s.brg n).acc
  let s1 := s.bargeRecord n d 0 (if d.op = 4 then crc.toNat else d.len)
  let s2 := (s1.modBrg n fun c => (if d.op = 4 then { c with crc := crc } else c : BargeCh).clear 0).count bBrg 0x42 1
  s2.gate d.irq fun s => s.msixAll 8

/-- R396, R487. A descriptor launched on both modules is done on both. -/
def State.bargeBoth (s : State) (n : Nat) : State :=
  match s.fry.bargeAt.get? n, (s.brg n).cur with
  | some b, some d =>
    s.gate (b.mine && b.doneHere && b.donePeer) fun s =>
      ({ s with fry := { s.fry with bargeAt := s.fry.bargeAt.erase n } } : State).bargeFinish n d
  | _, _ => s

/-- R482, R486, R487. BARGE_COMPLETE: every sector has moved and every write has reached its R28 point. -/
def execBargeComplete (ch : Nat) (s0 : State) : Res :=
  let s := s0.begin
  let c := s.brg ch
  match c.cur with
  | none => .next s
  | some d => .next (s.gate (decide (ch < 4) && c.state == 1 && c.moved && c.outstanding == 0) fun s =>
      match s.fry.bargeAt.get? ch with
      | none => s.bargeFinish ch d
      | some b =>
        let s1 : State := { s with fry := { s.fry with bargeAt := s.fry.bargeAt.set ch { b with doneHere := true } } }
        if b.mine then s1.bargeBoth ch
        else
          let s2 : State := { s1 with fry := { s1.fry with bargeAt := s1.fry.bargeAt.erase ch } }
          ((s2.ferry 9 [5, ch, b.id, b.launch, b.widx] []).modBrg ch fun c => c.clear 0).count bBrg 0x42 1)

end Sys2Proof.Machine
end

