-- ==== Sys2Proof/Machine/Power.lean ====
section
/-!
DEFINITION. PWR (R523–R553): rails and their outcomes, the power-up and power-down sequences, power states and their
requests, the end of a hold-up flush, power classes, and the thermal limits (R613, R614).
-/
namespace Sys2Proof.Machine

/-! ### What a loss of power leaves (R567) -/

/-- R562–R564. What a later start can read back: tables and positions in the internal area, and the stripes whose writes were
interrupted. -/
def State.nvOf (s : State) : Nv :=
  let cut := (s.media.crossings.filter fun x => x.launched && decide (x.done.length < x.cws.length)).map fun x => x.psn
  let one := (s.media.rewrites.filter fun w => w.slot.isSome).map fun w => w.psn
  { fn := s.tt.fn, xl := { s.xl with moves := [] }, mchs := s.media.mchs, rebuilds := s.media.rebuilds
    degraded := s.media.degraded, lost := s.media.lost, list := s.integ.list, overflow := s.integ.overflow
    overflowAt := s.integ.overflowAt, sweepPos := s.integ.sweepPos, logicalPos := s.integ.logicalPos
    logicalStart := s.integ.logicalStart, sweepStart := s.integ.sweepStart, mediaPasses := s.integ.mediaPasses
    guards := s.media.guards, torn := (cut ++ one).eraseDups, flushStep := (s.pwr.flush.map fun f => f.step).getD 0 }

/-- R525, R532, R567. Every rail is off: what is left is the media, the stores, OTP, the inputs and, while VDD_AUX stays up, the
supervisor. `to'` is OFF (0) or HALTED (7). -/
def State.powerOff (s : State) (aux : Bool) (to' : Nat) : State :=
  let r := State.reset
  let rail (p : Nat × Rail) : Nat × Rail :=
    if p.1 = 0 ∨ p.1 = 1 ∨ p.1 = 3 ∨ (p.1 = 4 ∧ aux) then p else (p.1, { p.2 with state := 0, mv := 0 })
  let pass := { s.sec.pass with attemptsUser := 0, attemptsMaster := 0, frozen := false }
  let pwr : Pwr := { r.pwr with
    state := to', mainOk := s.pwr.mainOk, auxOk := s.pwr.auxOk, vres := s.pwr.vres, cm := s.pwr.cm, esr := s.pwr.esr
    testResult := s.pwr.testResult, vresFault := s.pwr.vresFault, rails := s.pwr.rails.map rail
    first := if aux then s.pwr.first else none, uptimeNs := if aux then s.pwr.uptimeNs else 0, pfSeq := s.pwr.pfSeq
    saveSlot := s.pwr.saveSlot, offReq := s.pwr.offReq, attempts := s.pwr.attempts, onCause := s.pwr.onCause
    mainFell := to' == 7 && (s.pwr.rails.getD 1 {}).state == 3 }
  let start : Start := { r.start with
    perst := s.start.perst, pwrdis := s.start.pwrdis, prsntHigh := s.start.prsntHigh, ferryPres := s.start.ferryPres
    errorLost := s.start.errorLost, coldStarts := s.start.coldStarts
    firstFn := s.start.firstFn }
  let sec : Sec := { r.sec with
    recSlots := s.sec.recSlots, swkEpoch := s.sec.swkEpoch, keyrecSeq := s.sec.keyrecSeq, keyrecFn := s.sec.keyrecFn
    cacheKeyEpoch := s.sec.cacheKeyEpoch, nextSession := s.sec.nextSession, certSlot1 := s.sec.certSlot1, pass := pass }
  let mbox : Mbox := { r.mbox with
    shutdown := s.mbox.shutdown, dirtyCount := s.mbox.dirtyCount
    fwRunning := s.mbox.fwRunning, fwNext := s.mbox.fwNext, healthSeq := s.mbox.healthSeq }
  { r with
    pending := s.pending, out := s.out, draws := s.draws, store := s.store, fwStore := s.fwStore, save := s.save
    nv := if s.start.step = 8 then s.nvOf else s.nv
    media := { r.media with
      cells := s.media.cells, tables := s.media.tables, remapSave := s.media.remapSave, wiped := s.media.wiped
      tableFn := s.media.tableFn, lifeWarned := s.media.lifeWarned, lifeEnded := s.media.lifeEnded }
    sec := sec, mbox := mbox, pwr := pwr, start := start
    fry := { r.fry with roleRec := s.fry.roleRec, token := s.fry.token, suspects := s.fry.suspects }
    cache := { r.cache with keyEpoch := s.cache.keyEpoch }
    mnt := { r.mnt with capStartUs := if aux then s.mnt.capStartUs else 0 } }

/-! ### Requests and flushes (R529–R531, R548–R550) -/

/-- R531. A media rail failed: the media is unreachable until the next start. -/
def State.mediaLost (s : State) : Bool := [13, 14, 15, 16].any fun r => (s.pwr.rails.getD r {}).state == 3

/-- R530, R531, R548. Start a flush. One with the media unreachable does not complete, and ends in HALTED. -/
def State.flushFor (s : State) (cause : Nat) (halt onBank : Bool) : State :=
  let s1 := s.enterFlush cause (halt || s.mediaLost) onBank
  { s1 with pwr := { s1.pwr with flush := s1.pwr.flush.map fun f => { f with incomplete := f.incomplete || s.mediaLost } } }

/-- R529, R530. An Off request: it reverses a power-up, and starts a flush on main power in service; in a flush it is ignored. -/
def State.offRequest (s : State) : State :=
  if s.pwr.state = 1 then s.pwrTo 6 1
  else if s.pwr.state = 2 ∨ s.pwr.state = 3 ∨ s.pwr.state = 4 then s.flushFor 2 false s.pwr.onBank
  else s

/-- R529. The same as a standing request, until an On request. -/
def State.offStand (s : State) : State :=
  if s.pwr.state = 5 then s else ({ s with pwr := { s.pwr with offReq := true } } : State).offRequest

/-- R529, R530. An On request, with the cause the next cold start reports. During a power-down or a flush the module goes all
the way to OFF first. -/
def State.onRequest (s : State) (cause : Nat) : State :=
  { s with pwr := { s.pwr with offReq := false, onCause := cause } }

/-- R529. PWR_REQ_OFF: TOP_PWR_REQ.OFF. -/
def execPwrReqOff (s : State) : Res := .next s.begin.offStand

/-- R550. Pages destaged so far. -/
def State.flushCount (s : State) : State :=
  { s with pwr := { s.pwr with flush := s.pwr.flush.map fun f => { f with destaged := f.dirty - s.allDirty } } }

/-- R548 steps 6 to 8. The SRAM state is saved to the other slot, the records are written, and the power-fail record last. -/
def State.flushSave (s0 : State) : State :=
  let s := s0.flushCount.internalWear
  let s1 : State := { s with
    save := some s.nvOf
    pwr := { s.pwr with saveSlot := 1 - s.pwr.saveSlot, flush := s.pwr.flush.map fun f => { f with saved := true } } }
  let s2 := s1.keyRecWrite
  let old := s2.fry.roleRec
  let lost := s2.fry.clearing || s2.fry.bitmapAll || s2.fry.anyMarked
  let full := (old.map fun r => r.full).getD false || lost
  let suspect := (old.map fun r => r.suspect).getD false
  let s3 := s2.gate s2.pairCfg fun s => s.roleWrite ((old.map fun r => r.role).getD 0) (!suspect) full suspect
  s3.healthWrite.pfWrite true

/-- R529, R548, R549. POWER_DOWN: the rails are released, after the last steps of a flush when one ends here. A flush with the
media unreachable records COMPLETE = 0. -/
def execPowerDown (s0 : State) : Res :=
  let s := s0.begin
  match s.pwr.flush with
  | some f =>
    let s1 := if f.incomplete then (s.flushCount.pfWrite false) else if 6 ≤ f.step then s.flushSave else s
    .next (if f.incomplete || decide (6 ≤ f.step) then s1.powerOff true (if f.halt then 7 else 0) else s)
  | none => .next (if s.pwr.state = 6 then s.powerOff true 0 else s)

/-- R549. FLUSH_ABORT: on the bank, VRES has fallen to v_floor; the record says COMPLETE = 0, and every rail is released at once. -/
def execFlushAbort (vres : Nat) (s0 : State) : Res :=
  let s := s0.begin
  .next (if s.pwr.flush.isSome && s.pwr.onBank && decide (vres ≤ vFloor s.pwr.cm s.pwr.esr) then
      ((({ s with pwr := { s.pwr with vres := vres } } : State).flushCount).pfWrite false).powerOff true
        (if (s.pwr.flush.map fun f => f.halt) = some true then 7 else 0)
    else s)

/-! ### Rails (R526–R531) -/

/-- Set a rail's state and voltage, keeping its lowest and highest. -/
def State.railSet (s : State) (r st mv : Nat) : State :=
  { s with pwr := { s.pwr with
    rails := Kv.mod s.pwr.rails r {} fun x => { x with
      state := st, mv := mv, minMv := if x.minMv = 0 then mv else min x.minMv mv, maxMv := max x.maxMv mv }
    auxOk := if r = 0 then st == 1 else s.pwr.auxOk
    mainOk := if r = 1 then st == 1 else s.pwr.mainOk
    vresFault := if r = 3 then st == 3 else s.pwr.vresFault } }

/-- R527, R530. Loss of main power, in each state. In a power-up the slices are enabled in step 8 (log entry 164). -/
def State.mainLost (s : State) : State :=
  let s1 := s.latchFirst 1 2
  if s.pwr.state = 1 then
    if s.start.step = 8 then s1.flushFor 5 false true else s1.pwrTo 6 2
  else if s.pwr.state = 2 ∨ s.pwr.state = 3 ∨ s.pwr.state = 4 ∨ s.pwr.state = 5 then s1.flushFor 1 false true
  else s

/-- R527, R531, R548. MAIN_POWER_LOSS: 12V_MAIN below its warning level. -/
def execMainPowerLoss (mv : Nat) (s0 : State) : Res :=
  let s := s0.begin
  .next (s.gate ((s.pwr.rails.getD 1 {}).state != 2) fun s =>
    (((s.railSet 1 2 mv).record bPwr 306 0x0F11 .warning [(1, 1), (2, mv)])).mainLost)

/-- R531. RAIL_WARN: warning level on a rail; on 12V_MAIN it is the loss of main power. -/
def execRailWarn (rail mv : Nat) (s0 : State) : Res :=
  let s := s0.begin
  .next (s.gate (decide (rail < 17) && (s.pwr.rails.getD rail {}).state != 2) fun s =>
    let s1 := (s.railSet rail 2 mv).record bPwr (305 + rail) 0x0F11 .warning [(1, rail), (2, mv)]
    s1.gate (rail == 1) State.mainLost)

/-- R526. Step of a rail in the power-up order. -/
def railStep (r : Nat) : Nat := if r ≤ 3 then 1 else if r < 12 then r - 4 + b2n (5 ≤ r) else r - 4

/-- R531. The outcome of a rail's fault in service, by its row from 0. -/
def railOutcome (r : Nat) : Nat :=
  if r = 1 then 0 else if r = 0 then 1 else if r = 3 then 2 else if r < 8 then 3 else if r < 10 then 4 else if r < 13 then 5 else 6

/-- R526, R529. Release rails: their state becomes off. -/
def State.release (s : State) (rs : List Nat) : State :=
  { s with pwr := { s.pwr with rails := rs.foldl (fun m r => Kv.mod m r {} fun x => { x with state := 0, mv := 0 }) s.pwr.rails } }

/-- R526. The dependents of a rail. -/
def railDependents (r : Nat) : List Nat :=
  match r with
  | 2 => [5, 6, 7, 8, 9, 10, 11, 12, 13, 14, 15, 16]
  | 5 => [6, 7, 8, 9, 10, 11, 12, 13, 14, 15, 16]
  | 6 => [7, 8, 9, 10, 11, 12, 13, 14, 15, 16]
  | 7 => [8, 9, 10, 11, 12, 13, 14, 15, 16]
  | 8 => [9]
  | 10 => [11, 12]
  | 14 => [15, 16]
  | _ => []

/-- R531, R186, R187. DRAM is lost on every channel, and CXL.mem is disabled. -/
def State.dramLost (s : State) : State :=
  let cs := s.cache.drams
  let s1 := cs.foldl (fun s c => (s.loseChannel c).modDrc c fun d => { d with state := 7, failed := true }) s
  let s2 : State := { s1 with cache := { s1.cache with uncachedDrams := cs, drainDrams := [], retrainDrams := [] } }
  let s3 := cs.foldl (fun s c => (s.loseReads c).bargeOut c) s2
  { s3 with start := { s3.start with disabled := true } }

/-- R493, R531. A rail fails in service: the first failure is latched, the fault is recorded, and the rail's outcome follows. Power that is
lost at once cuts a store write under way. -/
def State.railFails (s : State) (rail mv : Nat) : State :=
  let o := railOutcome rail
  let s1 := s.latchFirst rail 3
  let s2 := s1.record bPwr (305 + rail) 0x0F12 .error [(1, rail), (2, mv), (1, o)]
  match o with
  | 3 => s1.storeCut.powerOff (rail != 4) 0
  | 0 => s2.flushFor 1 false true
  | 4 => s2.flushFor 3 true false
  | 5 => s2.dramLost.release ([10, 11, 12].filter fun r => r != rail)
  | 6 =>
    let s3 := s2.release ([13, 14, 15, 16].filter fun r => r != rail)
    { s3 with start := { s3.start with disabled := true } }
  | _ => s2

/-- R530. A rail fails in a flush or in a power-down: the rails that depend on it go too. -/
def State.railLateFault (s : State) (rail : Nat) : State :=
  let s1 := s.latchFirst rail 3
  let s2 : State := { s1 with pwr := { s1.pwr with faultMask := s1.pwr.faultMask ||| 2 ^ rail } }
  (s2.release (railDependents rail)).record bPwr (305 + rail) 0x0F13 .error [(1, rail), (1, railStep rail)]

/-- R530, R531. RAIL_FAULT: a rail reaches fault level, in service, in a flush or in a power-down. -/
def execRailFault (rail mv : Nat) (s0 : State) : Res :=
  let s := s0.begin
  let st := s.pwr.state
  .next (s.gate (decide (rail < 17)) fun s =>
    let s1 := s.railSet rail 3 mv
    if st = 5 ∨ st = 6 then s1.railLateFault rail
    else if st = 7 then { s1 with pwr := { s1.pwr with mainFell := s1.pwr.mainFell || rail == 1 } }
    else if st = 2 ∨ st = 3 ∨ st = 4 then s1.railFails rail mv
    else if st = 1 ∧ rail = 1 then s1.mainLost
    else s1)

/-- R527, R529, R533. RAIL_IN_TOLERANCE: a rail crosses back. The return of 12V_MAIN is an On request, and takes the module out
of HALTED when it had fallen. -/
def execRailInTolerance (rail mv : Nat) (s0 : State) : Res :=
  let s := s0.begin
  if 17 ≤ rail then .next s
  else
    let fresh := (s.pwr.rails.getD rail {}).state == 0
    let s1 := s.railSet rail 1 mv
    if rail ≠ 1 then .next s1
    else if s.pwr.state = 7 ∧ s.pwr.mainFell = true then
      let s2 := s1.onRequest 5
      .next ({ s2 with pwr := { s2.pwr with state := 0, mainFell := false, attempts := 0 } })
    else .next (s1.gate (!s1.start.pwrdis && !s1.start.prsntHigh) fun s => s.onRequest (if fresh then s.pwr.onCause else 3))

/-! ### Power-up (R528) -/

/-- The nominal voltage of rail `r` in mV (R523, R526). -/
def railNominal (r : Nat) : Nat :=
  [3300, 12000, 12000, 11000, 800, 1800, 800, 750, 850, 1200, 1800, 1100, 1100, 850, 2500, 1200, 5000].getD r 0

/-- R528. An attempt to bring up the rails. `miss` is the rail that missed its time and its voltage; the third miss in a row ends
in HALTED. -/
def State.powerUp (s : State) (miss : Option (Nat × Nat)) : State :=
  let s0 := if s.pwr.state = 1 then s else s.pwrTo 1 1
  match miss with
  | some (r, mv) =>
    let s1 := (s0.railSet r 3 mv).record bPwr (305 + r) 0x0F12 .error [(1, r), (2, mv), (1, railOutcome r)]
    let s2 : State := { s1 with pwr := { s1.pwr with attempts := s1.pwr.attempts + 1 } }
    (s2.latchFirst r 3).powerOff true (if s1.pwr.attempts < 2 then 0 else 7)
  | none =>
    let s1 := (2 :: (List.range 13).map (· + 4)).foldl (fun s r => s.railSet r 1 (railNominal r)) s0
    let s2 : State := { s1 with
      pwr := { s1.pwr with attempts := 0 }
      start := { s1.start with cause := s1.pwr.onCause, step := 2 } }
    s2.setDomains s2.openDomain

/-- R528, R571. What power-up asks for: VDD_AUX and 12V_MAIN in tolerance, no Off request, and the card seated. -/
def State.mayPowerUp (s : State) : Bool :=
  (s.pwr.state == 0 || s.pwr.state == 1) && s.start.step == 0 && s.pwr.auxOk && s.pwr.mainOk && !s.pwr.offReq
    && !s.start.pwrdis && !s.start.prsntHigh

/-- R528. POWER_UP. -/
def execPowerUp (miss : Option (Nat × Nat)) (s0 : State) : Res :=
  let s := s0.begin
  .next (s.gate (s.mayPowerUp && s.pwr.attempts == 0) fun s => s.powerUp miss)

/-- R528. POWER_UP_RETRY, 1 s after a failed power-up: another attempt. -/
def execPowerUpRetry (miss : Option (Nat × Nat)) (s0 : State) : Res :=
  let s := s0.begin
  .next (s.gate (s.mayPowerUp && decide (0 < s.pwr.attempts)) fun s =>
    s.powerUp miss)

/-! ### Power states (R533–R538) -/

/-- R534. IDLE_ENTRY. -/
def execIdleEntry (s0 : State) : Res :=
  let s := s0.begin
  let us := s.regF bPwr 0x01c 0 16
  let quiet := decide (s.pwr.lastReqNs + us * 1000 ≤ s.ns) && !(s.barge.any fun c => c.2.state == 1)
  .next (s.gate (s.pwr.state == 2 && us != 0 && quiet && !s.pwr.mooring) fun s => s.pwrTo 3 5)

/-- R535. Why a request for MOORED is refused, by R535's list from 0. -/
def State.moorRefusal (s : State) : Option Nat :=
  if s.mbox.bg.isSome then some 0
  else if ([4, 5, 6, 7, 8, 9, 10, 12].any fun a => s.runs a) || s.xl.berth.isSome then some 1
  else if s.barge.any fun c => c.2.state == 1 || c.2.state == 3 then some 2
  else if s.fry.pstate == .resyncing then some 3
  else none

/-- R397, R535. PWR_REQ_MOORED: refused with its cause, or entry begins; a follower whose lead is not Moored goes to Idle. -/
def State.moorRequest (s : State) : State :=
  if s.pwr.state ≠ 2 ∧ s.pwr.state ≠ 3 then s
  else match s.moorRefusal with
    | some c => s.record bPwr 304 0x0F02 .warning [(1, c)]
    | none =>
      if s.joined ∧ s.fry.role = .follower ∧ s.fry.peerPower ≠ 2 then
        let s1 : State := { s with fry := { s.fry with moorAsked := true } }
        if s.pwr.state = 2 then s1.pwrTo 3 5 else s1
      else { s with pwr := { s.pwr with mooring := true } }

/-- R535. PWR_REQ_MOORED. -/
def execPwrReqMoored (s : State) : Res := .next s.begin.moorRequest

/-- R538. PWR_REQ_OPEN: TOP_PWR_REQ.OPEN wakes the module from MOORED. -/
def execPwrReqOpen (s : State) : Res := .next (s.begin.wakeMoored 3)

/-- R538, R553. MOORED_WAKE for a cause of HP_MOOR; `failed` are the domains that do not power up within 20 µs. -/
def execMooredWake (cause : Nat) (failed : List Nat) (s0 : State) : Res :=
  let s := s0.begin
  .next (s.gate (s.pwr.state == 4) fun s =>
    let bad := failed.filter fun d => decide (d < 96) && s.openDomain d == 2
    let s1 := bad.foldl (fun s d =>
      let s1 : State := { s with pwr := { s.pwr with domFailed := s.pwr.domFailed ++ [d] } }
      s1.record bPwr 324 0x0F41 .error [(1, d), (1, 2)]) s
    s1.wakeMoored cause)

/-! ### Power classes (R540, R541) and thermal limits (R613, R614) -/

/-- R540. Watts of a class. -/
def classWatts (c : Nat) : Nat := match c with
  | 0 => 40
  | 1 => 55
  | _ => 70

/-- R541. The image allows a class. -/
def State.classAllowed (s : State) (c : Nat) : Bool := decide (c < 3) && (s.actW bPwr 0x014).getLsbD (4 + c)

/-- R246. The GPF DVSEC of a head: Phase 2 Duration in µs, and Phase 2 Power in mW, that of the class in force. -/
def State.gpfDvsec (s : State) : Nat × Nat := (gpfDuration / 1000, 1000 * classWatts s.pwr.cls)

/-- R541. A class lies within the slot power limit. -/
def State.classFits (s : State) (c : Nat) : Bool := s.pwr.slotLimit == 0 || decide (classWatts c ≤ s.pwr.slotLimit)

/-- R541. Write PWR_CLASS.REQ. -/
def State.classReq (s : State) (c : Nat) : State :=
  s.setW bPwr 0x014 ((s.actW bPwr 0x014 &&& ~~~3#32) ||| BitVec.ofNat 32 (c % 4))

/-- R541. The highest allowed class within the slot limit. -/
def State.classBest (s : State) (below : Nat) : Option Nat :=
  (List.range below).reverse.find? fun c => s.classAllowed c && s.classFits c

/-- R541. SLOT_POWER_LIMIT: a Set_Slot_Power_Limit message. -/
def execSlotPowerLimit (watts : Nat) (s0 : State) : Res :=
  let s1 := s0.begin
  let s : State := { s1 with pwr := { s1.pwr with slotLimit := min 255 watts } }
  .next (s.gate (!s.classFits s.pwr.cls && s.live bPwr) fun s =>
    match s.classBest 3 with
    | some c => s.classReq c
    | none => (s.classReq 0).record bPwr 304 0x0F04 .error [(1, s.pwr.slotLimit), (1, s.pwr.cls)])

/-- R541, R453. POWER_CLASS_SET (C021h): refused with DETAIL 1 for a class that is not allowed or exceeds the slot limit. The
FN from which TT applies a class above 40 W, which waits for the DRAM change, is not stated (log entry 2). -/
def execPowerClassSet (m : Master) (payload : List (BitVec 8)) (s : State) : Res :=
  s.vendor m 0xC021 4 payload fun s =>
    let c := pnum payload 0 1
    if 3 ≤ c ∨ pnum payload 1 3 ≠ 0 then s.vendorRefuse m 0xC021 6
    else if !(s.classAllowed c) || !(s.classFits c) then s.vendorRefuse m 0xC021 1
    else
      let late := s.pwr.cls == 0 && decide (0 < c)
      let fn := if late then (Config.draw s.draws).toNat % 2 ^ 48 else s.tt.fn + 1
      let s1 : State := if late then { s with draws := s.draws + 1 } else s
      (s1.classReq c).vendorOk m (leBytes 6 fn)

/-- R613. THERMAL_STEP: the controller junction at 100 °C or more. -/
def execThermalStep (temp : Int) (s0 : State) : Res :=
  let s := s0.begin
  let up := s.pwr.state == 2 || s.pwr.state == 3 || s.pwr.state == 4
  .next (s.gate (decide (100 ≤ temp) && up) fun s =>
    let new := (s.classBest s.pwr.cls).getD s.pwr.cls
    (s.classReq new).record bPwr 304 0x0F05 .warning [(2, signed 2 temp), (1, s.pwr.cls), (1, new)])

/-- R614. THERMAL_TRIP: a media die (part 0) at 90 °C or the controller junction (part 1) at 110 °C for 100 ms makes an Off
request; during a flush or power-down it is ignored. -/
def execThermalTrip (part ch die : Nat) (temp : Int) (s0 : State) : Res :=
  let s := s0.begin
  let hot := decide ((if part = 0 then 90 else 110) ≤ temp)
  let on := decide (1 ≤ s.pwr.state) && decide (s.pwr.state ≤ 4)
  .next (s.gate (hot && on) fun s =>
    (s.record bPwr 304 0x0F06 .fatal [(1, part), (1, ch), (1, die), (2, signed 2 temp)]).offStand)

/-! ### The tick is lost (R106) -/

/-- R106, R623. TICK_LOST: both oscillators count as failed; the PLL holds the tick, and the module flushes and halts. -/
def execTickLost (causeMain causeBackup : OscCause) (s0 : State) : Res :=
  let s := s0.begin
  .next (s.gate (!s.tt.tickLost && causeMain != .forced && causeBackup != .forced) fun s =>
    let t : Tt := { s.tt with
      tickLost := true, mainOk := false, backupOk := false, holdover := true, disagree := false, locked := false
      returnReq := false, forceReq := false }
    (({ s with tt := t } : State).record bTt 369 0x0324 .fatal [(1, causeVal causeMain), (1, causeVal causeBackup)]).flushFor
      4 true false)

end Sys2Proof.Machine
end

