-- ==== Sys2Proof/Machine/View.lean ====
section
/-!
DEFINITION. What reads of BAR2 return: the live RO fields of every register and the contents of every table window
(register tables of the chapters, with R37, R41, R42, R54). Writable fields come from the stored register words.
-/
namespace Sys2Proof.Machine

/-- Word `k` of a wide value. -/
def wordOf (x k : Nat) : Nat := (x >>> (32 * k)) % 2 ^ 32

/-- A signed number in `n` bits. -/
def sbits (n : Nat) (x : Int) : Nat := (x % (2 ^ n : Nat)).toNat

/-- A sum over small numbers. -/
def sumUp (n : Nat) (f : Nat → Nat) : Nat := (List.range n).foldl (fun t i => t + f i) 0

/-! ### Common registers (R43) and queues (R54) -/

/-- R43. SHADOW_PENDING: some shadow copy of the block differs from its active copy. -/
def State.shadowPending (s : State) (b : Nat) : Bool :=
  let lo := blkPage b * 0x10000
  s.regs.shadow.any fun p => decide (lo ≤ p.1) && decide (p.1 < lo + 0x10000) && p.2 != s.actW b (p.1 - lo)

/-- R43. The RO fields of the common registers, by word offset. -/
def State.viewBlk (s : State) (b off : Nat) : Nat :=
  match off with
  | 0x000 => blkType b + 256 * blkInst b + 0x10000
  | 0x004 => b2n (s.regs.posted.has b) + 2 * b2n (s.shadowPending b) + 16 * s.faultLevel b + 0x10000 * s.regs.cntLost.getD b 0
  | 0x008 => blkGroup b
  | _ =>
    if 0xf00 ≤ off ∧ off < 0xf80 then
      let c := s.tele.counters.getD (b * 8 + (off - 0xf00) / 16) {}
      if off % 16 = 8 then c.count % 2 ^ 32
      else if off % 16 = 12 then (match c.latch with
        | some w => w.toNat
        | none => c.count / 2 ^ 32 + b2n c.ovf * 2 ^ 31)
      else 0
    else 0

/-- R54. A queue's registers, by byte offset from its base. -/
def State.viewQueue (s : State) (q : QueueId) (o : Nat) : Nat :=
  let x := s.getQ q
  match o with
  | 0x00 => x.words.length
  | 0x04 => x.packets
  | 0x08 => b2n (x.words.length == qCap q) + 2 * b2n x.overrun + 4 * b2n x.discard + 0x10000 * qCap q
  | 0x10 => b2n x.lastValid + 2 * b2n x.lastEnd + 4 * b2n x.lastTrunc
  | _ => 0

/-! ### Registers, block type by block type -/

/-- R44, R573. TOP. -/
def State.viewTop (s : State) (off : Nat) : Nat :=
  match off with
  | 0x104 => s.regs.pendingGroups.toNat
  | 0x108 => s.regs.lastUpdateFn % 2 ^ 32
  | 0x120 => s.start.cause % 8 + 8 * b2n s.start.clean + 16 * (s.start.step % 16) + 256 * (s.start.durationMs % 2 ^ 24)
  | _ => 0

/-- R107. TT. -/
def State.viewTt (s : State) (off : Nat) : Nat :=
  let t := s.tt
  match off with
  | 0x010 => t.fn % 2 ^ 32
  | 0x014 => t.fnLatch.toNat
  | 0x018 => t.cyc / 64 + 16 * (t.cyc % 64) + 1024 * beatNow (t.cyc % 64)
  | 0x024 => t.map + 4 * b2n t.forced + 8 * b2n (t.carry && decide (t.cyc < 64))
  | 0x030 =>
    let c := s.capClass
    (classCaps c).1 + 256 * (classCaps c).2.1 + 0x10000 * c
  | 0x034 => t.excluded.toNat
  | 0x040 => b2n (t.src == .backup) + 2 * b2n t.mainOk + 4 * b2n t.backupOk + 8 * b2n t.locked + 16 * b2n t.holdover
  | 0x048 =>
    let o := if s.fry.role = .follower then s.fry.offset else 0
    sbits 16 o + 0x10000 * b2n s.fry.tracking + 0x20000 * b2n (decide (o.natAbs ≤ 10))
  | 0x050 => t.miss0
  | 0x054 => t.miss1
  | 0x058 => t.miss2
  | 0x05c => t.miss3
  | _ => 0

/-- R261, R465. HP. -/
def State.viewHp (s : State) (h off : Nat) : Nat :=
  let p := s.hp h
  let d := s.head h
  let waits (k : HostReq → Bool) : Nat := (s.ingress h).countP k
  let held (k : HeldReq → Bool) : Nat := p.held.countP k
  let log (l : Nat) : Nat := (p.logs.getD l {}).entries.length
  match off with
  | 0x010 => 4 * b2n s.dual
  | 0x014 => p.rate + 8 * p.width + 256 * p.flit + 1024 * b2n p.l0p + 2048 * b2n p.slow
  | 0x018 => p.laneFail.toNat
  | 0x020 => (if p.moor = 0 ∧ s.pwr.mooring = true then 1 else p.moor) + 4 * p.wakeCause + 0x10000 * min 0xffff p.wakeUs
  | 0x024 => p.wakes
  | 0x028 => match s.mbox.bg with
    | some (m, op, _) => if m = h then 1 + 0x10000 * op else 0
    | none => 0
  | 0x030 => log 0 + 0x10000 * log 1
  | 0x034 => log 2 + 0x10000 * log 3
  | 0x038 => sumUp 4 fun l => b2n (p.logs.getD l {}).ovf * 2 ^ l
  | 0x200 => wordOf d.acceptedFn 0
  | 0x204 => wordOf d.acceptedFn 1
  | 0x208 => wordOf d.mediaFn 0
  | 0x20c => wordOf d.mediaFn 1
  | 0x210 => wordOf d.pairFn 0
  | 0x214 => wordOf d.pairFn 1
  | 0x218 => s.commitState h
  | 0x21c => d.devload + 0x10000 * min 0xffff d.waitMax
  | 0x220 => min 2047 (waits (fun q => q.kind == .read) + held fun q => q.kind == .read)
      + 0x10000 * min 1023 (waits (fun q => q.kind != .read) + held fun q => q.kind != .read)
  | 0x260 => wordOf (d.excRow + 8 * d.excCauses.toNat + 2 ^ 16 * (d.excService % 2 ^ 32) + 2 ^ 48 * (d.excFn % 2 ^ 16)) 0
  | 0x264 => wordOf (d.excRow + 8 * d.excCauses.toNat + 2 ^ 16 * (d.excService % 2 ^ 32) + 2 ^ 48 * (d.excFn % 2 ^ 16)) 1
  | _ => if 0x240 ≤ off ∧ off < 0x260 then d.exc.getD ((off - 0x240) / 4) 0 else 0

/-- R162. A page miss of slice `n` waits for a way. -/
def State.holdWay (s : State) (n : Nat) : Bool :=
  s.cache.waiting.any fun q =>
    let lpn := lpnOfDpa q.dpa
    s.pageSlice lpn == n && (s.findWay lpn).isNone && (s.chooseWay (s.setOf lpn)).isNone

/-- R192. CS. -/
def State.viewCs (s : State) (n off : Nat) : Nat :=
  let c := s.cs n
  let p := s.cache.port
  let port (x : Nat) : Nat := if n = 0 then x else 0
  let uncached := !c.removed && (!s.cache.uncachedDrams.isEmpty || !s.cache.retrainDrams.isEmpty || !s.cache.drainDrams.isEmpty
    || (List.range 16).any fun m => (s.cs m).removed && (s.cs m).servedBy == some n)
  match off with
  | 0x010 => s.sets / 16 + 2 ^ 20 * s.cache.drams.length + 2 ^ 24 * c.servedBy.getD n
  | 0x018 => s.dirtyPages n
  | 0x01c => c.share
  | 0x024 => s.landingUsed n + 1024 * s.evictUsed n
  | 0x028 => s.lockedPages n
  | 0x02c => b2n (s.holdWay n) + 2 * b2n (s.holdDirty n) + 4 * b2n c.destaging
      + 8 * b2n (c.draining || s.draining || (List.range 16).any fun m => (s.cs m).draining && (s.cs m).servedBy == some n)
      + 16 * b2n uncached + 32 * b2n c.removed
  | 0x114 => port (b2n p.busy + 16 * p.result)
  | 0x118 => port (wordOf p.done 0)
  | 0x11c => port (wordOf p.done 1)
  | 0x120 => port (wordOf p.refused 0)
  | 0x124 => port (wordOf p.refused 1)
  | 0x128 => port (wordOf p.first 0)
  | 0x12c => port (wordOf p.first 1)
  | _ => 0

/-- R140. XL. -/
def State.viewXl (s : State) (off : Nat) : Nat :=
  let x := s.xl
  match off with
  | 0x010 => Config.keyCheck.toNat
  | 0x014 => if x.loaded then 1789056 - x.nextBerth else 0
  | 0x018 => x.berths.length
  | 0x01c => x.stripes.length
  | 0x020 => x.ckptSeq
  | 0x024 => x.ckptFn % 2 ^ 32
  | 0x028 => x.gapLost
  | 0x02c => (x.berth.map fun b => b.1).getD 0 + 2 ^ 24 * b2n x.berth.isSome
  | 0x030 => x.boundary
  | 0x048 => b2n x.probeDone + 2 * b2n x.probeOut + 4 * b2n x.probeBerth + 8 * b2n x.probeStripe + 16 * b2n x.probeMoving
      + 2 ^ 5 * x.probeDistrict + 2 ^ 14 * x.probeParityPos + 2 ^ 19 * x.probeParityMch + 2 ^ 24 * b2n x.probeMissing
  | 0x04c => x.probeOffset
  | 0x050 => x.probeSlot
  | 0x058 => wordOf x.probePsn 0
  | 0x05c => wordOf x.probePsn 1
  | _ => 0

/-- R232. MCH. -/
def State.viewMch (s : State) (c off : Nat) : Nat :=
  let m := s.mch c
  let roles := (List.range 8).foldl (fun n d => n + s.role c d * 2 ^ (5 * d)) 0
  let watched (d : Nat) : Bool := m.missFns.any fun p => p.1 == d && decide (s.tt.fn < p.2 + 64)
  let state (d : Nat) : Nat :=
    if s.role c d = 31 then 3 else if m.rebuilding.contains d then 2 else if watched d then 1 else 0
  let temp (d : Nat) : Nat := sbits 8 (m.temps.getD d 0)
  match off with
  | 0x010 => b2n m.failed + 2 * b2n m.phyUp + 256 * sumUp 8 fun d => b2n (s.media.degraded.any fun p => p.1 == d) * 2 ^ d
  | 0x018 => wordOf roles 0
  | 0x01c => wordOf roles 1
  | 0x020 => sumUp 8 fun d => state d * 4 ^ d
  | 0x024 => sumUp 4 fun i => temp i * 256 ^ i
  | 0x028 => sumUp 4 fun i => temp (4 + i) * 256 ^ i
  | 0x040 => m.corr
  | 0x044 => m.alt
  | 0x048 => m.recon
  | 0x04c => m.uncorr
  | 0x050 => m.wfail
  | 0x060 => s.lifeUsed c + 0x10000 * min 0xffff (s.wear c)
  | 0x070 => sumUp 8 fun d => b2n (m.rebuilding.contains d) * 2 ^ d
  | 0x0c0 => (if m.failed then 0 else (List.range 384).countP fun d => s.guardian d == some c) + 256 * b2n m.takeover
  | 0x0c4 => m.repeats
  | _ =>
    if 0x080 ≤ off ∧ off < 0x0c0 then wordOf (m.rebuild.getD ((off - 0x080) / 8) 0) ((off / 4) % 2)
    else 0

/-- R293, R433. DRC. -/
def State.viewDrc (s : State) (c off : Nat) : Nat :=
  let d := s.drc c
  let u0 := s.sub c 0
  let u1 := s.sub c 1
  match off with
  | 0x010 => d.speed
  | 0x014 => d.state + 8 * b2n u0.hot + 16 * b2n u1.hot + 32 * b2n (decide (s.ns < max u0.forcedTill u1.forcedTill))
  | 0x024 => u0.owed % 16 + 16 * (u1.owed % 16) + 256 * min 0xffffff d.forcedCount
  | 0x030 => 0
  | 0x034 => d.mitigations
  | 0x038 => d.rfmCount
  | 0x040 => min 63 (s.heldReads c 0).length + 2 ^ 6 * min 255 u0.writeQ.length + 2 ^ 14 * min 63 (s.heldReads c 1).length
      + 2 ^ 20 * min 255 u1.writeQ.length
  | 0x044 => sbits 8 u0.drift + 256 * sbits 8 u1.drift
  | 0x104 => b2n d.train.busy + 2 * b2n d.train.errors
  | 0x300 => u0.erased.getD 7 + 16 * u1.erased.getD 7
  | 0x304 => d.corr
  | 0x308 => d.uncorr
  | _ => 0

/-- R328, R348. CRY_SEC_STATE, which Get Security State reports too. -/
def State.secState (s : State) : Nat :=
  let p := s.sec.pass
  b2n p.user.isSome + 2 * b2n p.master.isSome + 4 * b2n p.locked + 8 * b2n p.frozen + 16 * b2n (decide (5 ≤ p.attemptsUser))
    + 32 * b2n (decide (5 ≤ p.attemptsMaster))

/-- R348. CRY. -/
def State.viewCry (s : State) (off : Nat) : Nat :=
  let c := s.sec
  let running := (c.slots.find? fun k => k.2.op == 1 || k.2.op == 2)
  match off with
  | 0x010 => b2n s.approved + 2 * b2n c.error + 4 * b2n c.degraded + 8 * b2n c.drbgOk
      + 16 * (sumUp 8 fun e => b2n (!c.enginesBad.contains e) * 2 ^ e)
      + 2 ^ 12 * (sumUp 2 fun h => b2n (!c.enginesBad.contains (8 + h)) * 2 ^ h) + 2 ^ 14 * b2n c.ferrySession
  | 0x014 => b2n c.selftestDone + 2 * b2n c.selftestPass + 256 * c.firstFail
  | 0x018 => s.secState
  | 0x01c => c.debug
  | 0x020 => wordOf c.macFail 0
  | 0x024 => wordOf c.macFail 1
  | 0x028 => c.keyrecSeq
  | 0x02c => (running.map fun k => k.1).getD 0 + 64 * b2n running.isSome + 256 * min 64 c.queue.length
  | 0x030 => wordOf c.ferryTx 0
  | 0x034 => wordOf c.ferryTx 1
  | 0x038 => wordOf c.ferryRx 0
  | 0x03c => wordOf c.ferryRx 1
  | _ => 0

/-- R293. The physical pass of the slowest channel: its passes done, its channel, the PSN it reads, and its start. -/
def State.slowest (s : State) : Nat × Nat :=
  let key (c : Nat) : Nat := s.integ.mediaPasses.getD c 0 * 2 ^ 40 + s.integ.sweepPos.getD c 0
  (List.range 18).foldl (fun b c =>
    if ((List.range 8).all fun d => s.role c d == 31) then b
    else if key c < b.2 then (c, key c) else b) (0, 2 ^ 200)

/-- R293. HOT_BAND: a band of a channel averages above 78 °C. -/
def State.hotBand (s : State) : Bool :=
  (List.range 18).any fun c => (s.mch c).bands.any fun b => s.hotter c b.1 78

/-- R293, R488. MNT. -/
def State.viewMnt (s : State) (off : Nat) : Nat :=
  let m := s.mnt
  let c := s.slowest.1
  let pos := s.integ.sweepPos.getD c 0
  let swept := pos / 2 ^ 25 + 256 * c + 2 ^ 16 * (s.integ.sweepStart.getD c 0 % 2 ^ 48)
  match off with
  | 0x010 => sumUp 12 fun a => b2n (s.runs (a + 1)) * 2 ^ a
  | 0x014 => sumUp 12 fun a => b2n (m.waiting.has (a + 1)) * 2 ^ a
  | 0x02c => min 0xffff m.backlog + 0x10000 * b2n m.r75
  | 0x030 => b2n m.recalBusy + 2 * m.recalResult + 8 * m.recalMch + 256 * m.recalDie
  | 0x034 => b2n s.pwr.testRunning + 2 * b2n (m.waiting.has 10)
      + 0x10000 * min 0xffff ((s.uptimeUs - m.capStartUs) / 3600000000)
  | 0x038 => m.refused
  | 0x104 => b2n s.sweepBehind + 2 * b2n s.integ.scan.isSome + 4 * b2n s.hotBand
  | 0x108 => min 0xff (s.integ.mediaPasses.getD c 0) + 256 * min 0xff s.integ.dramPasses + 0x10000 * min 0xffff s.integ.sramPasses
  | 0x110 => wordOf swept 0
  | 0x114 => wordOf swept 1
  | _ => 0

/-- R489. BRG. -/
def State.viewBrg (s : State) (off : Nat) : Nat :=
  if off = 0x010 then sumUp 4 fun n => (s.brg n).state * 4 ^ n + b2n (s.brg n).out * 2 ^ (8 + n)
  else if 0x040 ≤ off ∧ off < 0x0c0 then
    let b := s.brg ((off - 0x040) / 32)
    match off % 32 with
    | 0x00 => b.tail
    | 0x04 => b.head
    | 0x0c => b.haltStatus + 0x10000 * b.haltIndex
    | 0x10 => b.sectors % 2 ^ 23 + 2 ^ 23 * b2n b.phase
    | 0x18 => wordOf b.crc.toNat 0
    | 0x1c => wordOf b.crc.toNat 1
    | _ => 0
  else if 0x200 ≤ off ∧ off < 0x300 then
    let n : Fin 4 := ⟨(off - 0x200) / 64 % 4, Nat.mod_lt _ (by decide)⟩
    s.viewQueue (if off % 64 < 32 then .descriptors n else .completions n) (off % 32)
  else 0

/-- R365. PSTATE as FRY_STATE shows it. -/
def pstateVal : PState → Nat
  | .unpaired => 0
  | .joining => 1
  | .joined => 2
  | .resyncing => 3
  | .splitLead => 4
  | .stranded => 5

/-- R398. The ROLE field. -/
def roleVal : Role → Nat
  | .none => 0
  | .lead => 1
  | .follower => 2

/-- R398. FULL_RESYNC: a full resync is owed or runs. -/
def State.fullOwed (s : State) : Bool := s.fry.bitmapAll || (s.fry.roleRec.map fun r => r.full).getD false

/-- R398. Pages still to resync. -/
def State.resyncLeft (s : State) : Nat :=
  if s.fry.pstate != .resyncing then 0
  else if s.isLead then s.pagesMarked
  else s.fry.leftReported

/-- R379. The silence timer in ns. -/
def State.silenceNs (s : State) : Nat := min 65280 (s.ns - s.fry.heardNs)

/-- R398. FRY. -/
def State.viewFry (s : State) (off : Nat) : Nat :=
  let f := s.fry
  let at' := f.atFnShow.1 % 2 ^ 48 + 2 ^ 48 * (f.atFnShow.2.1 % 256) + 2 ^ 56 * f.atFnShow.2.2.1 + 2 ^ 59 * b2n f.atFnShow.2.2.2
  match off with
  | 0x014 => pstateVal f.pstate + 8 * roleVal f.role + 32 * f.rate + 128 * f.width + 2048 * b2n s.fullOwed + 4096 * b2n (s.mirrorHeld || (s.isLead && s.joined && !f.bargeAt.isEmpty))
  | 0x018 => wordOf f.token 0
  | 0x01c => wordOf f.token 1
  | 0x020 => wordOf f.peerToken 0
  | 0x024 => wordOf f.peerToken 1
  | 0x028 => f.delay
  | 0x02c => s.silenceNs
  | 0x030 => wordOf f.widxSent 0
  | 0x034 => wordOf f.widxSent 1
  | 0x038 => wordOf f.widxAcked 0
  | 0x03c => wordOf f.widxAcked 1
  | 0x040 => min 16384 s.sendHeld + 0x10000 * min 4096 (f.txSeq - f.ackSeq)
  | 0x048 => wordOf s.resyncLeft 0
  | 0x04c => wordOf s.resyncLeft 1
  | 0x050 => wordOf at' 0
  | 0x054 => wordOf at' 1
  | 0x058 => f.replays
  | 0x05c => f.retrains
  | 0x060 => f.refused
  | _ => 0

/-- R602. EVQ. -/
def State.viewEvq (s : State) (off : Nat) : Nat :=
  let e := s.tele.evq
  let held := (e.hold.map fun o => o.length).foldl (· + ·) 0 + e.taking.length
  match off with
  | 0x010 => held % 2048 + 0x10000 * min 256 e.staged.length + 2 ^ 25 * min 64 e.relay.length
  | 0x014 => min 0xffff e.takenLast + 0x10000 * min 0xffff e.takenMax
  | 0x020 => e.lost0
  | 0x024 => e.lost1
  | 0x028 => e.lost2
  | 0x02c => e.lost3
  | 0x030 => e.taken
  | _ => if 0x100 ≤ off ∧ off < 0x120 then s.viewQueue .records (off - 0x100) else 0

/-- R603. CEN. -/
def State.viewCen (s : State) (off : Nat) : Nat :=
  let c := s.cen
  match off with
  | 0x014 => c.published + 2 * b2n c.valid + 4 * b2n c.gathering
  | 0x018 => c.seq
  | 0x020 => wordOf c.closeFn 0
  | 0x024 => wordOf c.closeFn 1
  | 0x028 => c.sampleSeq % 2 ^ 32
  | _ => if 0x100 ≤ off ∧ off < 0x120 then s.viewQueue .samples (off - 0x100) else 0

/-- R552. PWR. -/
def State.viewPwr (s : State) (off : Nat) : Nat :=
  let p := s.pwr
  let first := p.first.getD (31, 0, 0, 0)
  let rails := (List.range 17).foldl (fun n r => n + (p.rails.getD r {}).state * 4 ^ r) 0
  match off with
  | 0x010 => p.state % 8 + 8 * b2n p.mainOk + 16 * b2n p.auxOk + 32 * b2n (s.testPassed && !p.monitorFault) + 64 * b2n p.gated
      + 128 * b2n p.onBank + 256 * (if s.capClass = 3 then 3 else p.cls) + 1024 * p.gateCause
  | 0x014 => 256 * min 255 p.slotLimit
  | 0x020 => min 0xffff p.vres + 0x10000 * min 0xffff s.eU
  | 0x024 => min 0xffff s.eBegin + 0x10000 * min 0xffff s.eLift
  | 0x028 => min 0xffff (vFloor p.cm p.esr) + 0x10000 * min 0xffff (vCut p.esr)
  | 0x02c => min 0xffff p.cm + 0x10000 * min 255 p.esr + 2 ^ 24 * p.testResult
  | 0x030 => wordOf rails 0
  | 0x034 => wordOf rails 1
  | 0x038 => first.1 % 32 + 32 * first.2.1
  | 0x040 => wordOf first.2.2.1 0
  | 0x044 => wordOf first.2.2.1 1
  | 0x048 => wordOf first.2.2.2 0
  | 0x04c => wordOf first.2.2.2 1
  | 0x050 => wordOf s.uptimeUs 0
  | 0x054 => wordOf s.uptimeUs 1
  | 0x058 => p.pfSeq
  | _ => 0

/-- R521. PST. -/
def State.viewPst (s : State) (off : Nat) : Nat :=
  let p := s.pst
  match off with
  | 0x010 => b2n p.ok + 2 * p.protect + 8 * p.imgInUse + 16 * b2n p.otherValid + 32 * b2n p.calValid + 64 * b2n p.unconfigured
  | 0x014 => p.imgSeq
  | 0x018 => p.imgSeqOther
  | 0x024 => b2n p.imgOpen + 2 * b2n p.imgBusy + 16 * p.imgResult
  | 0x02c => b2n p.calOpen + 2 * p.calSource
  | 0x038 => p.next + 2 ^ 15 * p.wraps
  | _ => 0

/-- The live RO fields of the word at `off` of block `b`. -/
def State.viewReg (s : State) (b off : Nat) : Nat :=
  if off < 0x010 ∨ 0xf00 ≤ off then s.viewBlk b off
  else
    let i := blkInst b
    match blkType b with
    | 1 => s.viewTop off
    | 2 => s.viewTt off
    | 4 => s.viewHp i off
    | 5 => s.viewCs i off
    | 6 => s.viewXl off
    | 7 => s.viewMch i off
    | 8 => s.viewDrc i off
    | 9 => s.viewCry off
    | 10 => if 0x100 ≤ off ∧ off < 0x120 then s.viewQueue .secRequest (off - 0x100)
        else if 0x120 ≤ off ∧ off < 0x140 then s.viewQueue .secResponse (off - 0x120) else 0
    | 11 => s.viewMnt off
    | 12 => s.viewBrg off
    | 13 => s.viewFry off
    | 14 => s.viewEvq off
    | 15 => s.viewCen off
    | 16 => s.viewPwr off
    | 17 => s.viewPst off
    | _ => 0

/-- R433. DRC_TRAIN_STEP.VALUE reads back the step value in force of the target and lane selected. -/
def State.trainStep (s : State) (c : Nat) : Nat :=
  let w := s.actW (bDrc c) 0x108
  (s.drc c).train.steps.getD (bits w 24 1 * 65536 + bits w 0 4 * 128 + bits w 4 7) 0

/-- R10, R41. A 32-bit register word as a read at the base offset returns it. WS fields read 0. TAIL of a barge channel is its
channel's, which a flush of the queue changes (R485). -/
def State.readReg (s : State) (b off : Nat) : Word :=
  let sp := regSpec (blkType b) off
  let stored := s.actW b off &&& (sp.rs ||| sp.ri ||| sp.rp ||| sp.img)
  let w := stored ||| BitVec.ofNat 32 (s.viewReg b off)
  if blkType b = 12 ∧ 0x040 ≤ off ∧ off < 0x0c0 ∧ off % 32 = 0 then BitVec.ofNat 32 (s.viewBrg off)
  else if blkType b = 8 ∧ off = 0x108 then
    (w &&& ~~~0xfff000#32) ||| BitVec.ofNat 32 (2 ^ 12 * (s.trainStep (blkInst b) % 4096))
  else w

/-! ### Table windows (R42), as words by byte offset from 0x4000 -/

/-- R146. A tag entry. -/
def State.tagEntry (s : State) (set w : Nat) : Nat :=
  let v := s.way set w
  if v.free && !v.used then (v.age % 8) * 2 ^ 44
  else
    let mask (f : Nat → Bool) : Nat := sumUp 16 fun j => b2n (f j) * 2 ^ j
    let tag := if v.used then s.tagOf v.lpn else 0
    tag % 4096 + 2 ^ 12 * mask v.bvalid + 2 ^ 28 * mask v.bdirty + 2 ^ 44 * (v.age % 8) + 2 ^ 47 * b2n v.lock
      + 2 ^ 48 * b2n v.partialBit + 2 ^ 49 * b2n (!(s.landingsOf v.lpn).isEmpty) + 2 ^ 50 * (v.region % 64)

/-- R192. A landing entry header. -/
def State.landingHeader (s : State) (n e : Nat) : Nat :=
  let l := s.entry n e
  let st := match l.st with
    | .free => 0
    | .filling => 1
    | .ready => 2
    | .latched => 3
    | .written => 4
    | .released => 5
  let older := (s.landingsOf l.lpn).any fun p => decide (p.2.ord < l.ord) && p.2.st != .released
  let base := l.lpn % 2 ^ 33 + 2 ^ 33 * (l.region % 64) + 2 ^ 39 * st + 2 ^ 64 * (l.fn % 2 ^ 48)
  if l.busy then
    base + 2 ^ 42 * b2n (!l.waiters.isEmpty) + 2 ^ 43 * b2n older
      + 2 ^ 44 * sumUp 16 fun j => b2n (blockBits l.valid j == 15) * 2 ^ j
  else base

/-- R140. The remap window's entry `i` of 8 B or 16 B. -/
def State.remapWord (s : State) (o : Nat) : Nat :=
  let page := s.regF bXl 0x034 0 7
  if s.regF bXl 0x034 8 1 = 0 then
    if 16 ≤ page then 0
    else match s.xl.berths.get? (page * 4096 + o / 8) with
      | some e => wordOf (e.src % 2 ^ 24 + 2 ^ 24 * (e.len - 1) + 2 ^ 30 + 2 ^ 32 * (e.target % 2 ^ 24)) (o / 4 % 2)
      | none => 0
  else match s.xl.stripes.get? (page * 2048 + o / 16) with
    | some e => wordOf (e.1 % 2 ^ 33 + 2 ^ 63 + 2 ^ 64 * (e.2 % 2 ^ 33)) (o / 4 % 4)
    | none => 0

/-- R232. A band entry. -/
def State.bandEntry (s : State) (c b : Nat) : Nat :=
  let x := (s.mch c).bands.getD b {}
  sbits 48 x.newFn + 2 ^ 48 * sbits 48 x.prevFn + 2 ^ 96 * (x.pos % 2 ^ 21) + 2 ^ 117 * sbits 7 (s.tavg c b)

/-- R348. A key slot entry. -/
def State.slotEntry (s : State) (n : Nat) : Nat :=
  let k := s.keySlot n
  let queued := s.sec.queue.any fun q => q.1 == n
  let op := if k.op != 0 then k.op else if queued then 3 else 0
  let used := (List.range 64).any fun r => let x := s.region bXl r; x.valid && x.keySlot == n
  k.cur % 256 + 2 ^ 8 * ((k.cur + 253) % 255 + 1) + 2 ^ 16 * b2n k.prevLive + 2 ^ 17 * op + 2 ^ 19 * b2n used
    + 2 ^ 32 * (if op = 1 ∨ op = 2 then k.boundary % 2 ^ 33 else 0) + 2 ^ 80 * (k.f0 % 2 ^ 48)

/-- R433. Entry `e` of the activation table that DRC_WIN_SEL selects, in row order. -/
def State.actEntry (s : State) (c e : Nat) : Nat :=
  let t := ((s.sub c (s.regF (bDrc c) 0x050 6 1)).acts.getD (s.regF (bDrc c) 0x050 0 6 % 32) [])
  match t.get? e with
  | some a => a.row % 2 ^ 17 + 2 ^ 32 * (a.count % 2 ^ 16) + 2 ^ 63
  | none => 0

/-- R140, R192, R232, R433, R465, R521, R552, R598, R602, R603. The word at byte offset `o` (from 0x4000 up) of block `b`. -/
def State.viewWindow (s : State) (b o : Nat) : Nat :=
  let i := blkInst b
  let k := o / 4 % 2
  match blkType b with
  | 2 => if o < 0x4080 then
      let n := (o - 0x4000) / 2
      (s.slotWord (n / 16) (n % 16)).toNat + 0x10000 * (s.slotWord (n / 16) (n % 16 + 1)).toNat
    else 0
  | 4 => if o < 0x4080 then
      let l := (o - 0x4000) / 8
      wordOf (min 0xffffffff ((s.hp i).laneCorr.getD l 0) + 2 ^ 32 * min 0xffff ((s.hp i).laneAlign.getD l 0)) k
    else 0
  | 5 => if o < 0x8000 then 0
    else
      let page := s.regF b 0x030 0 9
      let table := s.regF b 0x030 9 2
      let x := o - 0x8000
      if table = 0 ∧ page < 480 then
        let idx := page * 512 + x / 64
        if idx < s.sets / 16 then wordOf (s.tagEntry (16 * idx + i) (x / 8 % 8)) k else 0
      else if table = 1 ∧ page = 0 ∧ x < 8192 then wordOf (s.landingHeader i (x / 16)) (o / 4 % 4)
      else 0
  | 6 => if o < 0x4c00 then wordOf (s.districtWord ((o - 0x4000) / 8)) k
    else if 0x8000 ≤ o then s.remapWord (o - 0x8000) else 0
  | 7 =>
    if o < 0x4e40 then wordOf (s.bandEntry i ((o - 0x4000) / 16)) (o / 4 % 4)
    else if 0x6000 ≤ o ∧ o < 0x6100 then wordOf ((s.mch i).planes.getD ((o - 0x6000) / 8) 0) k
    else if 0x7000 ≤ o ∧ o < 0x7400 then
      sumUp 4 fun j => s.calByte i (o - 0x7000 + j) * 256 ^ j
    else if 0x8000 ≤ o ∧ o < 0x8800 then
      match (s.mch i).watch[(o - 0x8000) / 8]? with
      | some w => wordOf (w.psn % 2 ^ 33 + 2 ^ 33 * w.pos + 2 ^ 38 * b2n w.bad + 2 ^ 39 * b2n w.altSeen + 2 ^ 63) k
      | none => 0
    else 0
  | 8 =>
    if o < 0x4140 then min 0xffffffff ((s.drc i).train.counters.getD ((o - 0x4000) / 4) 0)
    else if 0x5000 ≤ o ∧ o < 0x6000 then
      sumUp 4 fun j => ((s.drc i).train.timings.getD (o - 0x5000 + j) 0).toNat * 256 ^ j
    else if 0x8000 ≤ o ∧ o < 0x8200 then wordOf (s.actEntry i ((o - 0x8000) / 8)) k
    else 0
  | 9 => if o < 0x4400 then wordOf (s.slotEntry ((o - 0x4000) / 16)) (o / 4 % 4) else 0
  | 14 =>
    let src := (o - 0x4000) / 4
    if o < 0x4600 then min 0xffffff (s.tele.evq.dropped.getD src 0) + 2 ^ 24 * min 4 (s.tele.evq.held src) else 0
  | 15 =>
    let grant := (s.actW bCen 0x010).getLsbD 1
    if o < 0x8000 then
      (if grant then Mem.num (s.cen.banks.getD ((o - 0x4000) / 0x2000) []) ((o - 0x4000) % 0x2000) 4 else 0)
    else if o < 0xc000 then Mem.num (s.cen.banks.getD ((o - 0x8000) / 0x2000) []) ((o - 0x8000) % 0x2000) 4
    else 0
  | 16 =>
    if o < 0x4088 then
      let r := s.pwr.rails.getD ((o - 0x4000) / 8) {}
      wordOf (r.mv % 2 ^ 16 + 2 ^ 16 * (r.minMv % 2 ^ 16) + 2 ^ 32 * (r.maxMv % 2 ^ 16)) k
    else if 0x5000 ≤ o ∧ o < 0x5180 then
      let d := (o - 0x5000) / 4
      s.pwr.domains.getD d 0 + 4 * b2n (s.pwr.domFailed.contains d)
    else 0
  | 17 => if 0x8000 ≤ o then
      let a := 0x8000 * s.regF bPst 0x030 0 6 + (o - 0x8000)
      if 0x0e0000 ≤ a ∧ a < 0x0f0000 then 0 else Mem.num s.store a 4
    else 0
  | _ => 0

/-! ### Reads -/

/-- R39, R41. The word at an aligned offset of block `b`: registers, their aliases (the set alias reads the shadow copy), or a
table window. -/
def State.viewWord (s : State) (b o : Nat) : Nat :=
  if 0x4000 ≤ o then s.viewWindow b o
  else
    let a := o % 0x1000
    let w := s.readReg b a
    let rs := (regSpec (blkType b) a).rs
    if 0x1000 ≤ o ∧ o < 0x2000 then ((w &&& ~~~rs) ||| (s.shdW b a &&& rs)).toNat else w.toNat

/-- R39. The byte at offset `o` of block `b`. -/
def State.viewByte (s : State) (b o : Nat) : BitVec 8 := BitVec.ofNat 8 (s.viewWord b (o / 4 * 4) >>> (8 * (o % 4)))

/-- R33–R42, R347, R589, R107. A read of `size` bytes of BAR2. A location outside every block reads zero; a block that is
off reads zero, and an access the Square blocks too, each with its record. A read of a CNTn_VAL low half alone latches the
high half, and so does one of TT_FN_LO. -/
def State.busRead (s : State) (m : Master) (off size : Nat) : State × List (BitVec 8) :=
  let zeros := List.replicate size 0
  match blkAt (off / 0x10000) with
  | none => (s, zeros)
  | some b =>
    let o := off % 0x10000
    if s.bar2There m = false then (s, zeros)
    else if secBlocked m b o || keyBlocked m b o then (s.protectRecord m (blockedKind b) off, zeros)
    else if s.live b = false then (s.offRecord m b off 0, zeros)
    else
      let v := (List.range size).map fun i => s.viewByte b (o + i)
      let a := o % 0x1000
      let cnt := decide (o < 0x4000 ∧ 0xf00 ≤ a ∧ a < 0xf80 ∧ a % 16 = 8)
      if cnt && size == 4 then
        let k := b * 8 + (a - 0xf00) / 16
        let c := s.tele.counters.getD k {}
        let high : Word := BitVec.ofNat 32 (c.count / 2 ^ 32 + b2n c.ovf * 2 ^ 31)
        ({ s with tele := { s.tele with counters := s.tele.counters.set k { c with latch := some high } } }, v)
      else if cnt && size == 8 then
        let c := s.tele.counters.getD (b * 8 + (a - 0xf00) / 16) {}
        (s, leBytes 8 (c.count + b2n c.ovf * 2 ^ 63))
      else if b = bTt ∧ o < 0x4000 ∧ a = 0x010 ∧ size = 4 then
        ({ s with tt := { s.tt with fnLatch := BitVec.ofNat 16 (s.tt.fn / 2 ^ 32) } }, v)
      else if b = bTt ∧ o < 0x4000 ∧ a = 0x010 ∧ size = 8 then (s, leBytes 8 (s.tt.fn % 2 ^ 48))
      else (s, v)

end Sys2Proof.Machine
end

