-- ==== Sys2Proof/Machine/Reset.lean ====
section
/-!
DEFINITION. Resets and external inputs (R567–R573): head resets, function-level and CXL resets, block soft reset, cold
reset, and the qualified inputs.
-/
namespace Sys2Proof.Machine

/-! ### Head resets (R567–R569) -/

/-- A request of head `h`. -/
def HostReq.ofHead (h : Nat) (r : HostReq) : Bool := r.head == some h

/-- Change every request of a head that the block holds. -/
def State.mapHead (s : State) (h : Nat) (f : HostReq → HostReq) : State := s.mapReqs fun r => if r.ofHead h then f r else r

/-- R568. The responses of the head's admitted requests are discarded. -/
def State.muteHead (s : State) (h : Nat) : State := s.mapHead h fun r => { r with mute := true }

/-- R568. Requests of a head received and not admitted. -/
def State.unadmittedOf (s : State) (h : Nat) : Nat :=
  (s.cache.waiting.countP fun r => r.ofHead h) + (s.hp h).held.length

/-- R568. The head discards what was not admitted, and the responses of what was. -/
def State.dropRequests (s : State) (h : Nat) : State :=
  let s1 := s.muteHead h
  ({ s1 with cache := { s1.cache with waiting := s1.cache.waiting.filter fun r => !r.ofHead h } } : State).modHp h fun p =>
    { p with held := [] }

/-- R569, R574. Record WARM_RESET with its kind: 0 PERST#, 1 FLR, 2 CXL Reset. -/
def State.warmRecord (s : State) (h kind discarded : Nat) : State :=
  s.record bTop 380 0x1005 .info [(1, h), (1, kind), (4, discarded)]

/-- R328. The SPDM connections over a head's DOE end, with their sessions. Path 0 and 1 are the DOE of HP0 and HP1, 2 MCTP. -/
def State.dropDoe (s : State) (h : Nat) : State :=
  let s1 : State := { s with sec := { s.sec with
    conns := s.sec.conns.erase h, sessions := s.sec.sessions.filter fun x => x.path != h } }
  s1.modHp h fun p => { p with doeBusy := false }

/-- R441, R460, R567, R568. A warm reset of a head: link with its failed lanes, transaction layer, configuration space, decoders, IDE
streams, DOE, the interrupt policy of its logs, and the counts since the head's last reset. -/
def State.warmReset (s : State) (h : Nat) : State :=
  let n := s.unadmittedOf h
  let s1 := ((s.dropRequests h).dropDoe h).modHp h fun p => { p with
    rate := 0, width := 0, flit := 0, l0p := false, slow := false, moor := 0, wakeCause := 0, wakeUs := 0, wakes := 0
    laneFail := 0, hdms := [], inReset := true, logs := p.logs.map fun l => (l.1, { l.2 with msix := false }) }
  let s2 := s1.modHead h fun d => { d with exc := [], excRow := 0, excCauses := 0, excService := 0, excFn := 0, gpf := none }
  let s3 : State := { s2 with sec := { s2.sec with ide := s2.sec.ide.filter fun p => p.1 / 8 != h } }
  s3.warmRecord h 0 n

/-- R568, R571. PERST_ASSERT: PERSTn# low for 1 µs. From Moored the module wakes first (R538). -/
def execPerstAssert (head : Fin 2) (s0 : State) : Res :=
  let s := s0.begin
  let s1 : State := { s with start := { s.start with
    perst := if s.start.perst.contains head.val then s.start.perst else s.start.perst ++ [head.val] } }
  .next (s1.gate (decide (4 ≤ s1.start.step) && s1.headUsed head.val) fun s => (s.wakeMoored 3).warmReset head.val)

/-- R558, R571. PERST_DEASSERT: PERSTn# high for 100 µs. The head leaves reset once step 3 of the start has ended. -/
def execPerstDeassert (head : Fin 2) (s0 : State) : Res :=
  let s := s0.begin
  let s1 : State := { s with start := { s.start with perst := s.start.perst.filter fun h => h != head.val } }
  .next (s1.gate (decide (4 ≤ s1.start.step) && s1.headUsed head.val) fun s =>
    s.modHp head.val fun p => { p with inReset := false })

/-- The mailbox of a head. -/
def mboxOf (h : Nat) : Master := if h = 0 then .mboxHp0 else .mboxHp1

/-- R569. FLR: the head's CXL.io state. A foreground command in progress completes with no response. -/
def execFlr (head : Fin 2) (s0 : State) : Res :=
  let s := s0.begin
  .next (s.gate (!(s.hp head.val).inReset && s.headUsed head.val) fun s =>
    let s1 : State := { s with mbox := { s.mbox with
      owed := match s.mbox.owed with
        | some o => if o.1 = mboxOf head.val then none else some o
        | none => none } }
    (s1.modHp head.val fun p => { p with doeBusy := false }).warmRecord head.val 1 0)

/-- R569. CXL_RESET: ingress buffer, decoders with their locks, and CXL.cachemem IDE. -/
def execCxlReset (head : Fin 2) (s0 : State) : Res :=
  let s := s0.begin
  .next (s.gate (!(s.hp head.val).inReset && s.headUsed head.val) fun s =>
    let n := s.unadmittedOf head.val
    let s1 := (s.dropRequests head.val).modHp head.val fun p => { p with hdms := [] }
    let s2 : State := { s1 with sec := { s1.sec with
      ide := s1.sec.ide.filter fun p => !(p.1 / 8 == head.val && p.1 / 2 % 4 == 0) } }
    s2.warmRecord head.val 2 n)

/-! ### Cold reset and block soft reset (R570, R573) -/

/-- R530, R573. TOP_RESET.COLD: an Off request followed by an On request. -/
def State.coldReset (s : State) : State := s.offRequest.onRequest 2

/-- R573. COLD_RESET. -/
def execColdReset (s : State) : Res := .next s.begin.coldReset

/-- R44, R567. The registers of a block take their reset values, and its counters stop. -/
def State.resetRegs (s : State) (b : Nat) : State :=
  let lo := blkPage b * 0x10000
  let other (a : Nat) : Bool := !(decide (lo ≤ a) && decide (a < lo + 0x10000))
  { s with
    regs := { s.regs with
      active := s.regs.active.filter fun p => other p.1, shadow := s.regs.shadow.filter fun p => other p.1
      posted := s.regs.posted.erase b, cntLost := s.regs.cntLost.erase b
      selWritten := s.regs.selWritten.filter fun k => k / 8 != b }
    tele := { s.tele with counters := s.tele.counters.filter fun p => p.1 / 8 != b } }

/-- R603. The window exponent that CEN_CTRL.K asks for. -/
def State.censusK (s : State) : Nat := min 24 (max 8 (s.regF bCen 0x010 8 5))

/-- R570, R593. A soft reset of CEN: the census table and the sample queue are discarded, and the census goes on with the values
of the image from the frame of the reset (log entry 119). -/
def State.resetCen (s : State) : State :=
  let s1 := s.resetRegs bCen
  { s1 with cen := { running := s1.regF bCen 0x010 0 1 == 1, k := s1.censusK, startFn := s1.tt.fn } }

/-- R570. A soft reset of BRG: running descriptors are abandoned without completion records, and every queue is emptied. A
launch that both modules run leaves its destination to the resync (R396). -/
def State.resetBrg (s : State) : State :=
  let s1 := s.fry.bargeAt.foldl (fun s b => if b.2.stage = 3 then s.bargeSuspect (pagesOf b.2.dst b.2.len) else s) s
  { s1 with barge := s1.barge.map fun c => (c.1, { ({} : BargeCh) with out := c.2.out })
            fry := { s1.fry with bargeAt := [] } }

/-- R567, R570. A soft reset of the block at a BAR2 page; refused for all but CEN and BRG once Memory_Active is 1. -/
def State.softReset (s : State) (page : Nat) (m : Master) : State :=
  match blkAt page with
  | none => s.record bTop 380 0x1006 .warning [(2, page), (1, masterVal m)]
  | some b =>
    if b = bCen then s.resetCen
    else if b = bBrg then (s.resetRegs bBrg).resetBrg
    else if s.start.memActive then s.record bTop 380 0x1006 .warning [(2, page), (1, masterVal m)]
    else (s.resetRegs b).clearRo b

/-- R570. SOFT_RESET: TOP_SOFT_RESET.GO with the block's BAR2 offset shifted right by 16. -/
def execSoftReset (m : Master) (page : Nat) (s : State) : Res := .next (s.begin.softReset page m)

/-! ### External inputs (R571) -/

/-- R571. PWRDIS_ASSERT: PWRDIS high for 5 ms is an Off request. -/
def execPwrdisAssert (s0 : State) : Res :=
  let s := s0.begin
  .next (({ s with start := { s.start with pwrdis := true } } : State).offStand)

/-- R571. PWRDIS_DEASSERT is an On request. -/
def execPwrdisDeassert (s0 : State) : Res :=
  let s := s0.begin
  .next (({ s with start := { s.start with pwrdis := false } } : State).onRequest 1)

/-- R571. PRSNT_HIGH: the card is not seated. In service it is a loss of main power. -/
def execPrsntHigh (s0 : State) : Res :=
  let s := s0.begin
  .next (({ s with start := { s.start with prsntHigh := true } } : State).gate (!s.start.prsntHigh) State.mainLost)

/-- R571. PRSNT_LOW: the card is seated, and the power-up that PRSNT# blocked may go ahead. -/
def execPrsntLow (s0 : State) : Res :=
  let s := s0.begin
  .next (({ s with start := { s.start with prsntHigh := false } } : State).gate (s.start.prsntHigh && !s.start.pwrdis) fun s =>
    s.onRequest 4)

/-- R571. INPUT_FAULT: CLKREQ# reads high for 1 ms while driven low, recorded once. Inputs are numbered in the order R571
names them, CLKREQ# 5. -/
def execInputFault (s0 : State) : Res :=
  let s := s0.begin
  .next (s.gate (decide (3 ≤ s.start.step) && !s.start.clkreqFault) fun s =>
    ({ s with start := { s.start with clkreqFault := true } } : State).record bTop 380 0x1008 .warning [(1, 5), (1, 1)])

/-- R571. FERRY_PRES_CHANGE: with the peer present, FRY tries to train the ferry link; removal never splits the pair by
itself. -/
def execFerryPresChange (present : Bool) (s0 : State) : Res :=
  let s := s0.begin
  .next { s with
    start := { s.start with ferryPres := present }, fry := { s.fry with downRecorded := s.fry.downRecorded && present } }

/-- R466, R571. SMBCLK_LOW_TIMEOUT: the MCTP endpoint resets its interface. -/
def execSmbclkLowTimeout (s0 : State) : Res :=
  let s := s0.begin
  .next (({ s with mbox := { s.mbox with mctpBusy := false } } : State).record bMgt 255 0x0C71 .warning [(1, 2)])

end Sys2Proof.Machine
end

