-- ==== Sys2Proof/Machine/Bus.lean ====
section
/-!
DEFINITION. Writes through BAR2 (R33–R53): registers, their aliases, posted writes, and the actions of WS bits and of the
RI fields that act when written. Every path takes the same actions (R36).
-/
namespace Sys2Proof.Machine

/-- Bit `i` of the WS bits triggered at an offset. -/
def hasBit (acts : List (Nat × Word)) (off i : Nat) : Bool := acts.any fun a => a.1 == off && a.2.getLsbD i

/-- The number in two adjacent stored registers. -/
def State.reg64 (s : State) (b off : Nat) : Nat := (s.actW b off).toNat + 2 ^ 32 * (s.actW b (off + 4)).toNat

/-- R44, R573, R552. What a write to TOP does beyond its fields. -/
def State.actTop (s : State) (m : Master) (acts : List (Nat × Word)) : State :=
  let s1 := acts.foldl (fun s a => if a.1 = 0x100 then s.strobe a.2 else s) s
  let s2 := s1.gate (hasBit acts 0x110 0) fun s => s.wakeMoored 3
  let s3 := s2.gate (hasBit acts 0x110 1) State.moorRequest
  let s4 := s3.gate (hasBit acts 0x110 2) State.offStand
  let s5 := s4.gate (hasBit acts 0x118 0) State.coldReset
  s5.gate (hasBit acts 0x11c 16) fun s => s.softReset (s.regF bTop 0x11c 0 16) m

/-- R180, R192. GO of the command port, with the operation and the range its registers hold. -/
def State.portGo (s : State) : State :=
  let op := s.regF (bCs 0) 0x110 0 3
  let start := s.reg64 (bCs 0) 0x100 % 2 ^ 33
  let count := s.reg64 (bCs 0) 0x108 % 2 ^ 33
  match op with
  | 1 => s.rangeGo .lock start count
  | 2 => s.rangeGo .unlock start count
  | 3 => s.rangeGo .clean start count
  | 4 => s.rangeGo .invalidate start count
  | _ =>
    if s.cache.port.busy then s.record (bCs 0) 186 0x0504 .warning [(1, op)]
    else { s with cache := { s.cache with port := { start := start, count := count, result := 3 } } }

/-- R54, R60, R485. FLUSH of a queue through its Q_CTRL. -/
def State.queueFlush (s : State) (q : QueueId) : State :=
  let s1 := s.setQ q (s.getQ q).flush
  match q with
  | .descriptors n => s1.modBrg n.val fun c => { c with tail := c.head }
  | _ => s1

/-- R485, R486, R489. What a write to BRG does: doorbells, RESUME, and queue flushes. -/
def State.actBrg (s : State) (ws acts : List (Nat × Word)) : State :=
  (List.range 4).foldl (fun s n =>
    let i : Fin 4 := ⟨n % 4, Nat.mod_lt _ (by decide)⟩
    let s1 := s.gate (ws.any fun w => w.1 == 0x040 + 0x20 * n) fun s =>
      s.doorbell n (s.regF bBrg (0x040 + 0x20 * n) 0 16) 1
    let s2 := s1.gate (hasBit acts (0x048 + 0x20 * n) 0) fun s => s.bargeGoOn n
    let s3 := s2.gate (hasBit acts (0x20c + 0x40 * n) 0) fun s => s.queueFlush (.descriptors i)
    s3.gate (hasBit acts (0x22c + 0x40 * n) 0) fun s => s.queueFlush (.completions i)) s

/-- What a write to block `b` does beyond its stored fields: `ws` are the words written, `acts` the WS bits set to 1. -/
def State.act (s : State) (m : Master) (b : Nat) (ws acts : List (Nat × Word)) : State :=
  match blkType b with
  | 1 => s.actTop m acts
  | 2 => (s.gate (hasBit acts 0x044 0) State.oscReturn).gate (hasBit acts 0x044 1) State.oscForce
  | 5 => s.gate (b == bCs 0 && hasBit acts 0x110 8) State.portGo
  | 6 => s.gate (ws.any fun w => w.1 == 0x040 || w.1 == 0x044) fun s => s.probe (s.reg64 bXl 0x040 % 2 ^ 45)
  | 8 => s.gate (hasBit acts 0x100 27) fun s => s.trainGo (blkInst b)
  | 10 => (s.gate (hasBit acts 0x10c 0) fun s => s.queueFlush .secRequest).gate (hasBit acts 0x12c 0) fun s =>
      s.queueFlush .secResponse
  | 12 => s.actBrg ws acts
  | 14 => s.gate (hasBit acts 0x10c 0) fun s => s.queueFlush .records
  | 15 => s.gate (hasBit acts 0x10c 0) fun s => s.queueFlush .samples
  | 17 =>
    let s1 := (s.gate (hasBit acts 0x020 0) State.imgOpenCmd).gate (hasBit acts 0x020 1) State.imgCheckCmd
    (s1.gate (hasBit acts 0x028 0) State.calOpenCmd).gate (hasBit acts 0x028 1) State.calCloseCmd
  | _ => s

/-- R10, R39. A write through the register file at base address `off` under a mode, with its actions. -/
def State.writeAct (s : State) (m : Master) (off size : Nat) (be : BitVec 64) (v : BitVec 512) (mode : WriteMode)
    (back : Nat) : State :=
  let r := s.regWrite m off size be v mode back
  match r.2 with
  | none => r.1
  | some (b, ws) => r.1.act m b ws (strobes b mode ws)

/-- R42, R54. A write to a table window: the queue locations and the store window act, a write of a wrong size or alignment is
ignored and recorded, and every other window is RO. -/
def State.windowWrite (s : State) (m : Master) (b off size : Nat) (be : BitVec 64) (v : BitVec 512) : State :=
  let o := off % 0x10000
  let odd := !([4, 8, 16, 32, 64].contains size) || o % (max size 1) != 0
  let queue : Option (QueueId × Nat) := match blkType b with
    | 10 => if o < 0x5000 then some (.secRequest, 0x4000) else if o < 0x6000 then some (.secResponse, 0x5000) else none
    | 12 =>
      if o < 0x5000 then some (.descriptors ⟨(o - 0x4000) / 0x400 % 4, Nat.mod_lt _ (by decide)⟩, o / 0x400 * 0x400)
      else if 0x6000 ≤ o ∧ o < 0x7000 then
        some (.completions ⟨(o - 0x6000) / 0x400 % 4, Nat.mod_lt _ (by decide)⟩, o / 0x400 * 0x400)
      else none
    | 14 => if 0x8000 ≤ o then some (.records, 0x8000) else none
    | 15 => if 0xc000 ≤ o then some (.samples, 0xc000) else none
    | _ => none
  let near : Bool := match queue with
    | some (q, base) => decide ((o - base) % 0x100 < qWord q ∧ o - base < 0x300)
    | none => false
  match queue, near && (queue.any fun q => o == q.2 || o == q.2 + 0x100) with
  | some (q, base), true => s.doPush m q v size (o != base)
  | _, _ =>
    if s.bar2There m = false then s
    else if secBlocked m b o || keyBlocked m b o then s.protectRecord m (blockedKind b) off
    else if s.live b = false then s.offRecord m b off 1
    else if near then s
    else if odd then s.record b 381 0x0203 .warning [(4, off), (8, be.toNat % 2 ^ size), (1, masterVal m)]
    else if blkType b = 17 ∧ 0x8000 ≤ o then s.storeWindow m (o - 0x8000) size be v
    else s

/-- R33–R42. A write of BAR2 at any offset, by its place in the block. -/
def State.busWrite (s : State) (m : Master) (off size : Nat) (be : BitVec 64) (v : BitVec 512) : State :=
  match blkAt (off / 0x10000) with
  | none => s
  | some b =>
    let o := off % 0x10000
    if o < 0x1000 then s.writeAct m off size be v .plain 0
    else if o < 0x2000 then s.writeAct m off size be v .set 0x1000
    else if o < 0x3000 then s.writeAct m off size be v .clear 0x2000
    else if o < 0x4000 then s.writeAct m off size be v .toggle 0x3000
    else s.windowWrite m b off size be v

/-- R586. TOP counts BAR2 accesses of host software: 0x041 reads, 0x042 writes. -/
def State.bar2Count (s : State) (m : Master) (write : Bool) : State :=
  s.gate (m == .hp0 || m == .hp1) fun s => s.count bTop (if write then 0x42 else 0x41) 1

/-- R10, R35–R38, R42. REGISTER_WRITE: a write at any offset of BAR2, of registers, of an alias or of a table window. -/
def execRegisterWrite (m : Master) (off size : Nat) (be : BitVec 64) (value : BitVec 512) (s : State) : Res :=
  .next ((s.begin.bar2Count m true).busWrite m off size be value)

/-- R42, R496. STORE_WINDOW_WRITE, at an offset of the store window. -/
def execStoreWindowWrite (m : Master) (off size : Nat) (be : BitVec 64) (value : BitVec 512) (s : State) : Res :=
  .next (s.begin.gate (decide (off < 0x8000)) fun s =>
    (s.bar2Count m true).windowWrite m bPst (regKey bPst (0x8000 + off)) size be value)

/-- R39–R41. SET_ALIAS_WRITE. -/
def execSetAliasWrite (m : Master) (off size : Nat) (be : BitVec 64) (value : BitVec 512) (s : State) : Res :=
  .next ((s.begin.bar2Count m true).writeAct m off size be value .set 0x1000)

/-- R39–R41. CLEAR_ALIAS_WRITE. -/
def execClearAliasWrite (m : Master) (off size : Nat) (be : BitVec 64) (value : BitVec 512) (s : State) : Res :=
  .next ((s.begin.bar2Count m true).writeAct m off size be value .clear 0x2000)

/-- R39–R41. TOGGLE_ALIAS_WRITE. -/
def execToggleAliasWrite (m : Master) (off size : Nat) (be : BitVec 64) (value : BitVec 512) (s : State) : Res :=
  .next ((s.begin.bar2Count m true).writeAct m off size be value .toggle 0x3000)

/-- R50, R51. POSTED_WRITE: a write of RP fields goes to their target domain under XBUSY; its other fields are written as
REGISTER_WRITE writes them. -/
def execPostedWrite (m : Master) (off size : Nat) (be : BitVec 64) (value : BitVec 512) (s : State) : Res :=
  let rp : Bool := match blkAt (off / 0x10000) with
    | some b => (accessWords (off % 0x10000) size be value).any fun w => (regSpec (blkType b) w.1).rp != 0
    | none => false
  .next (s.begin.gate rp fun s => (s.bar2Count m true).writeAct m off size be value .plain 0)

end Sys2Proof.Machine
end

