-- ==== Sys2Proof/Machine/Startup.lean ====
section
/-!
DEFINITION. The cold start (R554–R566): one command for each step of R555, from the boot ROM tests to Memory_Active, with the
loader (R504–R507), the pointer scan (R139), the drift rebase (R213) and the records of the last power cycle (R553).
-/
namespace Sys2Proof.Machine

/-! ### Records of the store (R494) -/

/-- R494, R501. Of two copies of a record, the one with a valid CRC and the newer sequence number; a tie takes the lower
address. -/
def newerOf (a b : Option Nat) (seq : Nat → Nat) : Option Nat :=
  match a, b with
  | some x, some y => if seqNewer (seq y) (seq x) then some y else some x
  | some x, none => some x
  | none, y => y

/-- R494. A copy of `n` covered bytes with its CRC-32C behind them is valid. -/
def crcOk (m : Mem) (a n : Nat) : Bool := (crc32c (Mem.reads m a n)).toNat == Mem.num m (a + n) 4

/-- R550. The address of a power-fail record copy, when it is valid. -/
def State.pfCopy (s : State) (a : Nat) : Option Nat :=
  if Mem.num s.store a 4 = 0x4C465750 ∧ crcOk s.store a 252 = true then some a else none

/-- R494, R550. The power-fail record in use. -/
def State.pfRecord (s : State) : Option Nat :=
  newerOf (s.pfCopy 0x012000) (s.pfCopy 0x013000) fun a => Mem.num s.store (a + 4) 4

/-- R137. The address of a checkpoint copy, when its CRC matches. -/
def State.ckptCopy (s : State) (a : Nat) : Option Nat :=
  let bs := Mem.reads s.store a 12 ++ Mem.reads s.store (a + 16) 4080
  if Mem.num s.store (a + 10) 2 = 384 ∧ (crc32c bs).toNat = Mem.num s.store (a + 12) 4 then some a else none

/-- R137. The checkpoint in use. -/
def State.ckptRecord (s : State) : Option Nat :=
  newerOf (s.ckptCopy 0) (s.ckptCopy 0x1000) fun a => Mem.num s.store a 4

/-- R518. The health record in use. -/
def State.healthRecord (s : State) : Option Nat :=
  let copy (a : Nat) : Option Nat := if Mem.num s.store a 4 = 0x48544C48 ∧ crcOk s.store a 60 = true then some a else none
  newerOf (copy 0x0F0000) (copy 0x0F0040) fun a => Mem.num s.store (a + 4) 4

/-- R386. The role record in use. -/
def State.roleRecord (s : State) : Option Nat :=
  let copy (a : Nat) : Option Nat := if Mem.num s.store a 4 = 0x46454E43 ∧ crcOk s.store a 60 = true then some a else none
  newerOf (copy 0x118000) (copy 0x118040) fun a => Mem.num s.store (a + 4) 4

/-- R321. A key record copy is valid. -/
def State.keyCopy (s : State) (a : Nat) : Option Nat :=
  let bs := Mem.reads s.store a 252 ++ Mem.reads s.store (a + 256) 16640
  if Mem.num s.store a 4 = 0x4B595243 ∧ (crc32c bs).toNat = Mem.num s.store (a + 252) 4 then some a else none

/-- R64. The highest FN on record in valid power-fail records and checkpoints. -/
def State.highestFn (s : State) : Nat :=
  let pf := ([0x012000, 0x013000].filterMap s.pfCopy).map fun a => Mem.num s.store (a + 8) 6
  let ck := ([0, 0x1000].filterMap s.ckptCopy).map fun a => Mem.num s.store (a + 4) 6
  (pf ++ ck).foldl max 0

/-- R561. The last power-down was clean. -/
def State.cleanDown (s : State) : Bool :=
  match s.pfRecord with
  | none => false
  | some a =>
    let flags := Mem.num s.store (a + 14) 1
    let ck := (s.ckptRecord.map fun c => Mem.num s.store (c + 4) 6).getD 0
    flags % 2 == 1 && flags / 4 % 2 == 1 && decide (ck ≤ Mem.num s.store (a + 8) 6)

/-! ### Steps 2 to 4 -/

/-- R557. The outcome row of a failed SRAM, from 0. -/
def bistRow (b : Nat) : Nat :=
  if bCs 0 ≤ b ∧ b < bXl then 0 else if bMch 0 ≤ b ∧ b < bDrc 0 then 1 else if bDrc 0 ≤ b ∧ b < bCry then 2
  else if b = bMgt then 3 else 4

/-- R557. The outcome of one SRAM that fails its BIST. -/
def State.bistFail (s : State) (x : Nat × Nat × Nat) : State :=
  let b := x.1
  let s1 := s.record bTop 380 0x1003 .error [(2, blkPage b), (1, x.2.1), (4, x.2.2), (1, bistRow b)]
  match bistRow b with
  | 0 =>
    let s2 := s1.modCs (blkInst b) fun c => { c with removed := true }
    let gone := (List.range 16).filter fun n => (s2.cs n).removed
    gone.foldl (fun s n => s.modCs n fun c => { c with servedBy := s2.server n }) s2
  | 1 => { s1 with integ := { s1.integ with failedBlocks := s1.integ.failedBlocks ++ [b] } }
  | 2 => s1.modDrc (blkInst b) fun d => { d with failed := true }
  | 3 =>
    { s1 with integ := { s1.integ with romA := s1.integ.romA || x.2.1 == 0, romB := s1.integ.romB || x.2.1 == 1 } }
  | _ => { s1 with start := { s1.start with disabled := true, hwReplace := true } }

/-- R571, R437. The head configuration, from the samples of DUALPORTEN#. -/
def State.selectHeads (s : State) (samples : List Bool) : State :=
  let high := samples.any id
  let differ := high && samples.any fun b => !b
  let s1 := s.gate differ fun s => s.record bTop 380 0x1007 .warning
    [(1, 4), (4, sumUp 8 fun k => b2n (samples.getD k false) * 2 ^ k)]
  let mode := s1.regF (bHp 0) 0x010 0 2
  let dual := mode == 2 || (mode == 0 && !high)
  let put (s : State) (h : Nat) : State :=
    s.setW (bHp h) 0x010 ((s.actW (bHp h) 0x010 &&& ~~~4#32) ||| BitVec.ofNat 32 (4 * b2n dual))
  put (put s1 0) 1

/-- R503, R507. Run one image record of a copy; none when an ASSERT fails or a POLL times out. -/
def State.loadRec (s : State) (copy : Nat) (polls : List (Nat × Nat)) (r : ImgRec) : Option State :=
  let mask := BitVec.ofNat 32 r.mask
  let reads := r.blocks.all fun b => BitVec.ofNat 32 (s.viewWord b r.off) &&& mask == BitVec.ofNat 32 r.value
  match r.ty with
  | 3 => some (r.blocks.foldl (fun s b => s.act .loader b [(r.off, BitVec.ofNat 32 r.value)] [(r.off, BitVec.ofNat 32 r.value)]) s)
  | 4 => if reads || !(polls.contains (copy, r.idx)) then some s else none
  | 6 => if reads then some s else none
  | _ => some (s.imgApply r)

/-- R507. Apply records in order; the answer is the record at which it ended, if it did, and whether that was a POLL. -/
def State.loadAll (copy : Nat) (polls : List (Nat × Nat)) : List ImgRec → State → Except (Nat × Bool) State
  | [], s => .ok s
  | r :: rs, s => match s.loadRec copy polls r with
    | some s' => State.loadAll copy polls rs s'
    | none => .error (r.idx, r.ty == 4)

/-- R505–R507. Copy `k` of the image in `store` has been applied: it is in use, and the load is recorded. -/
def State.loaderDone (t0 : State) (store : List Host.Cell) (k : Nat) (tie otherValid : Bool) : State :=
  let same := Mem.reads store (imgBase 0) 0x40000 == Mem.reads store (imgBase 1) 0x40000
  let t : State := { t0 with regs := { t0.regs with image := t0.regs.active, active := [], shadow := [] } }
  let t1 := t.gate tie fun t => t.record bPst 380 0x0E02 .warning [(4, t.imgSeqOf 0), (1, b2n same)]
  let t2 := t1.record bPst 380 0x0E01 .info [(1, k), (4, t.imgSeqOf k), (1, Mem.num store (imgBase k + 44) 1)]
  { t2 with pst := { t2.pst with
    imgInUse := k, imgSeq := t.imgSeqOf k, imgSeqOther := t.imgSeqOf (1 - k), otherValid := otherValid } }

/-- R507, R505. Try the copies in order: apply the first that can be applied. `cause` holds for each copy why it was not: the
step of R504, 6 when it was refused at application. With SEQ values that tie, both copies have been checked. -/
def State.loadCopies (polls : List (Nat × Nat)) (tie : Bool) : List (Nat × Nat) → List (Nat × Nat) → State → State
  | [], causes, s =>
    let c (k : Nat) : Nat := ((causes.find? fun p => p.1 == k).map fun p => p.2).getD 0
    let s1 := s.record bPst 380 0x0E05 .fatal [(1, c 0), (1, c 1)]
    { s1 with pst := { s1.pst with unconfigured := true }, start := { s1.start with disabled := true } }
  | (k, step) :: rest, causes, s =>
    if step ≠ 0 then
      State.loadCopies polls tie rest (causes ++ [(k, step)])
        (s.record bPst 380 0x0E03 .warning [(1, k), (1, step)])
    else
      match State.loadAll k polls (imgRecs s.store (imgBase k)) s with
      | .error (i, poll) =>
        State.loadCopies polls tie rest (causes ++ [(k, 6)]) (s.record bPst 380 0x0E04 .error [(1, k), (4, i), (1, b2n poll)])
      | .ok t =>
        let other := rest.filter fun p => tie && p.2 != 0
        let t1 := other.foldl (fun t p => t.record bPst 380 0x0E03 .warning [(1, p.1), (1, p.2)]) t
        t1.loaderDone s.store k (tie && k == 0 && rest.any fun p => p.2 == 0)
          (causes.contains (1 - k, 6) || (tie && rest.any fun p => p.2 == 0))

/-- R504–R507. The loader: the copy with the newer SEQ is checked first, the other only when it fails or ties. -/
def State.runLoader (s : State) (sigA sigB : Bool) (polls : List (Nat × Nat)) : State :=
  let sa := s.imgSeqOf 0
  let sb := s.imgSeqOf 1
  let fa := s.imgFails 0 sigA
  let fb := s.imgFails 1 sigB
  let tie := !(seqNewer sa sb) && !(seqNewer sb sa)
  let order := if seqNewer sb sa then [(1, fb), (0, fa)] else [(0, fa), (1, fb)]
  State.loadCopies polls tie order [] s

/-- R532, R553. What the last power cycle left to report: FLUSH_DONE or FLUSH_INCOMPLETE from the power-fail record when one
follows the start before, and the first failure. They carry STORED (R577). -/
def State.lastCycle (s : State) (before : Nat) : State :=
  let stored (s : State) (b src code : Nat) (sev : Severity) (items : List Item) : State :=
    let o := (mkRecords s.tt.fn src code sev items).map fun r => { r with stored := true }
    { s with tele := s.tele.record s.tt.fn s.live b o }
  let first (s : State) (rail level : Nat) (fromStore : Bool) : State :=
    let code := if level = 3 then 0x0F12 else 0x0F11
    let sev : Severity := if level = 3 then .error else .warning
    let items : List Item := if level = 3 then [(1, rail), (2, 0), (1, railOutcome rail)] else [(1, rail), (2, 0)]
    if fromStore then stored s bPwr (305 + rail) code sev items else s.record bPwr (305 + rail) code sev items
  match s.pfRecord with
  | some a =>
    let n (o w : Nat) : Nat := Mem.num s.store (a + o) w
    if before ≤ n 8 6 then
      let s1 := if n 14 1 % 2 = 1 then
          stored s bPwr 322 0x0F22 .info [(4, (n 40 8 - n 32 8) / 1000), (4, n 68 2), (2, n 66 2)]
        else stored s bPwr 322 0x0F23 .fatal [(1, s.nv.flushStep), (4, n 56 8), (4, n 48 8)]
      match s.pwr.first with
      | some f => first s1 f.1 f.2.1 false
      | none => if n 16 1 < 17 then first s1 (n 16 1) (n 17 1) true else s1
    else match s.pwr.first with
      | some f => first s f.1 f.2.1 false
      | none => s
  | none => match s.pwr.first with
    | some f => first s f.1 f.2.1 false
    | none => s

/-- R241, R556. The commit page of each head starts at FIRST_FN. -/
def State.commitStart (s : State) (fn : Nat) : State :=
  [0, 1].foldl (fun s h => s.modHead h fun d => { d with
    firstFn := fn, acceptedFn := fn - 1, mediaFn := fn - 1, pairFn := fn - 1 }) s

/-- R105, R437, R540, R545, R556–R558. What step 3 sets once the image is applied: the head configuration, domains, map and
class in force, dirty shares, and heads out of reset. -/
def State.adopt (s0 : State) (samples : List Bool) : State :=
  let s := s0.selectHeads samples
  let cls := min 2 (s.regF bPwr 0x014 0 2)
  let s1 : State := { s with
    tt := { s.tt with map := s.regF bTt 0x020 0 2, cls := cls }
    pwr := { s.pwr with cls := cls }
    cen := { s.cen with running := s.regF bCen 0x010 0 1 == 1, k := min 24 (max 8 (s.regF bCen 0x010 8 5)), startFn := s.tt.fn }
    fry := { s.fry with pstate := .unpaired } }
  let s2 := (List.range 16).foldl (fun s n => s.modCs n fun c => { c with share := 16384 * s.limitGib }) s1
  let s3 := [0, 1].foldl (fun s h => s.modHp h fun p => { p with inReset := s.start.perst.contains h || !(s.headUsed h) }) s2
  (s3.setDomains s3.openDomain).protectSet

/-- R64, R241, R553, R555 step 3. What precedes the loader: TT ticks from 2^24 above the highest FN on record, and the records of
the last power cycle are made. -/
def State.loaderBegin (s : State) (mainOk backupOk storeOk : Bool) : State :=
  let fn := s.highestFn + 2 ^ 24
  let before := (s.healthRecord.map fun a => Mem.num s.store (a + 28) 6).getD 0
  let src : Osc := if mainOk then .main else .backup
  let s1 : State := { s with
    pst := { s.pst with ok := storeOk }
    tt := { s.tt with fn := fn, skip := 0, cyc := 0, src := src, mainOk := mainOk, backupOk := backupOk, mainOkSince := fn
                      locked := mainOk || backupOk, standbyFailed := false } }
  let s2 := s1.record bTt 368 0x0341 .info [(6, s.tt.fn), (6, fn), (1, 0)]
  (s2.lastCycle before).commitStart fn

/-- R555 step 3. TT starts ticking, the loader runs, and heads leave reset. -/
def State.startLoader (s : State) (samples : List Bool) (mainOk backupOk sigA sigB : Bool) (polls : List (Nat × Nat))
    (storeOk : Bool) : State :=
  let s4 := ((s.loaderBegin mainOk backupOk storeOk).runLoader sigA sigB polls).adopt samples
  { s4 with start := { s4.start with firstFn := s.highestFn + 2 ^ 24 }
            pwr := { s4.pwr with pfSeq := (s4.pfRecord.map fun a => Mem.num s4.store (a + 4) 4).getD 0, first := none } }

/-- R518. What the health record holds for this start; an absent record is recorded and its values are those of R518. -/
def State.healthLoad (s : State) : State :=
  match s.healthRecord with
  | some a =>
    let n (o w : Nat) : Nat := Mem.num s.store (a + o) w
    { s with
      mbox := { s.mbox with
        healthSeq := n 4 4, dirtyCount := n 16 4, shutdown := BitVec.ofNat 8 (n 20 1), fwNext := n 21 1 % 2 }
      start := { s.start with coldStarts := n 24 4 } }
  | none =>
    ({ s with
      mbox := { s.mbox with dirtyCount := 0, shutdown := 1, fwNext := 0 }
      start := { s.start with coldStarts := 0 } } : State).record bPst 383 0x0E14 .warning [(4, 0x0F0000)]

/-- R519, R520. A firmware slot whose check fails: its header's magic is wrong, or SEC refuses it. -/
def State.fwBad (s : State) (slot : Nat) (bad : List Nat) : Bool :=
  bad.contains slot || s.fwHeader slot 0 4 != 0x57464C53

/-- R348. Note the first test that failed. -/
def State.selfFail (s : State) (row : Nat) : State :=
  { s with sec := { s.sec with firstFail := if s.sec.firstFail = 0 then row else s.sec.firstFail } }

/-- R342, R520. The firmware slot that starts; with both failing, SEC's error state. -/
def State.fwStart (s : State) (bad : List Nat) : State :=
  let k := s.mbox.fwNext
  if s.fwBad k bad = false then { s with mbox := { s.mbox with fwRunning := k } }
  else if s.fwBad (1 - k) bad = false then
    ({ s with mbox := { s.mbox with fwRunning := 1 - k, fwNext := 1 - k } } : State).record bTop 380 0x0E06 .error
      [(1, k), (1, 1 - k)]
  else ((s.record bCry 295 0x0961 .fatal [(1, 1), (1, 0)]).selfFail 1).cryptoError 0

/-- R555 step 4. Firmware, SEC's self-tests, and the BIST of every other SRAM. -/
def State.startFirmware (s : State) (bad : List Nat) (fail : Option (Nat × Nat)) (entropy : Bool) (bist : List (Nat × Nat × Nat)) :
    State :=
  let s1 := s.healthLoad.fwStart bad
  let s2 := match fail with
    | some (row, e) =>
      ((s1.record bCry 295 0x0961 .fatal [(1, row), (1, e)]).cryptoError 1)
    | none => s1
  let s3 := if entropy then s2 else (s2.record bCry 295 0x0961 .fatal [(1, 4), (1, 0)]).degradedOp 0
  let row := if s3.sec.firstFail ≠ 0 then s3.sec.firstFail else match fail with
    | some (r, _) => r
    | none => if entropy then 0 else 4
  let s4 : State := { s3 with
    sec := { s3.sec with selftestDone := true, selftestPass := row == 0, firstFail := row
                         drbgOk := entropy && !s3.sec.error, drbgCalls := 0 }
    start := { s3.start with mboxReady := true } }
  bist.foldl State.bistFail s4

/-! ### Steps 5 and 6 -/

/-- R424, R425, R432, R555 step 5. DRAM training: a channel that fails is left out, and with two or more CXL.mem stays
disabled. -/
def State.startTraining (s : State) (fails : List (Nat × Nat × Nat × Nat)) (windows : List (Nat × Nat × Nat × Nat)) : State :=
  let s1 := fails.foldl (fun s f =>
    s.record (bDrc f.1) (dramSrc f.1 f.2.1 4) 0x0B22 .error [(1, f.2.1), (1, f.2.2.1), (1, f.2.2.2)]) s
  let gone := (List.range 4).filter fun c => (s1.drc c).failed || fails.any fun f => f.1 == c
  let speed := if s1.tt.cls = 0 then 1 else 0
  let s2 := (List.range 4).foldl (fun s c =>
    if gone.contains c then s.modDrc c fun d => { d with failed := true, state := 7 }
    else
      let done := windows.filter fun w => w.1 == c && decide (w.2.1 < 2)
      let s1 := done.foldl (fun s w =>
        s.record (bDrc c) (dramSrc c 0 4) 0x0B21 .info [(1, w.2.1), (1, w.2.2.1), (4, w.2.2.2)]) s
      s1.modDrc c fun d => { d with state := 2, speed := speed }) s1
  let used := (List.range 4).filter fun c => !gone.contains c
  let s3 : State := { s2 with cache := { s2.cache with
    drams := if gone.length ≤ 1 then used else [0, 1, 2, 3], uncachedDrams := if gone.length ≤ 1 then [] else gone } }
  let s4 := gone.foldl (fun s c => s.modBrg c fun b => { b with out := true }) s3
  s4.gate (decide (2 ≤ gone.length)) fun s => { s with start := { s.start with disabled := true } }

/-- R599. SEC seeds the sampler of a head with a nonzero value from the DRBG. -/
def State.seedSampler (s : State) (h : Nat) : State :=
  ({ s with draws := s.draws + 1 } : State).generate.modHead h fun d => { d with
    lfsr := BitVec.ofNat 32 ((Config.draw s.draws).toNat % (2 ^ 32 - 1) + 1) }

/-- R143, R320, R428, R599, R555 step 6. SEC draws the DRAM cache key and the placement key and seeds the samplers, and every DRC
zero-fills its channel. -/
def State.startKeys (s : State) : State :=
  let s1 := (s.drawKey.1.drawKey.1.seedSampler 0).seedSampler 1
  let s2 : State := { s1 with
    dram := []
    sec := { s1.sec with cacheKey := !s1.sec.error, cacheKeyEpoch := s1.sec.cacheKeyEpoch + 1 }
    cache := { s1.cache with keyEpoch := s1.cache.keyEpoch + 1 } }
  (List.range 4).foldl (fun s c => s.modDrc c fun d => if d.failed then d else { d with state := 3 }) s2

/-! ### Step 7: media bring-up (R562) -/

/-- The next power of two of frames (R213). -/
def pow2Up (n : Nat) : Nat := if n ≤ 1 then 1 else 2 ^ (Nat.log2 (n - 1) + 1)

/-- R213. The off time a die measured, rounded up. -/
def offTime (off : List (Nat × Nat)) (k : Nat) : Nat :=
  pow2Up (match off.find? fun o => o.1 == k with
    | some o => o.2
    | none => (off.getLast?.map fun o => o.2).getD 0)

/-- R213. Rebase a channel's bands: after a clean power-down each row's age is its age at power-off plus the off time;
otherwise it is the band's refresh interval plus the off time, and the sweeper rewrites the bands first. -/
def State.rebaseBands (s : State) (c oldFn off : Nat) (clean : Bool) : State :=
  let fn := Int.ofNat s.tt.fn
  let shift := fn - Int.ofNat oldFn - Int.ofNat off
  let moved (m : Mch) (b : Nat) : Nat × Band :=
    let x := m.bands.getD b {}
    (b, { x with newFn := x.newFn + shift, prevFn := x.prevFn + shift })
  let worst (m : Mch) (b : Nat) : Nat × Band :=
    let at' := fn - Int.ofNat (s.interval c b + off)
    (b, { newFn := at', prevFn := at', prevSum := m.tempSum, newSum := m.tempSum })
  s.modMch c fun m => { m with bands := (List.range 228).map (if clean then moved m else worst m) }

/-- R214, R537, R562, R563. MCH tables restored: those of the save, or the periodic copy with watch lists and guards empty. -/
def restored (m : Mch) (up clean : Bool) : Mch :=
  let r := restoreMch { temps := m.temps, tempSum := m.tempSum } m
  let dead := (List.range 8).all fun d => m.roles.getD d 0 == 31
  { r with watch := if clean then r.watch else [], failed := dead, phyUp := up && !dead }

/-- R136, R139, R231. The home tag read at slot `p` of district `d`, from the first position that a die holds; none when no codeword yields
one. -/
def State.tagRead (s : State) (d p : Nat) (bad : List (Nat × Nat)) : Option Nat :=
  let psn := s.remap (psnOf d p)
  if bad.contains (d, p) then none
  else ((List.range 17).find? fun q => !s.noDie psn q).map fun q => (s.cell (s.assigned (dieOf psn) q) psn).home.toNat

/-- R139. The scan of one district from (start, gap): the state found, the slots read, and the slots taken as torn. -/
def State.scanDistrict (s : State) (d : Nat) (bad : List (Nat × Nat)) :
    Nat → Nat → Nat → Nat → List Nat → Nat × Nat × Nat × List Nat
  | 0, start, p, reads, torn => (start, p, reads, torn)
  | fuel + 1, start, p, reads, torn =>
    let gapTag := (p + distN - start) % distN % 4096
    let t := s.tagRead d p bad
    let here := match t with
      | some x => x % 4096 == gapTag
      | none => false
    if here then (start, p, reads + 1, torn)
    else
      let wrong := match t with
        | none => true
        | some x => p == 0 && x / 4096 != (start + 1) % 16
      let torn' := if wrong then torn ++ [p] else torn
      if p = 0 then State.scanDistrict s d bad fuel ((start + 1) % distN) distN (reads + 1) torn'
      else State.scanDistrict s d bad fuel start (p - 1) (reads + 1) torn'

/-- R227. Write one codeword of a stripe at a start, which counts as any other write of its plane. -/
def State.repairCw (s : State) (psn q : Nat) (w : Codeword) : State :=
  let c := s.assigned (dieOf psn) q
  (s.setCell c psn w).wearOne c psn

/-- R200, R202. The codewords of a stripe with the data blocks `js` lost: those blocks poisoned, and the parity of what the stripe then
holds. -/
def State.poisonBlocks (s : State) (psn : Nat) (js : List Nat) : State :=
  let now (j : Nat) : Codeword := s.cell (s.assigned (dieOf psn) (blockPos psn j)) psn
  let next (j : Nat) : Codeword := if js.contains j then { now j with data := 0, gen := 0, poison := 15, mac := 0 } else now j
  let s1 := js.foldl (fun s j => s.repairCw psn (blockPos psn j) (next j)) s
  s1.gate (!js.isEmpty) fun s => s.repairCw psn (parityPos psn) (parityOf ((List.range 16).map next))

/-- R139, R202, R564. Record TORN_STRIPE and poison the sectors of some blocks of a stripe, which are lost. -/
def State.tornStripe (s : State) (d slot psn : Nat) (blocks : List Nat) : State :=
  let s2 := (s.record bXl 372 0x0433 .error [(2, d), (4, slot), (5, psn)]).poisonBlocks psn blocks
  match s2.lpnAt psn with
  | some l => blocks.foldl (fun s j => s.poisonPage .internal l (blockMask j 15)) s2
  | none => s2

/-- R139. Rebuild every district from the checkpoint, or from the factory state where none is valid. -/
def State.pointerScan (s : State) (bad : List (Nat × Nat)) : State :=
  let entry (d : Nat) : Nat × Nat := match s.ckptRecord with
    | some a =>
      let w := Mem.num s.store (a + 16 + 8 * d) 8
      (w % 2 ^ 24, w / 2 ^ 24 % 2 ^ 25)
    | none => (0, distN)
  let found := (List.range 384).map fun d =>
    (d, entry d, State.scanDistrict s d bad (2 * (distN + 1)) (entry d).1 (entry d).2 0 [])
  let s1 : State := { s with xl := { s.xl with districts := found.map fun f =>
    (f.1, { start := f.2.2.1, gap := f.2.2.2.1 }) } }
  let moved := found.countP fun f => f.2.1.1 != f.2.2.1 || f.2.1.2 != f.2.2.2.1
  let reads := (found.map fun f => f.2.2.2.2.1).foldl (· + ·) 0
  let s2 := found.foldl (fun s f => f.2.2.2.2.2.foldl (fun s p =>
    s.tornStripe f.1 p (s.remap (psnOf f.1 p)) (List.range 16)) s) s1
  s2.record bXl 372 0x0432 .info [(4, moved), (4, reads)]

/-- R202, R564. An interrupted stripe is read whole: with every codeword decoded its parity is restored; otherwise it is
recorded, and with two or more positions lost their blocks are poisoned. -/
def State.tornCheck (s : State) (psn : Nat) (bad : List (Nat × Nat)) : State :=
  let ps := (bad.filter fun x => x.1 == psn && decide (x.2 < 17)).map fun x => x.2
  if ps.isEmpty then s.parityCheck psn
  else
    let o := psn % 16777217
    let blocks := if 2 ≤ ps.length then ps.filterMap fun q => posBlock psn q else []
    let s1 := s.tornStripe (psn / 16777217) o psn blocks
    if ps.length = 1 then
      ps.foldl (fun s q => s.repairCw psn q { (s.reconstruct psn q) with parity := q == parityPos psn }) s1
    else s1

/-- R322. The key record in use: the newer valid copy whose unwrap succeeds. -/
def State.keyRecord (s : State) (unwrapBad : List Nat) : Option Nat :=
  let ok (i : Nat) : Option Nat := if unwrapBad.contains i then none else s.keyCopy (0x0E0000 + 0x8000 * i)
  newerOf (ok 0) (ok 1) fun a => Mem.num s.store (a + 4) 4

/-- R308, R317, R321, R322. The key slots as the record in use holds them. Key material is named by what SEC last wrote (log
entry 9). A record older than the last gives its own generations. With no valid copy in the store the slots are as SEC last
wrote them, from the factory when it never did (log entry 25); with none that unwraps, SEC enters its error state. -/
def State.keysLoad (s : State) (unwrapBad : List Nat) : State :=
  let some' := (s.keyCopy 0x0E0000).isSome || (s.keyCopy 0x0E8000).isSome
  match s.keyRecord unwrapBad with
  | none =>
    if some' then s.cryptoError 4 else { s with sec := { s.sec with slots := s.sec.recSlots } }
  | some a =>
    let slot (n : Nat) : KeySlot :=
      let e := a + 256 + 256 * n
      let k := s.sec.recSlots.getD n {}
      let f := Mem.num s.store (e + 2) 1
      { k with cur := Mem.num s.store e 1, prevLive := f % 2 == 1, op := f / 2 % 4, boundary := Mem.num s.store (e + 3) 5 }
    { s with sec := { s.sec with
      slots := s.sec.recSlots.map fun p => (p.1, slot p.1), keyrecSeq := Mem.num s.store (a + 4) 4 } }

/-- R138. The kind of the remap journal record at a store address; none where it is not whole. -/
def journalKind (m : Mem) (a : Nat) : Option Nat :=
  let k := Mem.num m a 1
  if (k = 1 ∨ k = 2 ∨ k = 3) ∧ (crc32c (Mem.reads m a 14)).toNat % 65536 = Mem.num m (a + 14) 2 then some k else none

/-- R138. The current journal is the one whose table save is the newer; before the first save it is journal A. -/
def journalNow (m : Mem) : Bool :=
  let save (b : Bool) : Option Nat := if journalKind m (journalBase b) = some 3 then some (Mem.num m (journalBase b + 9) 5) else none
  match save false, save true with
  | some x, some y => decide (x < y)
  | none, some _ => true
  | _, none => false

/-- R138. The journal records from an address on are applied to the tables; the answer counts them too. -/
def journalApply (m : Mem) : Nat → Nat → Kv BerthEntry × Kv (Nat × Nat) × Nat → Kv BerthEntry × Kv (Nat × Nat) × Nat
  | 0, _, t => t
  | fuel + 1, a, t =>
    let x := Mem.num m (a + 4) 5
    let y := Mem.num m (a + 9) 5
    match journalKind m a with
    | some 1 => journalApply m fuel (a + 16) (berthPut t.1 { src := x, len := Mem.num m (a + 1) 1 + 1, target := y }, t.2.1, t.2.2 + 1)
    | some 2 => journalApply m fuel (a + 16) (t.1, stripePut t.2.1 x y, t.2.2 + 1)
    | some _ => journalApply m fuel (a + 16) (t.1, t.2.1, t.2.2 + 1)
    | none => t

/-- R133, R138. XL as it is loaded after a flush that did not complete: the saved tables with the records of the current journal, and the
spares above the highest one they use. A retirement that was under way, and one that waited for its entry, are not in the store: they are
forgotten (log entry 142). -/
def State.remapLoad (s : State) : Xl :=
  let b := journalNow s.store
  let saved := if journalKind s.store (journalBase b) = some 3 then s.media.remapSave.getD ([], []) else ([], [])
  let t := journalApply s.store 2048 (journalBase b) (saved.1, saved.2, 0)
  { berths := t.1, stripes := t.2.1, journalB := b, journalLen := t.2.2, stripesRetired := t.2.1.map fun e => e.2.1
    nextBerth := t.1.foldl (fun n e => max n (e.2.target + e.2.len - 12616193)) 0
    nextStripe := t.2.1.foldl (fun n e => max n (e.2.2 + 1 - 6459228672)) 0 }

/-- R138, R140, R141, R562. XL at a start: from the save slot, or from the store. -/
def State.xlRestore (s : State) (clean : Bool) : Xl :=
  let ckpt := s.ckptRecord
  let x : Xl := if clean then { (s.save.getD s.nv).xl with moves := [], probeDone := false, gapLost := 0, mismatch := [] } else s.remapLoad
  { x with
    loaded := true, ckptSeq := (ckpt.map fun a => Mem.num s.store a 4).getD 0
    ckptFn := (ckpt.map fun a => Mem.num s.store (a + 4) 6).getD 0 }

/-- R293. The passes of each channel, counted from this start: of the channels in use the one furthest behind has done none
(log entry 162). -/
def State.passesAnew (s : State) : State :=
  let on := (List.range 18).filter fun c => (List.range 8).any fun d => s.role c d != 31
  let least := (on.map fun c => s.integ.mediaPasses.getD c 0).foldl min 0xffffffff
  { s with integ := { s.integ with mediaPasses := s.integ.mediaPasses.map fun e => (e.1, e.2 - least) } }

/-- R280, R472, R561–R563. Tables, engine positions and the poison list, after a clean power-down or another. -/
def State.mediaRestore (s : State) (clean : Bool) (phyBad : List Nat) (tags : List (Nat × Nat)) : State :=
  let nv := if clean then s.save.getD s.nv else s.nv
  let tables := if clean then nv.mchs else s.media.tables
  let up (c : Nat) : Bool := !phyBad.contains c
  let mchs := (List.range 18).map fun c => (c, restored (tables.getD c {}) (up c) clean)
  let rebuilding (r : Rebuild) : Bool := (tables.getD r.dstMch {}).rebuilding.contains r.die
  let s1 : State := { s with
    xl := s.xlRestore clean
    media := { s.media with
      mchs := mchs, rebuilds := nv.rebuilds.filter rebuilding, degraded := nv.degraded, lost := nv.lost
      guards := if clean then nv.guards else [] }
    integ := { s.integ with
      list := if clean then nv.list else []
      overflow := if clean then nv.overflow else true
      overflowAt := if clean then nv.overflowAt else s.stamp
      sweepPos := if clean then nv.sweepPos else [], logicalPos := if clean then nv.logicalPos else []
      logicalStart := if clean then nv.logicalStart else [], sweepStart := if clean then nv.sweepStart else (List.range 18).map fun c => (c, s.tt.fn)
      mediaPasses := if clean then nv.mediaPasses else [], dramStart := s.tt.fn, sramStart := s.tt.fn } }
  if clean then s1.passesAnew
  else
    let s2 : State := { s1 with media := { s1.media with mchs := s1.media.mchs.map fun p =>
      (p.1, { p.2 with rebuild := p.2.rebuilding.foldl (fun m d => m.set d d) p.2.rebuild }) } }
    s2.pointerScan tags

/-- R214, R557, R562. Channels that failed: their PHY did not train, or their SRAM failed its BIST. -/
def State.phyFail (s : State) (c : Nat) : State :=
  if (s.mch c).failed then s else s.channelFail c (if s.integ.failedBlocks.contains (bMch c) then 1 else 0)

/-- R451, R561, R566. The Dirty Shutdown Count rises at most once: for a flush that did not complete, no power-fail record since
the start before, or dirty data that the error state lost. A module with no start before has none to count. -/
def State.dirtyRaise (s : State) (clean : Bool) : State :=
  let before := s.healthRecord.map fun a => Mem.num s.store (a + 28) 6
  let stale := match before, s.pfRecord with
    | some f, some a => decide (Mem.num s.store (a + 8) 6 < f)
    | some _, none => true
    | none, _ => false
  let raise := (s.pfRecord.isSome && !clean) || stale || s.start.errorLost
  { s with
    mbox := { s.mbox with dirtyCount := sat32 s.mbox.dirtyCount (b2n raise) }
    start := { s.start with errorLost := false, coldStarts := sat32 s.start.coldStarts 1 } }

/-- R350, R365, R386, R388, R566. The pair state of a module without a peer, from its role record; a start without a bitmap
sets FULL_RESYNC. -/
def State.pairStart (s : State) : State :=
  if s.pairCfg = false then s
  else
    let n (o w : Nat) : Nat := match s.roleRecord with
      | some a => Mem.num s.store (a + o) w
      | none => 0
    let f := n 31 1
    let r : RoleRec := {
      seq := n 4 4, token := n 8 8, session := n 16 8, fn := n 24 6, role := n 30 1, clean := f % 2 == 1
      full := f / 2 % 2 == 1, suspect := f / 4 % 2 == 1, widx := n 32 8, peer := n 40 8, pairFn := n 48 6 }
    let lead := r.role == 1
    let s1 : State := { s with fry := { s.fry with
      roleRec := if s.roleRecord.isSome then some r else none, token := r.token, session := r.session, peerSerial := r.peer
      widxSent := r.widx, widxAcked := r.widx, widxNext := r.widx + 1
      pstate := if lead then .splitLead else .stranded, role := if lead then .lead else .none
      bitmap := [], spans := [], bitmapAll := false } }
    s1.gate (s.roleRecord.isSome && !r.clean && !r.full) fun s => s.roleWrite r.role r.clean true r.suspect

/-- R562. The save of a clean power-down that cannot be read is recorded. -/
def State.saveLost (s : State) (down : Bool) (saveBad : Option Nat) (slot : Nat) : State :=
  match down, saveBad with
  | true, some p => s.record bTop 380 0x1004 .error [(1, slot), (5, p)]
  | _, _ => s

/-- R513, R515. The check of the calibration set at a start. -/
def State.calCheck (s : State) : State :=
  match s.calFault with
  | none => { s with pst := { s.pst with calValid := true, calSource := Mem.num s.store 0x100005 1 } }
  | some why => ({ s with pst := { s.pst with calValid := false } } : State).record bPst 383 0x0E13 .error [(1, why)]

/-- R330, R562. A module with a user passphrase starts locked. -/
def State.lockAtStart (s : State) : State :=
  { s with sec := { s.sec with pass := { s.sec.pass with locked := s.sec.pass.user.isSome } } }

/-- R213. The off times of a channel's dies are recorded, and its bands start from them. -/
def State.offTimes (s : State) (c : Nat) (off : List (Nat × Nat)) (oldFn : Nat) (clean : Bool) : State :=
  let worst := ((List.range 8).map fun d => offTime off (8 * c + d)).foldl max 0
  let s1 := (List.range 8).foldl (fun s d =>
    s.record (bMch c) (8 * c + d) 0x0604 .info [(1, d), (6, offTime off (8 * c + d)), (1, b2n clean)]) s
  s1.rebaseBands c oldFn worst clean

/-- R562–R566, R555 step 7. Media bring-up. -/
def State.startMedia (s : State) (phyBad unwrapBad : List Nat) (saveBad : Option Nat) (torn tags : List (Nat × Nat))
    (off : List (Nat × Nat)) : State :=
  let down := s.cleanDown
  let s1 : State := { s with start := { s.start with clean := down } }
  let slot := (s.pfRecord.map fun a => Mem.num s.store (a + 77) 1).getD 0
  let s2 := s1.saveLost down saveBad slot
  let clean := down && saveBad.isNone
  let oldFn := (if clean then s.save.getD s.nv else s.nv).fn
  let s6 := ((s2.calCheck.keysLoad unwrapBad).lockAtStart).mediaRestore clean phyBad tags
  let s7 := (List.range 18).foldl (fun s c => s.offTimes c off oldFn clean) s6
  let s8 := if clean then s7 else s.nv.torn.foldl (fun s p => s.tornCheck p torn) s7
  let bad := (List.range 18).filter fun c => phyBad.contains c || s8.integ.failedBlocks.contains (bMch c)
  let s9 := bad.foldl State.phyFail s8
  let s10 := (s9.dirtyRaise down).healthWrite
  let s11 := s10.pairStart
  { s11 with nv := {}, save := s11.save, pwr := { s11.pwr with saveSlot := slot % 2 } }

/-! ### Step 8 and the command -/

/-- R259. The sustained media write of a map in MB/s. -/
def mapMBs (m : Nat) : Nat := if m = 0 then 32000 else if m = 1 then 16000 else 48000

/-- R432, R557, R558, R560. Step 8: the slices are enabled and Memory_Active is set. -/
def State.startDone (s : State) (ms : List Nat) : State :=
  let s1 : State := { s with
    start := { s.start with step := 8, memActive := true, durationMs := ms.foldl (· + ·) 0
                            cdatWrite := min (mapMBs s.tt.map) (16000 * (s.tt.cls + 1)) } }
  let items : List Item := [(1, s1.start.cause), (1, b2n s1.start.clean)] ++ (List.range 8).map fun i => (4, ms.getD i 0)
  (s1.record bTop 380 0x1001 .info items).pwrTo 2 0

/-- R555. COLD_START: one step of the start that runs, with what it finds; `ms` are the durations of the steps so far, and the
step that runs moves on to the next. A command for another step has no effect (log entry 26). -/
def execColdStart (input : StartIn) (ms : List Nat) (s0 : State) : Res :=
  let s := s0.begin
  let go (n : Nat) (f : State → State) : Res :=
    .next (s.gate (s.pwr.state == 1 && s.start.step == n) fun s =>
      let s1 := f s
      { s1 with start := { s1.start with step := n + 1 } })
  match input with
  | .rom bist kat => go 2 fun s =>
      let s1 := bist.foldl (fun s x => s.bistFail (bMgt, x.2)) s
      s1.gate (!kat) fun s => (s.record bCry 295 0x0961 .fatal [(1, 2), (1, 0)]).cryptoError 1
  | .loader dp m b sa sb polls ok => go 3 fun s => s.startLoader dp m b sa sb polls ok
  | .firmware bad fail entropy bist => go 4 fun s => s.startFirmware bad fail entropy bist
  | .training fails windows => go 5 fun s => s.startTraining fails windows
  | .keys => go 6 State.startKeys
  | .media phy unwrap save torn tags off => go 7 fun s => s.startMedia phy unwrap save torn tags off
  | .enable => .next (s.gate (s.pwr.state == 1 && s.start.step == 8 && !s.start.memActive) fun s => s.startDone ms)

/-- R560. STARTUP_TIMEOUT: media bring-up still runs 50 s after 12V_MAIN qualified; Memory_Active is set, and CXL.mem stays
disabled until the next cold start. -/
def execStartupTimeout (ms : Nat) (s0 : State) : Res :=
  let s := s0.begin
  .next (s.gate (s.pwr.state == 1 && s.start.step == 7 && decide (50000 ≤ ms)) fun s =>
    let s1 := s.record bTop 380 0x1002 .fatal [(1, 7), (4, ms)]
    ({ s1 with start := { s1.start with step := 8, memActive := true, disabled := true, durationMs := ms } } : State).pwrTo 2 0)

end Sys2Proof.Machine
end

