-- ==== Sys2Proof/Machine/Pair.lean ====
section
/-!
DEFINITION. The mirrored pair (chapter 10): the ferry link and its flits, the join, FENCE tokens and roles, split and
promotion, handover and resignation, the schedule of STATE and HEARTBEAT, the bell, and the pair commands of R387.
-/
namespace Sys2Proof.Machine

/-! ### Durability of the pair (R244) -/

/-- R244. What PAIR_DURABLE_FN of head `h` becomes on a joined lead that does not resync: the largest FN below the current one
that this module's media, the peer's media and every MIRROR_ACK allow. -/
def State.pairFnOf (s : State) (h : Nat) : Nat :=
  let own := min (s.head h).mediaFn (min s.fry.peerMediaFn (s.tt.fn - 1))
  s.fry.sendQ.foldl (fun f m => min f (m.fn - 1)) own

/-- R244, R382. Update PAIR_DURABLE_FN: it follows MEDIA_DURABLE_FN outside a pair, never falls on a lead, and stands still once the
peer was declared lost, while split, and during a resync. -/
def State.pairUpdate (s : State) : State :=
  if s.pairCfg = false then
    [0, 1].foldl (fun s h => s.modHead h fun d => { d with pairFn := d.mediaFn }) s
  else if s.fry.pstate = .joined ∧ s.isLead = true ∧ s.fry.pendingRole.isNone = true then
    [0, 1].foldl (fun s h => s.modHead h fun d => { d with pairFn := max d.pairFn (s.pairFnOf h) }) s
  else s

/-! ### Role records and refused writes (R367, R386) -/

/-- R386. Write the role record for a role, keeping FULL_RESYNC and SUSPECT. FULL_RESYNC is set when the bitmap is still being
cleared (R388). -/
def State.roleNow (s : State) (role : Nat) : State :=
  s.roleWrite role false (s.fullOwed || s.fry.clearing) ((s.fry.roleRec.map fun r => r.suspect).getD false)

/-- R367. A waiting host write to a mirrored region that the state now refuses completes with a normal NDR. -/
def State.refuseHeld (s : State) : State :=
  if s.refusesMirror = false then s
  else
    let hit (r : HostReq) : Bool := r.head.isSome && r.kind != .read && s.mirrored (bHp (r.head.getD 0)) r.region
    let s1 : State := { s with cache := { s.cache with waiting := s.cache.waiting.filter fun r => !hit r } }
    (s.cache.waiting.filter hit).foldl (fun s r =>
      let h := r.head.getD 0
      let old := s.fry.refusedNow.getD h (0, r.dpa)
      let n := sat32 s.fry.refused 1
      ({ s with fry := { s.fry with refusedNow := s.fry.refusedNow.set h (old.1 + 1, old.2), refused := n } } : State).respondWrite
        { r with outcome := 6 } false) s1

/-- R373, R382. Every on-mirror write that waits only for an ack completes. -/
def State.releaseWaits (s : State) : State :=
  let ws := s.fry.sendQ.flatMap fun m => m.waits
  let s1 : State := { s with fry := { s.fry with sendQ := [] } }
  ws.foldl (fun s w => match w.2 with
    | some c => s.respondWrite w.1 c
    | none => s) s1

/-- R382. A lead leaves its peer: the pages of every write that no ack covers enter the bitmap. -/
def State.releaseStream (s : State) : State :=
  ((s.fry.sendQ.map fun m => m.lpn).foldl State.markPage s).releaseWaits

/-! ### Split and promotion (R379–R383) -/

/-- R249. The writes that wait for an acknowledgment are delayed by the ferry link: cause 5. -/
def State.ferryDelay (s : State) : State :=
  { s with fry := { s.fry with sendQ := s.fry.sendQ.map fun m => { m with
    waits := m.waits.map fun x => ({ x.1 with causes := x.1.causes ||| 32#8 }, x.2) } } }

/-- R249, R382. So are the writes to mirrored regions that the declaration of a lost peer finds waiting. -/
def State.splitDelay (s : State) : State :=
  let hit (r : HostReq) : Bool := r.head.isSome && r.kind != .read && s.mirrored (bHp (r.head.getD 0)) r.region
  let held := s.cache.waiting.map fun r => { r with causes := r.causes ||| (if hit r then 32#8 else 0#8) }
  ({ s with cache := { s.cache with waiting := held } } : State).ferryDelay

/-- R382. The lead declares its follower lost: it takes SPLIT_LEAD at the next tick. Causes: 0 silence, 1 DEPART, 2 detach. -/
def State.split (s : State) (cause : Nat) : State :=
  let s1 := s.roleNow 1
  let s2 : State := { s1 with fry := { s1.fry with
    pendingRole := some (.splitLead, .lead), pendingNote := some (0x0A43, [(1, cause), (6, (s.head 0).pairFn)])
    handover := none, handoverFn := none, resign := none } }
  s2.splitDelay

/-- R381. The follower promotes itself with a token; `stay` tells that the pair stays joined (R384, R387). Causes: 0 silence,
1 RESIGN, 2 HANDOVER, 3 host. One in SEC's error state, or locked, does not promote and is stranded. -/
def State.promote (s : State) (token cause : Nat) (stay : Bool) : State :=
  if cause ≠ 3 ∧ (s.sec.error || s.sec.pass.locked) = true then
    let s1 := s.roleNow 3
    { s1 with fry := { s1.fry with pendingRole := some (.stranded, .none) } }
  else
    let old := s.fry.token
    let s1 := ({ s with fry := { s.fry with token := token } } : State).roleNow 1
    { s1 with fry := { s1.fry with
      pendingRole := some (if stay then s.fry.pstate else .splitLead, .lead)
      pendingNote := some (0x0A44, [(8, old), (8, token), (1, cause)]) } }

/-- R385. The module demotes to a higher token: to the follower when the pair stays joined, else to STRANDED. Its send queue
drains to the new lead first. `stored` is the token it holds afterwards. -/
def State.demote (s : State) (token stored : Nat) (follow : Bool) : State :=
  let old := s.fry.token
  let s1 := s.mirrorSend false
  let s2 := ({ s1 with fry := { s1.fry with token := stored, pendingRole := none, pendingNote := none } } : State).roleNow
    (if follow then 2 else 3)
  let s3 := if follow then s2.releaseWaits else s2.releaseStream
  let s4 : State := { s3 with fry := { s3.fry with
    role := if follow then .follower else .none, pstate := if follow then s3.fry.pstate else .stranded
    handover := none, handoverFn := none, resign := none } }
  (s4.record bFry 276 0x0A45 .warning [(8, old), (8, token), (1, pstateVal s4.fry.pstate)]).refuseHeld

/-- R385. A token arrived from the peer: a lead that sees a higher one demotes itself, and takes it when the pair stays joined
(log entry 117). -/
def State.tokenSeen (s : State) (token : Nat) : State :=
  let s1 : State := { s with fry := { s.fry with peerToken := token } }
  s1.gate (s1.isLead && s1.fry.pstate != .joining && decide (s1.fry.token < token)) fun s =>
    s.demote token (if s.joined then token else s.fry.token) s.joined

/-- R381. A follower that promotes itself outside the pair takes no more flits. -/
def State.promoting (s : State) : Bool := s.fry.role == .follower && s.fry.pendingRole == some (.splitLead, .lead)

/-- R379. The peer was heard. -/
def State.heard (s : State) : State := { s with fry := { s.fry with heardNs := s.ns } }

/-! ### The link (R353–R357) -/

/-- R326, R364, R375. The ferry link goes down. Its record numbers the cause: 0 the cable or the peer, 1 tag failures, 2 an FN
mismatch, 3 a join that failed. A join in progress returns to the states before it. -/
def State.linkDown (s : State) (cause : Nat) : State :=
  let b := s.fry.before.getD (s.fry.pstate, s.fry.role)
  let back := s.fry.pstate == .joining
  let s1 : State := { s with
    sec := { s.sec with ferrySession := false }
    fry := { s.fry with
      rate := 0, width := 0, tagFails := 0, resends := 0, replayFullAt := none, joinStep := 0, before := none, joinFn := none
      tracking := false, slewing := false
      pstate := if back then b.1 else s.fry.pstate, role := if back then b.2 else s.fry.role
      pendingRole := if back then none else s.fry.pendingRole } }
  s1.record bFry 272 0x0A02 .warning [(1, cause)]

/-- R375. The step of a join that runs fails: JOIN_REFUSED with its cause (0 the region tables differ, 1 locked, or the chain
fails, 2 the step itself), and the link goes down. -/
def State.joinFail (s : State) (step cause : Nat) : State :=
  (s.record bFry 276 0x0A42 .error [(1, step), (1, cause)]).linkDown 3

/-- R375, R571. FERRY_LINK_DOWN: the link goes down; with the peer present and training failing, it is recorded once. -/
def execFerryLinkDown (s0 : State) : Res :=
  let s := s0.begin
  .next (if s.fry.rate ≠ 0 then s.linkDown 0
    else s.gate (s.pairCfg && s.start.ferryPres && !s.fry.downRecorded) fun s =>
      ({ s with fry := { s.fry with downRecorded := true } } : State).record bFry 272 0x0A02 .warning [(1, 0)])

/-- R354. LINK_WIDTH: the link retrains at the width its working lanes allow. -/
def execLinkWidth (width : Nat) (s0 : State) : Res :=
  let s := s0.begin
  .next (s.gate (s.fry.rate != 0 && [1, 2, 4, 8].contains width && width != s.fry.width) fun s =>
    (({ s with fry := { s.fry with width := width, retrains := sat32 s.fry.retrains 1 } } : State).ferryDelay).record bFry 272 0x0A03
      .warning [(1, s.fry.width), (1, width)])

/-- R357. LINK_RETRAIN: one flit was resent 16 times (cause 0), or the replay buffer stayed full for a frame (cause 1). -/
def execLinkRetrain (cyc cause : Nat) (s0 : State) : Res :=
  let s := s0.begin.at cyc
  let full := match s.fry.replayFullAt with
    | some t => decide (t + 4096 ≤ s.ns)
    | none => false
  .next (s.gate (s.fry.rate != 0 && ((cause == 0 && decide (16 ≤ s.fry.resends)) || (cause == 1 && full))) fun s =>
    (({ s with fry := { s.fry with resends := 0, replayFullAt := none, retrains := sat32 s.fry.retrains 1 } } : State).ferryDelay).record
      bFry 273 0x0A11 .warning [(1, cause)])

/-- The header of the next flit that leaves: the SEQ acknowledged, NAK, and the credits returned (R355, R358). -/
def State.flitBack (s : State) (nak : Bool) : State :=
  let w := s.fry.wcredOwed / 8
  let p := s.fry.pcredOwed
  let s1 : State := { s with fry := { s.fry with wcredOwed := s.fry.wcredOwed % 8, pcredOwed := 0 } }
  s1.emit (ferryOut 0 [s.fry.rxSeq % 2 ^ 32, 1 + 2 * b2n nak, w, p] [])

/-- R356-R358. The flit that is next in order: its SEQ, its acknowledgement or NAK, the credits it returns and its messages.
`tx` is the SEQ of the last flit this module has sent. -/
def State.flitTake (s : State) (tx seq : Nat) (ack : Option Nat) (nak : Bool) (wcred pcred bytes : Nat) : State :=
  let a := match ack with
    | some a => max s.fry.ackSeq (min a tx)
    | none => s.fry.ackSeq
  let again := if nak then tx - a else 0
  let held := tx - a - again
  let s1 : State := { s with
    sec := { s.sec with ferryRx := seq }
    fry := { s.fry with
      rxSeq := seq, tagFails := 0, ackSeq := a, wcred := s.fry.wcred + 8 * wcred, pcred := s.fry.pcred + pcred
      resends := if nak then (if a = s.fry.ackSeq then s.fry.resends + 1 else 1) else s.fry.resends
      replays := sat32 s.fry.replays again
      replayFullAt := if 4096 ≤ held + again then some (s.fry.replayFullAt.getD s.ns) else none } }
  let s2 := s1.gate (0 < again) State.ferryDelay
  ((((s2.count bFry 0x41 1).count bFry 0x42 again).bwAdd 2 0 (min bytes 214)).mirrorDue).flitBack false

/-- R326, R356–R358. FLIT_RECEIVE: a flit whose CRC, tag and SEQ check is accepted, with its acknowledgement and credits; any
other is discarded and NAKed. `sent` is the SEQ of the last flit this module has sent, `bytes` the message bytes of the flit. -/
def execFlitReceive (cyc : Nat) (crcOk tagOk : Bool) (seq sent : Nat) (ack : Option Nat) (nak : Bool) (wcred pcred bytes : Nat)
    (s0 : State) : Res :=
  let s := s0.begin.at cyc
  .next (s.gate (s.fry.rate != 0 && s.sec.ferrySession && !s.promoting) fun s =>
    let tx := max s.fry.txSeq sent
    let s1 := ({ s with fry := { s.fry with txSeq := tx }, sec := { s.sec with ferryTx := tx } } : State).count bFry 0x40
      (tx - s.fry.txSeq)
    if crcOk = false then s1.flitBack true
    else if tagOk = false then
      let n := s1.fry.tagFails + 1
      let s2 : State := { s1 with fry := { s1.fry with tagFails := n } }
      if n < 3 then s2.flitBack true else (s2.record bCry 292 0x0931 .error [(4, n), (8, seq)]).linkDown 1
    else if seq ≠ s1.fry.rxSeq + 1 then
      ({ s1 with fry := { s1.fry with tagFails := 0 } } : State).flitBack true
    else
      s1.flitTake tx seq ack nak wcred pcred bytes)

/-! ### The join (R375–R378) -/

/-- R350, R376, R398. The role a module claims in FENCE: lead when it leads, or when it has no role record and PREF_LEAD. -/
def State.claimsLead (s : State) : Bool :=
  s.isLead || (s.fry.roleRec.isNone && (s.actW bFry 0x010).getLsbD 1)

/-- R360, R376. Send FENCE. -/
def State.sendFence (s : State) : State :=
  let r := s.fry.roleRec
  let clean := (r.map fun r => r.clean).getD false
  let suspect := (r.map fun r => r.suspect).getD false
  let claim := if s.claimsLead then 1 else if (r.map fun r => r.role) == some 2 then 2 else 0
  s.ferry 6 [claim, b2n clean + 2 * b2n s.fullOwed + 4 * b2n s.fry.anyMarked + 8 * b2n suspect, s.fry.token
    , s.fry.session, s.fry.widxSent, s.fry.peerSerial, s.tt.fn] []

/-- R375. A module may join: it is a pair member in SPLIT_LEAD or STRANDED, not detached, and AUTO_JOIN or PAIR_ATTACH allows
it. -/
def State.mayJoin (s : State) : Bool :=
  s.pairCfg && (s.fry.pstate == .splitLead || s.fry.pstate == .stranded) && !s.fry.detached
    && ((s.actW bFry 0x010).getLsbD 2 || s.fry.attachAsked) && s.fry.pendingRole.isNone

/-- R389. The resync kind the two FENCE messages give on the lead: 2 full, 0 none, 1 bitmap. -/
def State.resyncKind (s : State) : Nat :=
  match s.fry.peerFence, s.fry.roleRec with
  | some f, r =>
    let clean := (r.map fun r => r.clean).getD false
    if f.names ≠ Config.serial.toNat ∨ s.fullOwed = true ∨ f.full = true then 2
    else if f.session = s.fry.session ∧ clean = true ∧ f.clean = true ∧ f.widx = s.fry.widxSent ∧ s.fry.anyMarked = false then 0
    else 1
  | none, _ => 2

/-- R378. The lead sends one sync for every mirrored region and for every key slot that serves one. -/
def State.sendSyncs (s : State) (target : Nat) : State :=
  let rs := (List.range 64).filter fun n => (s.region bXl n).valid && (s.region bXl n).mirror
  let ks := (List.range 64).filter fun k => rs.any fun n => (s.region bXl n).keySlot == k
  let s1 := rs.foldl (fun s n => s.ferry 8 [5, 1, 0, target, n, (s.actW bXl (0x404 + 0x10 * n)).toNat] []) s
  ks.foldl (fun s k => s.ferry 8 [5, 3, 0, target, k, (s.keySlot k).lastFormat] []) s1

/-- R375. FERRY_LINK_UP: one step of the join that runs, with what it finds. A command for another step has no effect (log
entry 27). -/
def execFerryLinkUp (input : JoinIn) (s0 : State) : Res :=
  let s := s0.begin
  let go (n : Nat) (f : State → State) : Res :=
    .next (s.gate (s.fry.pstate == .joining && s.fry.joinStep == n) f)
  let onTo (s : State) (n : Nat) : State := { s with fry := { s.fry with joinStep := n } }
  match input with
  | .train rate width delay =>
    .next (s.gate (s.pairCfg && decide (8 ≤ s.start.step) && s.start.ferryPres && (rate == 1 || rate == 2)
        && [1, 2, 4, 8].contains width) fun s =>
      let s1 : State := { s with fry := { s.fry with rate := rate, width := width, delay := delay % 2 ^ 32, downRecorded := false } }
      let s2 := s1.record bFry 272 0x0A01 .info [(1, rate), (1, width), (4, delay)]
      if s2.mayJoin then
        ({ s2 with fry := { s2.fry with
          pstate := .joining, before := some (s2.fry.pstate, s2.fry.role), joinStep := 2 } } : State).heard
      else s2.mirrorDue)
  | .spdm ok serial tables => go 2 fun s =>
      if !ok || s.sec.pass.locked then s.joinFail 2 1
      else
        let s1 : State := { s with
          sec := { s.sec with ferrySession := true, ferryTx := 0, ferryRx := 0, ferryUpdates := 0 }
          fry := { s.fry with rxSeq := 0, txSeq := 0, ackSeq := 0, resends := 0, tagFails := 0, joinSerial := serial
                              tablesOk := tables, joinStep := 3 } }
        s1.sendFence
  | .slew => go 4 fun s => s.gate (s.isLead || decide (s.fry.offset.natAbs ≤ 10)) fun s => onTo s 5
  | .fnStep ahead fn => go 5 fun s =>
      let lead := s.isLead
      let at' := s.tt.fn + (if lead then 16 else max 1 ahead)
      let j := if lead then max s.tt.fn fn + 64 else fn
      s.gate s.fry.joinFn.isNone fun s => { s with fry := { s.fry with joinFn := some (at', j) } }
  | .sync target => go 6 fun s => onTo (s.gate s.isLead fun s => s.sendSyncs target) 7
  | .session id => go 7 fun s =>
      let s1 : State := { s with fry := { s.fry with session := id % 2 ^ 64 } }
      let k := if s.isLead then s.resyncKind else 1
      let s2 : State := { s1 with fry := { s1.fry with peerSerial := s.fry.joinSerial, joinKind := k } }
      onTo (s2.roleNow (if s.isLead then 1 else 2)) 8
  | .enter kind => go 8 fun s =>
      let k := if s.isLead then (if s.fry.joinKind = 0 ∧ s.fry.anyMarked = true then 1 else s.fry.joinKind) else min kind 2
      { s with fry := { s.fry with
        joinKind := k, joinStep := 9, widxSent := 0, widxAcked := 0, widxNext := 1, sendQ := [], applyBy := [], durableBy := []
        wcred := 8192, pcred := 64, wcredOwed := 0, pcredOwed := 0
        pendingRole := some (if k = 0 then .joined else .resyncing, s.fry.role) } }
  | .fail => .next (s.gate (s.fry.pstate == .joining) fun s => s.joinFail s.fry.joinStep 2)

/-- R376. The join goes on with the roles decided, and both modules hold the winner's token. -/
def State.joinRoles (s : State) (lead : Bool) (token : Nat) : State :=
  let role : Role := if lead then .lead else .follower
  let s1 : State := { s with fry := { s.fry with role := role, token := max s.fry.token token, joinStep := 4 } }
  if lead && !s.fry.tablesOk then s1.joinFail 3 0 else s1.refuseHeld

/-- R376. No join: the link goes down, and the module is in the states given. -/
def State.noJoin (s : State) (st : PState × Role) : State :=
  ({ s with fry := { s.fry with before := some st } } : State).linkDown 3

/-- R376, R385. FENCE: the claims and tokens decide the roles at step 3 of a join. -/
def execFenceMsg (claim : Nat) (clean full bitmap suspect : Bool) (token session widx names fn : Nat) (s0 : State) : Res :=
  let s := s0.begin
  let own := s.fry.token
  let pf : PeerFence := { clean := clean, full := full, bitmap := bitmap, suspect := suspect, session := session
                          widx := widx, names := names }
  let before := s.fry.before.getD (.stranded, .none)
  .next (s.gate (s.fry.pstate == .joining && s.fry.joinStep == 3 && decide (fn < 2 ^ 48)) fun s =>
    let s1 : State := { s with fry := { s.fry with peerToken := token, peerFence := some pf } }
    if s.claimsLead && claim == 1 then
      if own = token then (s1.record bFry 276 0x0A46 .error [(8, own)]).noJoin before
      else if token < own then s1.joinRoles true token
      else (s1.record bFry 276 0x0A45 .warning [(8, own), (8, token), (1, 1)]).joinRoles false token
    else if s.claimsLead then
      if token ≤ own then s1.joinRoles true token
      else
        let s2 := s1.roleNow 3
        ((s2.record bFry 276 0x0A45 .warning [(8, own), (8, token), (1, 5)]).noJoin (.stranded, .none)).refuseHeld
    else if claim = 1 then
      if own ≤ token then s1.joinRoles false token else s1.noJoin before
    else s1.noJoin before)

/-! ### Messages with a schedule (R361–R364) -/

/-- R362–R364. BELL: the follower steers its tick to the lead's; `offset` is the offset it measures in ns. -/
def execBellMsg (lowRate : Bool) (fn delay : Nat) (offset : Int) (s0 : State) : Res :=
  let s := s0.begin
  let follower := s.fry.role == .follower && (s.joined || (s.fry.pstate == .joining && decide (4 ≤ s.fry.joinStep)))
  .next (s.gate (follower && s.fry.rate == (if lowRate then 1 else 2)) fun s0 =>
    let s := s0.heard
    let far := decide (100 < offset.natAbs)
    let slew := far || (s.fry.slewing && decide (10 < offset.natAbs))
    let s1 : State := { s with fry := { s.fry with
      offset := offset, tracking := true, slewing := slew, delay := delay % 2 ^ 32 } }
    let s2 := s1.gate (far && !s.fry.slewing) fun s => s.record bFry 275 0x0A31 .warning [(4, signed 4 offset)]
    if fn ≠ s2.tt.fn ∧ (s2.joined || decide (6 ≤ s2.fry.joinStep)) = true then
      (s2.record bFry 275 0x0A32 .error [(6, s2.tt.fn), (6, fn)]).linkDown 2
    else s2)

/-- R361. STATE_SEND: at slot 4 on the lead, at slot 1 on the follower. -/
def execStateSend (cyc : Nat) (s0 : State) : Res :=
  let s := s0.begin.at cyc
  .next (s.gate (s.fry.rate != 0 && s.joined && s.slot == (if s.isLead then 4 else 1)) fun s =>
    ((s.mirrorSend false).pairUpdate).sendState)

/-- R244, R397. STATE: what the peer reports of its power, its durability and the resync. -/
def execStateMsg (cyc power mediaFn pairFn left : Nat) (s0 : State) : Res :=
  let s := s0.begin.at cyc
  .next (s.gate (s.fry.rate != 0 && s.joined) fun s =>
    let s1 := ({ s with fry := { s.fry with
      peerPower := power, peerMediaFn := mediaFn, leftReported := left % 2 ^ 33 } } : State).heard
    if s.isLead then s1.pairUpdate
    else
      let s2 := s1.gate s.fry.pendingRole.isNone fun s =>
        [0, 1].foldl (fun s h => s.modHead h fun d => { d with pairFn := max d.pairFn pairFn }) s
      s2.gate (power == 2 && s2.fry.moorAsked && (s2.pwr.state == 2 || s2.pwr.state == 3) && s2.moorRefusal.isNone) fun s =>
        { s with pwr := { s.pwr with mooring := true }, fry := { s.fry with moorAsked := false } })

/-- R361, R582. HEARTBEAT_SEND, at slot 8: role, state and token, with the oldest record of the relay. -/
def execHeartbeatSend (cyc : Nat) (s0 : State) : Res :=
  let s := s0.begin.at cyc
  .next (s.gate (s.fry.rate != 0 && s.slot == 8 && (s.joined || (s.fry.pstate == .joining && decide (4 ≤ s.fry.joinStep)))) fun s0 =>
    let s := s0.mirrorSend false
    let head := [roleVal s.fry.role, pstateVal s.fry.pstate, s.fry.token]
    match s.tele.evq.relay with
    | [] => s.ferry 10 (head ++ [0]) []
    | r :: rest =>
      ({ s with tele := { s.tele with evq := { s.tele.evq with relay := rest } } } : State).ferry 10 (head ++ [1]) r.bytes)

/-- R577. The record that 32 bytes spell, marked as relayed. -/
def Record.ofWord (w : BitVec 256) : Record :=
  let sev : Severity := match bits w 80 8 with
    | 0 => .info
    | 1 => .warning
    | 2 => .error
    | _ => .fatal
  { fn := bits w 0 48, source := bits w 48 16, code := bits w 64 16, severity := sev, relayed := true, cont := w.getLsbD 89
    stored := w.getLsbD 90, lostBefore := w.getLsbD 91, data := (w >>> 96).setWidth 160 }

/-- R361, R379, R385, R583. HEARTBEAT: the silence timer restarts, the token is seen, and a relayed record is filed. -/
def execHeartbeatMsg (cyc token : Nat) (relayed : Option (BitVec 256)) (s0 : State) : Res :=
  let s := s0.begin.at cyc
  .next (s.gate (s.fry.rate != 0 && (s.joined || s.fry.pstate == .joining)) fun s =>
    let s1 := s.heard
    let s2 := match relayed with
      | none => s1
      | some w =>
        let r := Record.ofWord w
        { s1 with tele := { s1.tele with evq := Evq.put 8 s1.tele.evq r.source [r] } }
    s2.tokenSeen token)

/-! ### Silence, orderly leaving and handover (R379–R384) -/

/-- R379, R381, R382. SILENCE_TIMEOUT: the peer is lost. A join in progress fails. -/
def execSilenceTimeout (cyc : Nat) (s0 : State) : Res :=
  let s := s0.begin.at cyc
  .next (s.gate (s.silenceNs == 65280) fun s =>
    if s.fry.pstate = .joining then s.joinFail s.fry.joinStep 2
    else s.gate (s.joined && s.fry.pendingRole.isNone) fun s =>
      if s.isLead then s.split 0 else s.promote (s.fry.token + 1) 0 false)

/-- R380, R386. The lead has drained, or its drain timed out: it writes its role record as follower with token T + 1 and sends
RESIGN. After PAIR_DETACH it is STRANDED, with PAIR_SPLIT. -/
def State.resignDone (s : State) (clean : Bool) : State :=
  let detach := (s.fry.resign.map fun r => r.2).getD false
  let lost := (s.fry.sendQ.map fun m => m.lpn).eraseDups
  let s1 : State := { s with fry := { s.fry with
    token := s.fry.token + 1, suspects := if clean then s.fry.suspects else s.fry.suspects ++ lost } }
  let s2 := s1.roleWrite 2 clean (s.fullOwed || s.fry.clearing) (!clean)
  let s3 := (s2.ferry 5 [3, s2.fry.token] []).releaseWaits
  let s4 : State := { s3 with fry := { s3.fry with pstate := .stranded, role := .none, resign := none, pendingRole := none } }
  let s5 := s4.gate detach fun s => s.record bFry 276 0x0A43 .error [(1, 2), (6, (s.head 0).pairFn)]
  s5.refuseHeld

/-- R380. A resigning lead whose every index is acknowledged goes on. -/
def State.resignTry (s : State) : State := s.gate (s.fry.resign.isSome && s.fry.sendQ.isEmpty) fun s => s.resignDone true

/-- R380. The module leaves the pair in an orderly way, for a flush or for PAIR_DETACH. -/
def State.leavePair (s : State) (detach : Bool) : State :=
  if s.joined = false ∨ s.fry.resign.isSome = true then s
  else if s.isLead then
    let s1 := s.mirrorSend false
    ({ s1 with fry := { s1.fry with resign := some (s.ns, detach), handover := none, handoverFn := none } } : State).resignTry
  else
    let s1 := (s.roleNow (if detach then 3 else 2)).ferry 5 [4, s.fry.token] []
    let s2 : State := { s1 with fry := { s1.fry with pstate := .stranded, role := .none, pendingRole := none } }
    s2.gate detach fun s => s.record bFry 276 0x0A43 .error [(1, 2), (6, (s.head 0).pairFn)]

/-- R380. RESIGN_DRAIN_TIMEOUT: after 50 µs the lead saves the pages of its unacknowledged writes as its suspect list. -/
def execResignDrainTimeout (cyc : Nat) (s0 : State) : Res :=
  let s := s0.begin.at cyc
  .next (match s.fry.resign with
    | some (t, _) => s.gate (decide (t + 50000 ≤ s.ns)) fun s => s.resignDone false
    | none => s)

/-- R384 step 2. With every index acknowledged, the lead sends HANDOVER. -/
def State.handoverTry (s : State) : State :=
  s.gate (s.fry.handover.isSome && s.fry.handoverFn.isNone && s.fry.sendQ.isEmpty) fun s =>
    ({ s with fry := { s.fry with handoverFn := some s.tt.fn } } : State).ferry 5 [1, s.fry.token + 1] []

/-- R384. ROLE_HANDOVER: the follower writes its role record as lead, answers ACCEPT and takes the lead at the next tick. -/
def execRoleHandover (token : Nat) (s0 : State) : Res :=
  let s := s0.begin
  .next (s.gate (s.fry.rate != 0 && s.joined) fun s =>
    if s.fry.role = .follower ∧ s.fry.token < token ∧ s.fry.pendingRole.isNone = true then
      let s1 : State := { s with fry := { s.fry with peerToken := token } }
      let s2 := s1.promote token 2 true
      s2.gate (s2.fry.token == token) fun s => s.ferry 5 [2, token] []
    else s.tokenSeen token)

/-- R384. ROLE_ACCEPT: the old lead writes its role record as follower and becomes the follower at the next tick. -/
def execRoleAccept (token : Nat) (s0 : State) : Res :=
  let s := s0.begin
  .next (s.gate (s.fry.handoverFn.isSome && s.isLead && token == s.fry.token + 1) fun s =>
    let s1 := ({ s with fry := { s.fry with token := token, peerToken := token } } : State).roleNow 2
    { s1 with fry := { s1.fry with handover := none, handoverFn := none, pendingRole := some (s1.fry.pstate, .follower) } })

/-- R380, R381. ROLE_RESIGN: the follower promotes itself with the token given. -/
def execRoleResign (token : Nat) (s0 : State) : Res :=
  let s := s0.begin
  .next (s.gate (s.fry.rate != 0 && s.joined) fun s =>
    if s.fry.role = .follower ∧ s.fry.token < token then
      ({ s with fry := { s.fry with peerToken := token } } : State).promote token 1 false
    else s.tokenSeen token)

/-- R380, R382. ROLE_DEPART: the lead splits. -/
def execRoleDepart (token : Nat) (s0 : State) : Res :=
  let s := s0.begin
  .next (s.gate (s.fry.rate != 0 && s.joined) fun s =>
    let s1 := s.tokenSeen token
    s1.gate (s1.isLead && s1.fry.pendingRole.isNone) fun s => s.split 1)

/-- R385. ROLE_DEMOTED: the peer reports its demotion and its token. -/
def execRoleDemoted (token : Nat) (s0 : State) : Res :=
  let s := s0.begin
  .next (s.gate (s.fry.rate != 0) fun s => s.tokenSeen token)

/-- R384. HANDOVER_TIMEOUT: no ACCEPT came for 4 frames, and the old lead stands down. -/
def execHandoverTimeout (cyc : Nat) (s0 : State) : Res :=
  let s := s0.begin.at cyc
  .next (match s.fry.handoverFn with
    | some f => s.gate (decide (f + 4 ≤ s.tt.fn)) fun s =>
        let s1 := (s.roleNow 3).releaseStream
        ({ s1 with fry := { s1.fry with
          pstate := .stranded, role := .none, handover := none, handoverFn := none } } : State).refuseHeld
    | none => s)

/-! ### Mirrored writes (R371–R373) -/

/-- R371, R372. MIRROR_WRITE: the follower hands the sectors of a message to their slice, ahead of its own requests. -/
def execMirrorWrite (cyc lpn sector : Nat) (data : List Sector) (poison : BitVec 4) (s0 : State) : Res :=
  let s := s0.begin.at cyc
  let n := data.length
  let ok := s.fry.rate != 0 && s.joined && s.fry.role == .follower && !s.promoting && decide (0 < n) && decide (n ≤ 4)
    && decide (sector + n ≤ 64) && decide (lpn < userPages)
  .next (s.gate ok fun s =>
    let w := s.fry.widxNext
    let is := (List.range n).map fun i => sector + i
    let s1 : State := { s with fry := { s.fry with
      widxNext := w + 1, applyBy := s.fry.applyBy.set w is, durableBy := s.fry.durableBy.set w is } }
    (List.range n).foldl (fun s i =>
      let id := s.cache.nextReq
      let dpa := lpn * 4096 + 64 * (sector + i)
      let r : HostReq := { id := id, origin := .mirror w, dpa := dpa, kind := .write, data := data.getD i 0
                           be := BitVec.allOnes 64, poison := poison.getLsbD i, recv := s.ns, admitNs := s.ns
                           region := (s.regionAt bXl dpa).getD 0 }
      ({ s with cache := { s.cache with nextReq := id + 1 } } : State).submit r) s1)

/-- R244. A write that waited for the acknowledgment completes when its own R28 point has passed. -/
def State.ackWait (s : State) (w : HostReq × Option Bool) : State :=
  match w.2 with
  | some c => s.respondWrite w.1 c
  | none => s

/-- R244, R373. MIRROR_ACK: the on-mirror writes it covers complete, once their own R28 point has passed. -/
def execMirrorAck (cyc widx : Nat) (s0 : State) : Res :=
  let s := s0.begin.at cyc
  .next (s.gate (s.fry.rate != 0 && s.joined && s.isLead && decide (widx ≤ s.fry.widxSent)) fun s =>
    let gone (m : MirrorWrite) : Bool := decide (m.widx ≤ widx)
    let ws := (s.fry.sendQ.filter gone).flatMap fun m => m.waits
    let s1 : State := { s with fry := { s.fry with
      widxAcked := max s.fry.widxAcked widx, sendQ := s.fry.sendQ.filter fun m => !gone m } }
    let s2 := ws.foldl State.ackWait s1
    ((s2.pairUpdate).handoverTry).resignTry)

/-! ### The pair commands (R387) -/

/-- R453, R455. A pair command of an opcode: refused with DETAIL 2 where R387 does not accept it. -/
def State.pairCommand (s : State) (m : Master) (opcode : Nat) (ok : Bool) (f : State → State) : State :=
  if ok then (f s).vendorOk m [] else s.vendorRefuse m opcode 2

/-- R387, R454. PAIR_STATUS. -/
def execPairStatus (m : Master) (payload : List (BitVec 8)) (s : State) : Res :=
  s.vendor m 0xC070 0 payload fun s => s.vendorOk m
    (leBytes 1 (pstateVal s.fry.pstate) ++ leBytes 1 (roleVal s.fry.role) ++ leBytes 2 0 ++ leBytes 8 s.fry.token
      ++ leBytes 8 s.fry.peerToken ++ leBytes 8 s.fry.session ++ leBytes 8 s.resyncLeft)

/-- R387. PAIR_PROMOTE: the token exceeds the stored one and the last one of the peer. -/
def execPairPromote (m : Master) (payload : List (BitVec 8)) (s : State) : Res :=
  s.vendor m 0xC071 8 payload fun s =>
    let t := pnum payload 0 8
    s.pairCommand m 0xC071 (s.pairCfg && s.fry.pstate != .joining && decide (s.fry.token < t) && decide (s.fry.peerToken < t))
      fun s => s.promote t 3 s.joined

/-- R387. PAIR_DEMOTE: the module claims the lead and the token is not below its own. It stores the token, is STRANDED, and
tells its peer. -/
def execPairDemote (m : Master) (payload : List (BitVec 8)) (s : State) : Res :=
  s.vendor m 0xC072 8 payload fun s =>
    let t := pnum payload 0 8
    s.pairCommand m 0xC072 (s.isLead && s.fry.pstate != .joining && decide (s.fry.token ≤ t)) fun s =>
      let s1 := s.demote t t false
      s1.gate (s1.fry.rate != 0) fun s => s.ferry 5 [5, t] []

/-- R384, R387. PAIR_HANDOVER. -/
def execPairHandover (m : Master) (payload : List (BitVec 8)) (s : State) : Res :=
  s.vendor m 0xC073 0 payload fun s =>
    s.pairCommand m 0xC073 (s.isLead && s.fry.pstate == .joined && s.fry.handover.isNone && s.fry.resign.isNone
        && s.fry.pendingRole.isNone) fun s =>
      let s1 := s.mirrorSend false
      ({ s1 with fry := { s1.fry with handover := some s.ns } } : State).handoverTry

/-- R380, R387. PAIR_DETACH: the module leaves the pair and makes no join until PAIR_ATTACH. -/
def execPairDetach (m : Master) (payload : List (BitVec 8)) (s : State) : Res :=
  s.vendor m 0xC074 0 payload fun s =>
    s.pairCommand m 0xC074 s.pairCfg fun s =>
      let s1 := if s.fry.pstate = .joining then s.linkDown 3 else s
      ({ s1 with fry := { s1.fry with detached := true, attachAsked := false } } : State).leavePair true

/-- R387. PAIR_ATTACH: joining is allowed again. -/
def execPairAttach (m : Master) (payload : List (BitVec 8)) (s : State) : Res :=
  s.vendor m 0xC075 0 payload fun s =>
    s.pairCommand m 0xC075 s.pairCfg fun s => { s with fry := { s.fry with detached := false, attachAsked := true } }

/-- R454. PAIR_RESYNC_RATE: the resync cap, 1 to 50 GB/s. -/
def execPairResyncRate (m : Master) (payload : List (BitVec 8)) (s : State) : Res :=
  s.vendor m 0xC076 4 payload fun s =>
    let v := pnum payload 0 1
    if v = 0 ∨ 50 < v ∨ pnum payload 1 3 ≠ 0 then s.vendorRefuse m 0xC076 6
    else (s.setW bFry 0x044 (BitVec.ofNat 32 v)).vendorOk m []

end Sys2Proof.Machine
end

