-- ==== Sys2Proof/Machine/Resync.lean ====
section
/-!
DEFINITION. The pair, second part: resync pages (R388–R393), changes and barge launches at a stated FN (R394–R396), and
what the frame tick does for the pair.
-/
namespace Sys2Proof.Machine

/-! ### Pages of a resync (R388–R393) -/

/-- R390, R393. The slice begins to take a page for the peer: what the cache and the landing entries hold of it, and one media read for
each block that is not wholly there, as a merge read (log entry 128). -/
def State.takeBegin (s : State) (lpn : Nat) (answer : Bool) : State :=
  let here := (List.range 64).map fun i => s.sectorHere lpn i
  let need := (List.range 16).filter fun j => (List.range 4).any fun k => (here.getD (4 * j + k) none).isNone
  let s1 : State := { s with fry := { s.fry with takes := s.fry.takes ++ [{ lpn := lpn, answer := answer, present := here }] } }
  need.foldl (fun s j => s.blockBegin .merge (.page lpn) lpn j) s1

/-- R390. A page may be taken: no other operation takes it, and no byte-enable write to it waits for its block. -/
def State.mayTake (s : State) (lpn : Nat) : Bool :=
  !(s.fry.takes.any fun t => t.lpn == lpn)
    && !(s.media.reads.any fun m => m.lpn == lpn && m.joined.any fun r => r.kind == .byteEnable)

/-- R206. Every block a page needs from media has been read. -/
def State.taken (s : State) (t : PageTake) : Bool := (s.readsOf (.page t.lpn)).all MediaRead.ended

/-- R390, R393. The 64 sectors of a page that has been taken; those of a block whose ladder ended at step 4 go out poisoned. -/
def State.takeSectors (s : State) (t : PageTake) : List (Sector × Bool) :=
  (List.range 64).map fun i =>
    match s.sectorHere t.lpn i, t.present.getD i none with
    | some v, _ => v
    | none, some v => v
    | none, none =>
      match (s.blockFor (.page t.lpn) t.lpn (i / 4)).bind fun m => m.result with
      | some r => (lineSector r.1 (i % 4), r.2.getLsbD (i % 4))
      | none => (0, true)

/-- R625. The operation that took a page ends; the blocks it could not read are recorded. -/
def State.takeEnd (s : State) (t : PageTake) : State :=
  let bad := (s.readsOf (.page t.lpn)).filter fun m => m.step == 4
  let s1 := s.dropReads (.page t.lpn)
  bad.foldl (fun s m => s.uncorrectable m.psn m.pos 9 0)
    { s1 with fry := { s1.fry with takes := s1.fry.takes.filter fun x => x.lpn != t.lpn } }

/-- R390. The page is not resident, its stripe reads as generation 0, and no sector of it carries poison. -/
def State.zeroPage (s : State) (lpn : Nat) (c : List (Sector × Bool)) : Bool :=
  let psn := s.readPsn lpn
  (s.findWay lpn).isNone && (s.landingsOf lpn).isEmpty && !(c.any fun x => x.2)
    && (List.range 16).all fun j => (s.cell (s.assigned (dieOf psn) (blockPos psn j)) psn).gen == 0

/-- The bytes of a page, with its sector poison bits (R360, kind 1). -/
def pageBytes (c : List (Sector × Bool)) : List (BitVec 8) :=
  (c.flatMap fun x => leBytes 64 x.1.toNat)
    ++ leBytes 8 ((List.range 64).foldl (fun a i => a + 2 ^ i * b2n ((c.getD i (0, false)).2)) 0)

/-- R388, R390. The next mirrored page from `l` up. -/
def State.nextMirrored (s : State) (l : Nat) : Option Nat :=
  (List.range 64).foldl (fun m n =>
    let r := s.region bXl n
    let a := max l (r.base * 262144)
    if r.valid && r.mirror && decide (l < (r.base + r.size) * 262144) then some (min a (m.getD a)) else m) none

/-- R390. The page a resync sends next from `l` up, in ascending order. -/
def State.nextResync (s : State) (l : Nat := 0) : Option Nat :=
  let a := if s.fry.bitmapAll then s.nextMirrored (max l s.fry.resyncCursor) else none
  let b := s.fry.spans.foldl (fun m p => if l < p.2 then some (min (max l p.1) (m.getD (max l p.1))) else m) a
  (s.fry.bitmap.filter fun p => decide (l ≤ p)).foldl (fun m l => some (min l (m.getD l))) b

/-- R390. The bit of page `l` of a span is cleared. -/
def spanDrop (l : Nat) (p : Nat × Nat) : List (Nat × Nat) :=
  if p.1 ≤ l ∧ l < p.2 then (if p.1 < l then [(p.1, l)] else []) ++ (if l + 1 < p.2 then [(l + 1, p.2)] else []) else [p]

/-- R389. The bitmap pages that have a bit set, of 32,768 bits each. -/
def Fry.bitmapPages (f : Fry) : List Nat :=
  ((f.bitmap.map fun p => p / 32768) ++ f.spans.flatMap fun (p : Nat × Nat) =>
    (List.range ((p.2 + 32767) / 32768 - p.1 / 32768)).map fun i => p.1 / 32768 + i).eraseDups

/-- R389, R406. Send the pages of a bitmap that have a bit set, as kind 3: bitmap page index, and its 4,096 B as the DRCs read them. -/
def State.sendBitmap (s : State) (f : Fry) : State :=
  f.bitmapPages.foldl (fun s p =>
    s.ferry 7 [3, p, s.fry.widxSent] ((List.range 64).flatMap fun i => leBytes 64 ((s.bitmapRead f p i).getD 0).toNat)) s

/-- R360, R389. RESYNC_PAGE_BITMAP: bit numbers of one bitmap page. The lead merges them into its bitmap; the follower takes
them as part of the merged bitmap. -/
def execResyncPageBitmap (cyc index : Nat) (pages : List Nat) (s0 : State) : Res :=
  let s := s0.begin.at cyc
  let ps := (pages.filter fun b => decide (b < 32768)).map fun b => index * 32768 + b
  .next (s.gate (s.fry.rate != 0 && s.fry.pstate == .resyncing && !s.promoting && decide (index < 196608)) fun s =>
    if s.isLead then
      let first := ps.foldl (fun m p => min m p) (if s.fry.diverged.1 = 0 then userPages else s.fry.diverged.2)
      let s1 : State := { s with fry := { s.fry with diverged := (s.fry.diverged.1 + ps.eraseDups.length, first) } }
      ps.foldl State.markPage s1
    else { s with fry := { s.fry with merged := s.fry.merged ++ ps.filter fun p => !s.fry.merged.contains p } })

/-- R389. Before its first page, the lead sends the merged bitmap of a bitmap resync, and records what the follower loses. -/
def State.sendMerged (s : State) : State :=
  if s.fry.mergedSent then s
  else
    let s1 : State := { s with fry := { s.fry with mergedSent := true } }
    let s2 := if s.fry.bitmapAll then s1 else s1.sendBitmap s.fry
    s2.gate (s.fry.diverged.1 != 0) fun s => s.record bFry 277 0x0A53 .error [(4, s.fry.diverged.1), (5, s.fry.diverged.2)]

/-- R390, R398. FRY_RESYNC_RATE, in pages per frame: 1 GB/s is 4,096 B in a frame. -/
def State.resyncCap (s : State) : Nat := min 50 (max 1 (s.regF bFry 0x044 0 8))

/-- R390, R392. A page that has been taken is sent, and its bit is cleared; a page of zeros goes as kind 2. -/
def State.resyncSend (s : State) (t : PageTake) : State :=
  let lpn := t.lpn
  let c := s.takeSectors t
  let zero := s.zeroPage lpn c
  let s1 := s.takeEnd t
  let f := s1.fry
  let inAll := f.bitmapAll && s1.nextMirrored f.resyncCursor == some lpn
  let cursor := if inAll then lpn + 1 else f.resyncCursor
  let s2 : State := { s1 with fry := { f with
    bitmap := f.bitmap.filter fun p => p != lpn, spans := f.spans.flatMap (spanDrop lpn), resyncCursor := cursor, doneSent := false
    resyncSent := f.resyncSent + 1, resyncNow := f.resyncNow + 1, pcred := if zero then f.pcred else f.pcred - 1 } }
  s2.ferry 7 [if zero then 2 else 1, lpn, f.widxSent] (if zero then [] else pageBytes c)

/-- R352, R355, R390. The frame's flits, of 214 B of messages each, leave room for one more page beside the mirrored writes
(log entry 159). -/
def State.resyncFits (s : State) : Bool :=
  decide (s.fry.admitted * 64 + (s.fry.resyncNow + 1) * 4096 ≤ 214 * 128 * s.fry.width)

/-- R390. The first page the lead is taking is sent, once it has been taken and a credit is free. -/
def State.resyncFirst (s : State) : State :=
  match s.fry.takes.find? fun t => !t.answer with
  | some t => s.gate (s.taken t && (decide (0 < s.fry.pcred) || s.zeroPage t.lpn (s.takeSectors t))) fun s => s.resyncSend t
  | none => s

/-- R390. The lead is taking a page that is ready to be sent. -/
def State.firstTaken (s : State) : Bool :=
  match s.fry.takes.find? fun t => !t.answer with
  | some t => s.taken t
  | none => false

/-- R390, R392. The lead begins to take its next page; with none left and none in hand it sends kind 4, once. -/
def State.resyncNext (s : State) : State :=
  let mine := (s.fry.takes.filter fun t => !t.answer).map fun t => t.lpn
  match s.nextResync ((mine.getLast?.map (· + 1)).getD 0) with
  | none => s.gate (!s.fry.doneSent && mine.isEmpty) fun s =>
      ({ s with fry := { s.fry with doneSent := true, bitmapAll := false } } : State).ferry 7 [4, s.fry.resyncSent, s.fry.widxSent] []
  | some lpn => s.gate (s.mayTake lpn && decide (s.fry.resyncNow + mine.length < s.resyncCap)) fun s => s.takeBegin lpn false

/-- R390, R392. RESYNC_PAGE_SEND: the lead sends the page it has taken, or begins to take its next one; with none left it sends kind 4. -/
def execResyncPageSend (cyc : Nat) (s0 : State) : Res :=
  let s := s0.begin.at cyc
  .next (s.gate (s.fry.pstate == .resyncing && s.isLead && s.fry.rate == 2 && s.fry.pendingRole.isNone
      && decide (s.fry.resyncNow < s.resyncCap) && s.resyncFits) fun s =>
    let s1 := (s.mirrorSend false).sendMerged
    (if s1.firstTaken then s1 else s1.resyncNext).resyncFirst)

/-- R390, R391. The follower writes a page whole, with its poison bits, as one write. -/
def State.pageWrite (s : State) (lpn : Nat) (data : Nat → Sector) (poison : BitVec 64) : State :=
  let f := s.fry
  let s1 : State := { s with fry := { f with
    mergedHere := f.mergedHere || !f.fetching.contains lpn, fetching := f.fetching.filter fun p => p != lpn
    merged := f.merged.filter fun p => p != lpn, fetched := if f.fetched.contains lpn then f.fetched else f.fetched ++ [lpn]
    pageOwed := f.pageOwed.set lpn (List.range 64) } }
  (List.range 64).foldl (fun s i =>
    let id := s.cache.nextReq
    let dpa := lpn * 4096 + 64 * i
    let r : HostReq := { id := id, origin := .page, dpa := dpa, kind := .write, data := data i, be := BitVec.allOnes 64
                         poison := poison.getLsbD i, recv := s.ns, admitNs := s.ns, region := (s.regionAt bXl dpa).getD 0 }
    ({ s with cache := { s.cache with nextReq := id + 1 } } : State).submit r) s1

/-- A follower that resyncs takes a page. -/
def State.takesPage (s : State) (lpn : Nat) : Bool :=
  s.fry.rate != 0 && s.fry.pstate == .resyncing && s.fry.role == .follower && !s.promoting && decide (lpn < userPages)

/-- R390. RESYNC_PAGE_DATA. -/
def execResyncPageData (cyc lpn : Nat) (data : List Sector) (poison : BitVec 64) (s0 : State) : Res :=
  let s := s0.begin.at cyc
  .next (s.gate (s.takesPage lpn && data.length == 64) fun s => s.pageWrite lpn (fun i => data.getD i 0) poison)

/-- R390. RESYNC_PAGE_ZERO. -/
def execResyncPageZero (cyc lpn : Nat) (s0 : State) : Res :=
  let s := s0.begin.at cyc
  .next (s.gate (s.takesPage lpn) fun s => s.pageWrite lpn (fun _ => 0) 0)

/-- R392. RESYNC_PAGE_DONE: the follower answers once its pages are durable; the lead, answered, enters JOINED at the next
tick. -/
def execResyncPageDone (cyc : Nat) (s0 : State) : Res :=
  let s := s0.begin.at cyc
  .next (s.gate (s.fry.rate != 0 && s.fry.pstate == .resyncing && !s.promoting) fun s =>
    if s.isLead then
      s.gate (s.fry.doneSent && s.nextResync.isNone) fun s => { s with fry := { s.fry with pendingRole := some (.joined, .lead) } }
    else ({ s with fry := { s.fry with doneRecv := true, mergedHere := true } } : State).resyncAnswer)

/-- R393. A page the peer asked for has been taken: it is answered, once a credit is free. -/
def State.pageAnswer (s : State) (t : PageTake) : State :=
  s.gate (s.taken t && decide (0 < s.fry.pcred)) fun s =>
    let c := s.takeSectors t
    let s1 := s.takeEnd t
    ({ s1 with fry := { s1.fry with pcred := s1.fry.pcred - 1 } } : State).ferry 7 [1, t.lpn, s1.fry.widxSent] (pageBytes c)

/-- R393. The page the peer asks for is in hand: it is answered. -/
def State.pageAsked (s : State) (lpn : Nat) : State :=
  match s.fry.takes.find? fun t => t.answer && t.lpn == lpn with
  | some t => s.pageAnswer t
  | none => s

/-- R391, R393. RESYNC_PAGE_REQUEST: once every write up to the index given is applied, the page is taken, and then answered, never with
older data. A request that still waits is given again. -/
def execResyncPageRequest (cyc lpn widx : Nat) (s0 : State) : Res :=
  let s := s0.begin.at cyc
  .next (s.gate (s.fry.rate != 0 && s.joined && decide (lpn < userPages) && decide (widx ≤ s.fry.widxSent) && !s.needsFetch lpn) fun s =>
    let s1 := s.mirrorSend false
    (s1.gate (s1.mayTake lpn) fun s => s.takeBegin lpn true).pageAsked lpn)

/-- R388. RESYNC_BITMAP_CLEARED. -/
def execResyncBitmapCleared (s0 : State) : Res :=
  let s := s0.begin
  .next { s with fry := { s.fry with clearing := false } }

/-! ### Changes at a stated FN (R378, R394, R395) -/

/-- R118, R455. Write the RS fields of a region entry's attributes in all 19 copies, through REGn_ALLOW, and strobe group 3. -/
def State.regionAttr (s : State) (n v : Nat) : State :=
  let s1 := regionBlocks.foldl (fun s b => s.writeRs b (0x404 + 0x10 * n) .plain (BitVec.ofNat 32 v) 0x307#32) s
  s1.strobe 8#32

/-- R394. The follower's own rules allow a proposed change. -/
def State.changeOk (s : State) (change subject value : Nat) : Bool :=
  match change with
  | 1 =>
    let r := s.region bXl subject
    let allow := s.actW bXl (0x408 + 0x10 * subject)
    decide (subject < 64) && r.valid && r.mirror && regAllows allow 0 (value % 4) && regAllows allow 1 (value / 4 % 2)
      && regAllows allow 2 (value / 256 % 4)
  | 2 => decide (subject < 64) && s.keyOpCheck subject true == 0 && s.sec.erase.isNone
  | 3 => decide (subject < 64) && s.keyOpCheck subject true == 0 && s.sec.erase.isNone
  | _ => false

/-- R363. The follower's tick lies within its limit. -/
def State.inLimit (s : State) : Bool := s.fry.tracking && decide (s.fry.offset.natAbs ≤ 10)

/-- R363, R394. CONFIG_AT_FN_PROPOSE: the follower checks the change and answers ack or refuse. -/
def execConfigAtFnPropose (change id target subject value : Nat) (s0 : State) : Res :=
  let s := s0.begin
  .next (s.gate (s.fry.rate != 0 && s.joined && s.fry.role == .follower) fun s =>
    let ok := s.inLimit && s.fry.atFn.isNone && decide (s.tt.fn + 1 < target) && s.changeOk change subject value
    let a : AtFn := { change := change, id := id, target := target, subject := subject, value := value, stage := 2 }
    let s1 : State := if ok then { s with fry := { s.fry with atFn := some a } } else s
    (s1.atFnNote target id (if ok then 2 else 5) false).ferry 8 [if ok then 2 else 3, change, id, target, subject, value] [])

/-- R455. Answer the command that waits for a proposal: success with the target, and the change ID for a region, or DETAIL 4. -/
def State.answerOwed (s : State) (ok : Bool) (target id : Nat) : State :=
  match s.mbox.owed with
  | none => s
  | some (m, opcode) =>
    let s1 : State := { s with mbox := { s.mbox with owed := none } }
    if ok then s1.vendorOk m (leBytes 6 target ++ (if opcode = 0xC010 then leBytes 1 id else []))
    else s1.vendorRefuse m opcode 4

/-- R394. CONFIG_AT_FN_ACK: an ack that arrives before the tick of target − 2 puts the change in force. -/
def execConfigAtFnAck (id : Nat) (s0 : State) : Res :=
  let s := s0.begin
  .next (match s.fry.atFn with
    | none => s
    | some a => s.gate (s.fry.rate != 0 && s.isLead && a.id == id && a.stage == 1 && decide (s.tt.fn + 2 < a.target)) fun s =>
        let s1 : State := { s with fry := { s.fry with atFn := some { a with stage := 2 } } }
        (s1.atFnNote a.target id 2 false).answerOwed true a.target id)

/-- R394. The proposal fails: AT_FN_CANCELLED with its cause (0 late ack, 1 refusal, 2 bell out of limit). -/
def State.atFnFail (s : State) (a : AtFn) (stage cause : Nat) : State :=
  let s1 : State := { s with fry := { s.fry with atFn := none } }
  ((s1.atFnNote a.target a.id stage false).record bFry 278 0x0A62 .warning [(1, a.id), (1, cause)]).answerOwed false 0 0

/-- R394. CONFIG_AT_FN_REFUSE; `bell` tells that the follower's bell is out of limit. -/
def execConfigAtFnRefuse (id : Nat) (bell : Bool) (s0 : State) : Res :=
  let s := s0.begin
  .next (match s.fry.atFn with
    | none => s
    | some a => s.gate (s.fry.rate != 0 && s.isLead && a.id == id && a.stage == 1) fun s => s.atFnFail a 5 (if bell then 2 else 1))

/-- R394. CONFIG_AT_FN_CANCEL. -/
def execConfigAtFnCancel (id : Nat) (s0 : State) : Res :=
  let s := s0.begin
  .next (match s.fry.atFn with
    | none => s
    | some a => s.gate (s.fry.rate != 0 && !s.isLead && a.id == id) fun s =>
        ({ s with fry := { s.fry with atFn := none } } : State).atFnNote a.target id 4 false)

/-- R378. CONFIG_AT_FN_SYNC: attributes of a mirrored region, or the FN of the lead's last format of a slot (change 3), which
the follower formats when it is newer than its own. -/
def execConfigAtFnSync (change target subject value : Nat) (s0 : State) : Res :=
  let s := s0.begin
  let a : AtFn := { change := change, id := 0, target := target, subject := subject, value := value, stage := 2 }
  let needed := if change = 3 then decide ((s.keySlot subject).lastFormat < value) else change == 1
  .next (s.gate (s.fry.rate != 0 && s.fry.pstate == .joining && s.fry.role == .follower && decide (6 ≤ s.fry.joinStep)
      && decide (subject < 64) && needed) fun s => { s with fry := { s.fry with syncs := s.fry.syncs ++ [a] } })

/-- R394. Put a change in force in frame target − 1, so that it acts from the tick of target. -/
def State.changeApply (s : State) (a : AtFn) : State :=
  match a.change with
  | 1 => s.regionAttr a.subject a.value
  | 2 => s.gate (s.keyOpCheck a.subject true == 0) fun s => s.keyStart a.subject false
  | 3 => s.gate (s.keyOpCheck a.subject true == 0) fun s => s.keyStart a.subject true
  | _ => s

/-- R378, R394. The tick of a frame: changes whose target is the next frame begin, and those whose target has come are recorded. -/
def State.atFnTick (s : State) : State :=
  let due := s.fry.syncs.filter fun a => decide (a.target ≤ s.tt.fn + 1)
  let s1 : State := { s with fry := { s.fry with syncs := s.fry.syncs.filter fun a => decide (s.tt.fn + 1 < a.target) } }
  let s2 := due.foldl State.changeApply s1
  match s2.fry.atFn with
  | none => s2
  | some a =>
    let s3 := s2.gate (a.stage == 2 && a.target == s2.tt.fn + 1) fun s => s.changeApply a
    s3.gate (a.stage == 2 && decide (a.target ≤ s3.tt.fn)) fun s =>
      let s4 : State := { s with fry := { s.fry with atFn := none } }
      (s4.atFnNote a.target a.id 3 false).record bFry 278 0x0A61 .info [(1, a.id), (1, a.change), (6, s.tt.fn)]

/-! ### Barge launches at a stated FN (R396) -/

/-- R396. The launch that the lead proposed on a channel fails: AT_FN_CANCELLED, and the channel halts with status 7. -/
def State.bargeCancel (s : State) (n : Nat) (b : BargeAtFn) (stage cause : Nat) : State :=
  let s1 : State := { s with fry := { s.fry with bargeAt := s.fry.bargeAt.erase n } }
  ((s1.atFnNote b.launch b.id stage true).record bFry 278 0x0A62 .warning [(1, b.id), (1, cause)]).bargeStop n b.desc 7 0

/-- R394. AT_FN_CANCELLED: no ack by the tick of target − 2, of a change or of a barge launch. -/
def execAtFnCancelled (s0 : State) : Res :=
  let s := s0.begin
  let s1 := match s.fry.atFn with
    | none => s
    | some a => s.gate (s.isLead && a.stage == 1 && decide (a.target ≤ s.tt.fn + 2)) fun s =>
        (s.ferry 8 [4, a.change, a.id, a.target, a.subject, a.value] []).atFnFail a 4 0
  .next (s1.fry.bargeAt.foldl (fun s p =>
    s.gate (p.2.mine && p.2.stage == 1 && decide (p.2.launch ≤ s.tt.fn + 2)) fun s =>
      (s.ferry 9 [4, p.1, p.2.id, p.2.launch, p.2.widx] []).bargeCancel p.1 p.2 4 0) s1)

/-- R363, R396, R483. BARGE_AT_FN_PROPOSE: the follower checks the descriptor and answers; it runs on the same channel. -/
def execBargeAtFnPropose (ch id launch widx : Nat) (desc : BitVec 512) (s0 : State) : Res :=
  let s := s0.begin
  let d : Descriptor := { word := desc, endMark := true, index := 0 }
  let c := s.brg ch
  .next (s.gate (s.fry.rate != 0 && s.joined && s.fry.role == .follower && decide (ch < 4)) fun s =>
    let ok := s.inLimit && decide (s.tt.fn + 1 < launch) && c.state == 0 && c.cur.isNone && !c.out && s.bargeCheck ch d true == 0
    let b : BargeAtFn := { id := id, desc := d, mine := false, launch := launch, widx := widx, stage := 2, dst := d.dst
                           len := d.len }
    let s1 : State := if ok then
        ({ s with fry := { s.fry with bargeAt := s.fry.bargeAt.set ch b } } : State).modBrg ch fun c => { c with
          state := 3, cur := some d, peer := true }
      else s
    (s1.atFnNote launch id (if ok then 2 else 5) true).ferry 9 [if ok then 2 else 3, ch, id, launch, widx] [])

/-- The launch on channel `ch` with a change ID. -/
def State.bargeOf (s : State) (ch id : Nat) : Option BargeAtFn :=
  match s.fry.bargeAt.get? ch with
  | some b => if b.id = id ∧ s.fry.rate ≠ 0 then some b else none
  | none => none

/-- R396. BARGE_AT_FN_ACK. -/
def execBargeAtFnAck (ch id : Nat) (s0 : State) : Res :=
  let s := s0.begin
  .next (match s.bargeOf ch id with
    | none => s
    | some b => s.gate (b.mine && b.stage == 1 && decide (s.tt.fn + 2 < b.launch)) fun s =>
        ({ s with fry := { s.fry with bargeAt := s.fry.bargeAt.set ch { b with stage := 2 } } } : State).atFnNote b.launch id 2 true)

/-- R396. BARGE_AT_FN_REFUSE. -/
def execBargeAtFnRefuse (ch id : Nat) (bell : Bool) (s0 : State) : Res :=
  let s := s0.begin
  .next (match s.bargeOf ch id with
    | none => s
    | some b => s.gate (b.mine && b.stage == 1) fun s => s.bargeCancel ch b 5 (if bell then 2 else 1))

/-- R396. BARGE_AT_FN_CANCEL. -/
def execBargeAtFnCancel (ch id : Nat) (s0 : State) : Res :=
  let s := s0.begin
  .next (match s.bargeOf ch id with
    | none => s
    | some b => s.gate (!b.mine && b.stage == 2) fun s =>
        (({ s with fry := { s.fry with bargeAt := s.fry.bargeAt.erase ch } } : State).atFnNote b.launch id 4 true).modBrg ch fun c =>
          c.clear 0)

/-- R396, R487. BARGE_AT_FN_DONE. -/
def execBargeAtFnDone (ch id : Nat) (s0 : State) : Res :=
  let s := s0.begin
  .next (match s.bargeOf ch id with
    | none => s
    | some b => s.gate (b.mine && b.stage == 3) fun s =>
        ({ s with fry := { s.fry with bargeAt := s.fry.bargeAt.set ch { b with donePeer := true } } } : State).bargeBoth ch)

/-- R396. BARGE_AT_FN_HALTED: the lead marks the destination pages for resync; its own run goes on alone. A follower takes its
own run's destination pages from the lead. -/
def execBargeAtFnHalted (ch id : Nat) (s0 : State) : Res :=
  let s := s0.begin
  .next (match s.bargeOf ch id with
    | none => s
    | some b => s.gate (b.stage == 3) fun s =>
        let s1 := s.bargeSuspect (pagesOf b.dst b.len)
        if b.mine then
          ({ s1 with fry := { s1.fry with bargeAt := s1.fry.bargeAt.set ch { b with donePeer := true } } } : State).bargeBoth ch
        else ({ s1 with fry := { s1.fry with bargeAt := s1.fry.bargeAt.erase ch } } : State).modBrg ch fun c => c.clear 0)

/-- R396. At a tick, launches whose FN has come begin; the follower's after every write up to its index is applied. -/
def State.bargeTick (s : State) : State :=
  s.fry.bargeAt.foldl (fun s p =>
    let b := p.2
    s.gate (b.stage == 2 && decide (b.launch ≤ s.tt.fn) && (b.mine || decide (b.widx ≤ s.fry.widxSent))) fun s =>
      (({ s with fry := { s.fry with bargeAt := s.fry.bargeAt.set p.1 { b with stage := 3 } } } : State).atFnNote b.launch b.id 3
        true).bargeRun p.1) s

/-- R396. A lead alone: launches no longer wait for the peer, and their destination pages are marked. -/
def State.bargeAlone (s : State) : State :=
  s.fry.bargeAt.foldl (fun s p =>
    s.gate (p.2.mine && p.2.stage != 1) fun s =>
      let s1 := (pagesOf p.2.dst p.2.len).foldl State.markPage s
      ({ s1 with fry := { s1.fry with bargeAt := s1.fry.bargeAt.set p.1 { p.2 with donePeer := true } } } : State).bargeBoth p.1) s

/-! ### The pair at a tick -/

/-- R365, R389. Step 8 of a join: both modules enter JOINED or RESYNCING. The follower sends its bitmap and suspect list first. -/
def State.joinEnter (s : State) (ps : PState) (role : Role) : State :=
  let k := s.fry.joinKind
  let lead := role == .lead
  let named : Fry := { s.fry with bitmap := s.fry.bitmap ++ s.fry.suspects }
  let s1 : State := { s with fry := { s.fry with
    pstate := ps, role := role, before := none, joinStep := 0, resyncSent := 0, resyncNow := 0, resyncStart := s.tt.fn
    mergedSent := false, diverged := (0, 0), doneSent := false, doneRecv := false, merged := [], fetched := [], fetching := []
    pageOwed := [], mergedAll := !lead && k == 2, mergedHere := !lead && k == 2, attachAsked := false
    bitmapAll := lead && k == 2, resyncCursor := 0, peerPower := 0, peerMediaFn := 0
    bitmap := if lead && k != 2 then s.fry.bitmap else [], spans := if lead && k != 2 then s.fry.spans else [], suspects := [] } }
  let s2 := s1.record bFry 276 0x0A41 .info [(1, roleVal role), (8, s1.fry.token), (8, s1.fry.session), (1, k)]
  let s3 := s2.gate (!lead && k != 0) fun s => s.sendBitmap named
  s3.gate (lead && k != 0) fun s => s.record bFry 277 0x0A51 .info [(1, k), (4, s.resyncLeft)]

/-- R392. A resync has ended: RESYNC_DONE, and the bitmap is cleared in the background. -/
def State.resyncEnd (s : State) (role : Role) : State :=
  let pages := if role = .lead then s.fry.resyncSent else s.fry.fetched.length
  let s1 : State := { s with fry := { s.fry with
    pstate := .joined, role := role, bitmap := [], spans := [], bitmapAll := false, clearing := true, merged := [], mergedAll := false
    mergedHere := false, fetched := [], fetching := [], doneSent := false, doneRecv := false } }
  (s1.roleWrite (roleVal role) false false false).record bFry 277 0x0A52 .info [(4, pages), (4, s.tt.fn - s.fry.resyncStart)]

/-- R381, R382, R384, R392. At the tick, a role or state that was agreed takes effect, with its record. -/
def State.pairTick (s : State) : State :=
  match s.fry.pendingRole with
  | none => s
  | some (ps, role) =>
    let s0 := ({ s with fry := { s.fry with pendingRole := none, pendingNote := none } } : State).gate (ps != .joined) State.dropTakes
    let plain (s : State) : State := { s with fry := { s.fry with pstate := ps, role := role } }
    let s1 :=
      if s.fry.pstate = .joining then s0.joinEnter ps role
      else if ps = .splitLead ∧ s.isLead = true then plain s0.releaseStream.bargeAlone
      else if ps = .splitLead ∨ ps = .stranded then
        let s2 := plain s0.releaseWaits
        { s2 with fry := { s2.fry with fetching := [], merged := [], mergedAll := false, mergedHere := false, fetched := [] } }
      else if s.fry.pstate = .resyncing ∧ ps = .joined then s0.resyncEnd role
      else
        let s2 := plain s0.releaseWaits
        { s2 with fry := { s2.fry with widxAcked := s2.fry.widxSent, widxNext := s2.fry.widxSent + 1, applyBy := [], durableBy := [] } }
    let s2 := match s.fry.pendingNote with
      | some (code, items) => s1.record bFry 276 code (if code = 0x0A43 then .error else .warning) items
      | none => s1
    s2.refuseHeld

end Sys2Proof.Machine
end

