-- ==== Sys2Proof/Machine/Link.lean ====
section
/-!
DEFINITION. The host link of each head (R435–R446), Global Persistent Flush (R246), CPMU, DOE with CDAT, and MCTP
(R259, R462–R464), and the loss of a media channel's training (R214).
-/
namespace Sys2Proof.Machine

/-- R466. Source of sub-source `k` of head `h`. -/
def hpSrc (h k : Nat) : Nat := 248 + 12 * h + k

/-! ### Lanes and width (R436, R441–R443) -/

/-- R438. The first connector lane of a head, and how many it has. -/
def State.headLanes (s : State) (h : Nat) : Nat × Nat := if s.dual then (8 * h, 8) else (0, 16)

/-- R436. A link below 32 GT/s or x4. -/
def belowBound (rate width : Nat) : Bool := decide (rate < 4) || decide (width < 4)

/-- R436. The link settles at a rate and width: SLOW follows, and RATE_BELOW_BOUND is recorded when it first settles below. -/
def State.settle (s : State) (h rate width : Nat) : State :=
  let slow := belowBound rate width
  let was := (s.hp h).slow
  let s1 := s.modHp h fun p => { p with rate := rate, width := width, slow := slow }
  s1.gate (slow && !was) fun s => s.record (bHp h) (hpSrc h 1) 0x0C13 .warning [(1, rate), (1, width)]

/-- R441, R465. LANE_FAILED: what a lane shows in a frame, the symbols its FEC corrected (cause 0) or a loss of block alignment (cause 1).
Both enter the lane error window; more symbols than THRESH, or the loss, fail the lane. -/
def execLaneFailed (head : Fin 2) (lane cause symbols : Nat) (s0 : State) : Res :=
  let s := s0.begin
  let h := head.val
  let p := s.hp h
  let l := s.headLanes h
  let why := if cause = 0 then decide (s.regF (bHp h) 0x01c 0 16 < symbols) else cause == 1
  let mine := s.headUsed h && !p.inReset && decide (l.1 ≤ lane) && decide (lane < l.1 + l.2) && decide (cause < 2)
  .next (s.gate mine fun s =>
    let s1 := s.modHp h fun p => { p with
      laneCorr := Kv.mod p.laneCorr lane 0 fun n => sat32 n symbols
      laneAlign := if cause = 1 then Kv.mod p.laneAlign lane 0 fun n => satAdd 0xffff n 1 else p.laneAlign }
    s1.gate (why && !p.laneFail.getLsbD lane) fun s =>
      (s.modHp h fun p => { p with laneFail := p.laneFail ||| BitVec.ofNat 16 (2 ^ lane) }).record (bHp h) (hpSrc h 0) 0x0C01 .error
        [(1, lane), (1, cause), (4, symbols)])

/-- R442. The widest width an L0p reduction leaves: the largest power of two not above the lowest failed lane of the head. -/
def State.l0pWidth (s : State) (h : Nat) : Nat :=
  let l := s.headLanes h
  match (List.range l.2).find? fun i => (s.hp h).laneFail.getLsbD (l.1 + i) with
  | some i => if i = 0 then 0 else 2 ^ Nat.log2 i
  | none => l.2

/-- R442, R443. WIDTH_CHANGED: by L0p, to the width R442 gives, or by recovery. Requests of the head that wait count under
cause 4. -/
def execWidthChanged (head : Fin 2) (width : Nat) (l0p : Bool) (us : Nat) (s0 : State) : Res :=
  let s := s0.begin
  let h := head.val
  let p := s.hp h
  let fits := if l0p then width == s.l0pWidth h else [1, 2, 4, 8].contains width
  .next (s.gate (s.headUsed h && p.rate != 0 && p.moor == 0 && decide (width < p.width) && fits) fun s =>
    let s1 := s.record (bHp h) (hpSrc h 0) 0x0C02 .warning [(1, p.width), (1, width), (1, b2n (!l0p)), (4, us)]
    let s2 := (s1.mapHead h fun r => { r with causes := r.causes ||| 16#8 }).modHp h fun p => { p with l0p := p.l0p || l0p }
    s2.settle h p.rate width)

/-- R249, R436, R558. LINK_UP: the head's link carries traffic. Requests that waited for it count under cause 4. -/
def execLinkUp (head : Fin 2) (rate width flit : Nat) (s0 : State) : Res :=
  let s := s0.begin
  let h := head.val
  let ok := s.headUsed h && !(s.hp h).inReset && (s.hp h).moor == 0 && decide (2 ≤ rate) && decide (rate ≤ 5) && decide (flit ≤ 2)
    && [1, 2, 4, 8, 16].contains width && decide (width ≤ (s.headLanes h).2)
  .next (s.gate ok fun s =>
    let s1 := s.record (bHp h) (hpSrc h 1) 0x0C11 .info [(1, rate), (1, width), (1, flit)]
    ((s1.mapHead h fun r => { r with causes := r.causes ||| 16#8 }).modHp h fun p => { p with flit := flit, l0p := false }).settle
      h rate width)

/-- R249, R299, R466. LINK_DOWN: the head's IDE keys are zeroized, and its requests count under cause 4. -/
def execLinkDown (head : Fin 2) (cause : Nat) (s0 : State) : Res :=
  let s := s0.begin
  let h := head.val
  .next (s.gate (s.headUsed h && (s.hp h).rate != 0) fun s =>
    let bare (p : Nat × IdeStream) : Nat × IdeStream :=
      if p.1 / 8 = h then (p.1, { ({} : IdeStream) with insecure := p.2.insecure }) else p
    let s1 : State := { s with sec := { s.sec with ide := s.sec.ide.map bare } }
    ((s1.mapHead h fun r => { r with causes := r.causes ||| 16#8 }).modHp h fun p => { p with rate := 0, width := 0, l0p := false, slow := false }).record (bHp h) (hpSrc h 1) 0x0C12 .error
      [(1, cause)])

/-! ### Moored (R444–R446, R535) -/

/-- R444. Every request the head admitted has completed, and its ingress buffer is empty. -/
def State.headDrained (s : State) (h : Nat) : Bool :=
  let mine (r : HostReq) : Bool := r.ofHead h
  !s.cache.waiting.any mine && (s.hp h).held.isEmpty && !(s.cache.landing.any fun l => l.2.waiters.any mine)
    && !(s.media.reads.any fun m => m.joined.any mine) && !(s.fry.sendQ.any fun m => m.waits.any fun w => mine w.1)
    && !(s.drcs.any fun d => d.2.subs.any fun u => u.2.readQ.any fun r => mine r.req)

/-- R535, R536. Every head runs at the low rate: DRAM enters self-refresh, and PWR switches the domains. -/
def State.moorNow (s : State) : State :=
  let s1 := (List.range 8).foldl (fun s i =>
    (s.drainWrites (i / 2) (i % 2)).modSub (i / 2) (i % 2) fun u => { u with selfRefresh := true, openRows := [], owed := 0 }) s
  let s2 := (s1.retain.pwrTo 4 1).setDomains s1.moorDomain
  { s2 with pwr := { s2.pwr with mooring := false } }

/-- R444, R535. MOOR_ENTERED: with every landing entry Free, a drained head goes to 2.5 GT/s x1; with the last one the module is
Moored. -/
def execMoorEntered (head : Fin 2) (us : Nat) (s0 : State) : Res :=
  let s := s0.begin
  let h := head.val
  let free := !(s.cache.landing.any fun l => l.2.busy)
  .next (s.gate (s.pwr.mooring && (s.pwr.state == 2 || s.pwr.state == 3) && s.headUsed h && (s.hp h).moor == 0 && free
      && s.headDrained h) fun s =>
    let s1 := s.modHp h fun p => { p with moor := 2, formerRate := p.rate, formerWidth := p.width, rate := 1, width := 1 }
    let s2 := s1.record (bHp h) (hpSrc h 3) 0x0C31 .info [(4, us)]
    s2.gate ([0, 1].all fun k => !s2.headUsed k || (s2.hp k).moor == 2) State.moorNow)

/-- R445. MOOR_WAKE: the requests a head holds wake the module, and are taken in order; `us` is the time the first took. -/
def execMoorWake (head : Fin 2) (us : Nat) (s0 : State) : Res :=
  let s := s0.begin
  let h := head.val
  .next (s.gate (s.headUsed h && !(s.hp h).held.isEmpty) fun s =>
    let held := (s.hp h).held
    let woke := decide ((s.hp h).moor = 0)
    let s1 := s.wakeMoored 1
    let s2 := s1.modHp h fun p => { p.rise with
      held := [], wakeUs := min 0xffff us, wakeCause := if woke then p.wakeCause else 1
      wakes := if woke || s.pwr.state == 4 then p.wakes else sat32 p.wakes 1 }
    let s3 := ({ s2 with pwr := { s2.pwr with mooring := false } } : State).record (bHp h) (hpSrc h 3) 0x0C32 .info
      [(1, (s2.hp h).wakeCause), (4, us)]
    held.foldl (fun s q => s.takeHeld head q 16#8) s3)

/-! ### Global Persistent Flush (R246) -/

/-- R246. GPF_PHASE1: acknowledged at once. -/
def execGpfPhase1 (head : Fin 2) (s0 : State) : Res :=
  let s := s0.begin
  .next (s.gate (s.headUsed head.val && !s.deaf head.val) fun s => s.emit (.gpf head.val 1))

/-- R246. Every write the head received up to `start` ns has completed at its R28 point, or is durable at acceptance. Requests held for
a wake from Moored were received too. -/
def State.gpfDrained (s : State) (h start : Nat) : Bool :=
  let mine (r : HostReq) : Bool := r.ofHead h && r.kind != .read && decide (r.recv ≤ start)
  !s.cache.waiting.any mine && !(s.media.reads.any fun m => m.joined.any mine)
    && !((s.hp h).held.any fun q => q.kind != .read && decide (q.recv ≤ start))
    && (!s.pwr.gated || !(s.cache.landing.any fun l => l.2.waiters.any mine))

/-- R246. GPF_PHASE2: the head completes the writes it received and waits until they are durable. -/
def execGpfPhase2 (cyc : Nat) (head : Fin 2) (s0 : State) : Res :=
  let s := s0.begin.at cyc
  let h := head.val
  .next (s.gate (s.headUsed h && !s.deaf h && (s.head h).gpf.isNone) fun s =>
    s.modHead h fun d => { d with gpf := some (s.ns, d.acceptedFn) })

/-- R246, R262. GPF_DONE: the head responds, with GPF_DONE, and GPF_LATE past its bound. `drained` is the number of writes it
drained. -/
def execGpfDone (cyc : Nat) (head : Fin 2) (drained : Nat) (s0 : State) : Res :=
  let h := head.val
  let s := s0.begin.at cyc
  .next (match (s.head h).gpf with
    | some (start, f) =>
      let fn := if s.joined then (s.head h).pairFn else (s.head h).mediaFn
      s.gate (s.gpfDrained h start && decide (f ≤ fn)) fun s =>
        let ns := s.ns - start
        let late := decide ((if s.pwr.gated then 13300 else gpfDuration) < ns)
        let s1 := (s.modHead h fun d => { d with gpf := none }).hostSend h (.gpf h 2)
        let s2 := s1.record (bHp h) (hpSrc h 5) 0x0703 .info [(4, ns), (4, drained)]
        s2.gate late fun s => s.record (bHp h) (hpSrc h 5) 0x0704 .error [(4, ns), (4, s.commitState h)]
    | none => s)

/-! ### CPMU, DOE and MCTP (R259, R462–R464) -/

/-- R462. CPMU_COUNTER_OVERFLOW: an increment carries a counter past 2^48 − 1. -/
def execCpmuCounterOverflow (head : Fin 2) (n inc : Nat) (s0 : State) : Res :=
  let s := s0.begin
  let h := head.val
  let c := (s.hp h).cpmu.getD n {}
  .next (s.gate (s.headUsed h && decide (n < 4) && !c.frozen && decide (2 ^ 48 ≤ c.count + inc)) fun s =>
    (s.modHp h fun p => { p with cpmu := p.cpmu.set n { c with count := (c.count + inc) % 2 ^ 48 } }).emit (.msix h 6))

/-- R259, R260. The CDAT entries of a head, which the image in use fixes, as the structures of CDAT (log entry 28): DSMAS, DSEMTS, and DSLBIS with latencies in ns
and bandwidths in MB/s. -/
def State.cdat (s : State) (h : Nat) : List (List (BitVec 8)) :=
  let image : State := { s with regs := { s.regs with active := [], shadow := [] } }
  let rs := (List.range 64).filter fun n => (image.region (bHp h) n).valid && s.owner (image.region (bHp h) n) == h
  let one (n : Nat) : Nat × Nat × Region := let r := image.region (bHp h) n; (r.base * 2 ^ 30, r.size * 2 ^ 30, r)
  let dsmas (k flags base len : Nat) := leBytes 1 0 ++ leBytes 1 0 ++ leBytes 2 24 ++ leBytes 1 k ++ leBytes 1 flags ++ leBytes 2 0
    ++ leBytes 8 base ++ leBytes 8 len
  let dsemts (k ty len : Nat) := leBytes 1 4 ++ leBytes 1 0 ++ leBytes 2 24 ++ leBytes 1 k ++ leBytes 1 ty ++ leBytes 2 0
    ++ leBytes 8 0 ++ leBytes 8 len
  let dslbis (k ty unit v : Nat) := leBytes 1 1 ++ leBytes 1 0 ++ leBytes 2 24 ++ leBytes 1 k ++ leBytes 1 0 ++ leBytes 1 ty
    ++ leBytes 1 0 ++ leBytes 8 unit ++ leBytes 2 v ++ leBytes 4 0 ++ leBytes 2 0
  let wlat (r : Region) : Nat :=
    if r.policy ≠ 0 then 12300 else if r.mirror && s.pairCfg && r.completion == 1 then 900 else 200
  let half (n : Nat) : Nat := if s.dual then n / 2 else n
  (rs.map fun n => dsmas n 4 (one n).1 (one n).2.1) ++ [dsmas 64 0x14 windowBase 0x10000000]
    ++ (rs.map fun n => dsemts n 1 (one n).2.1) ++ [dsemts 64 2 0x10000000]
    ++ (rs.map fun n => dslbis n 1 1000 1600) ++ [dslbis 64 1 1000 250]
    ++ (rs.map fun n => dslbis n 2 1000 (wlat (one n).2.2))
    ++ (rs.map fun n => dslbis n 4 100 (half 100000 / 100)) ++ (rs.map fun n => dslbis n 5 100 (half s.start.cdatWrite / 100))

/-- R463. DOE_REQUEST: an object of protocol 0 (Discovery), 1 or 2 (CMA/SPDM, secured) or 3 (CDAT, with an entry handle). Discovery
and CDAT are answered here, with vector 5; an SPDM object is in progress until its answer or an abort. -/
def execDoeRequest (head : Fin 2) (proto index : Nat) (s0 : State) : Res :=
  let s := s0.begin
  let h := head.val
  let answer (s : State) (bs : List (BitVec 8)) : State := (s.emit (.reply (16 + h) 0 bs)).emit (.msix h 5)
  .next (s.gate (s.headUsed h && !(s.hp h).inReset && !(s.hp h).doeBusy && decide (proto < 4)) fun s =>
    match proto with
    | 0 =>
      let ids : List (Nat × Nat) := [(1, 0), (1, 1), (1, 2), (0x1e98, 2)]
      let i := min index 3
      answer s (leBytes 2 ((ids.getD i (0, 0)).1) ++ leBytes 1 ((ids.getD i (0, 0)).2) ++ leBytes 1 (if i = 3 then 0 else i + 1))
    | 3 =>
      let es := s.cdat h
      let len := es.foldl (fun n e => n + e.length) 16
      let body := leBytes 4 len ++ leBytes 1 1 ++ leBytes 1 0 ++ leBytes 6 0 ++ leBytes 4 0
      let next := if index < es.length then index + 1 else 0xffff
      answer s (leBytes 1 0 ++ leBytes 1 0 ++ leBytes 2 next ++ (if index = 0 then body else es.getD (index - 1) []))
    | _ => s.modHp h fun p => { p with doeBusy := true })

/-- R463. DOE_ABORT: the object in progress is cancelled. -/
def execDoeAbort (head : Fin 2) (s0 : State) : Res :=
  let s := s0.begin
  .next (s.gate (s.headUsed head.val) fun s => s.modHp head.val fun p => { p with doeBusy := false })

/-- R464, R466. MCTP_MESSAGE: kind 0 control, 1 CXL CCI, 2 SPDM; `fault` is a packet (0) or sequence (1) error. A control message
is answered here, by what MCTP says (log entry 2); the others are in progress until the command they carry answers. -/
def execMctpMessage (kind : Nat) (fault : Option Nat) (s0 : State) : Res :=
  let s := s0.begin
  .next (s.gate (s.start.mboxReady && [2, 3, 4].contains s.pwr.state && !s.mbox.mctpBusy && decide (kind < 3)) fun s =>
    match fault with
    | some c => s.record bMgt (hpSrc 0 7) 0x0C71 .warning [(1, min c 1)]
    | none =>
      if kind = 0 then
        ({ s with draws := s.draws + 1 } : State).emit (.reply (masterVal .mctp) 0 (leBytes 64 (Config.draw s.draws).toNat))
      else { s with mbox := { s.mbox with mctpBusy := true } })

/-! ### The PHY of a media channel (R214) -/

/-- R214. MEDIA_PHY_TRAINING_LOST: PHY_UP falls; `back` tells that the channel has retrained within 16 frames. -/
def execMediaPhyTrainingLost (mch : Nat) (back : Bool) (s0 : State) : Res :=
  let s := s0.begin
  let m := s.mch mch
  .next (s.gate (decide (mch < 18) && !m.failed) fun s =>
    if back then
      match m.phyLostAt with
      | some f => s.gate (decide (s.tt.fn < f + 16)) fun s => s.modMch mch fun m => { m with phyUp := true, phyLostAt := none }
      | none => s
    else s.gate m.phyUp fun s => s.modMch mch fun m => { m with phyUp := false, phyLostAt := some s.tt.fn })

end Sys2Proof.Machine
end

