-- ==== Sys2Proof/Machine/Spdm.lean ====
section
/-!
DEFINITION. The SPDM responder (R328, R329, R340, R342): its messages, sessions, measurements, and the Crypto Officer's
certificate commands. A path is 0 or 1 for the DOE of HP0 or HP1, 2 for MCTP and 3 for the ferry link. Message codes and
layouts are those of SPDM 1.3 (log entry 29).
-/
namespace Sys2Proof.Machine

/-- R349. The transport item of a path: 0 DOE, 1 MCTP, 2 the ferry link, in the order of R328. -/
def pathTransport (path : Nat) : Nat := path - 1

/-- The responder answers on a path. -/
def State.spdmUp (s : State) (path : Nat) : Bool :=
  s.start.mboxReady && (
    if path < 2 then s.headUsed path && !(s.hp path).inReset && s.pwr.flush.isNone
    else if path = 2 then [2, 3, 4].contains s.pwr.state
    else path == 3 && s.fry.rate != 0)

/-- Send an SPDM response: version 1.3, its code, two parameters and a body. The object or message in progress ends. -/
def State.spdmReply (s : State) (path code p1 p2 : Nat) (body : List (BitVec 8)) : State :=
  let s1 := s.emit (.reply (16 + path) 0 (leBytes 1 0x13 ++ leBytes 1 code ++ leBytes 1 p1 ++ leBytes 1 p2 ++ body))
  if path < 2 then (s1.emit (.msix path 5)).modHp path fun p => { p with doeBusy := false }
  else if path = 2 then { s1 with mbox := { s1.mbox with mctpBusy := false } }
  else s1

/-- An SPDM ERROR response: 1 invalid request, 3 busy, 4 unexpected request, 5 unspecified, 6 decrypt error, 0x0A session limit
exceeded, 0x0B session required. -/
def State.spdmError (s : State) (path code : Nat) : State := s.spdmReply path 0x7f code 0 []

/-- The connection of a path. -/
def State.conn (s : State) (path : Nat) : SpdmConn := s.sec.conns.getD path {}

/-- Change the connection of a path. -/
def State.modConn (s : State) (path : Nat) (f : SpdmConn → SpdmConn) : State :=
  { s with sec := { s.sec with conns := Kv.mod s.sec.conns path {} f } }

/-- R284, R328. Take an SPDM message on a path; `ready` is what the connection must have answered before. -/
def State.spdm (s0 : State) (path : Nat) (ready : SpdmConn → Bool) (f : State → State) : Res :=
  let s := s0.begin
  .next (if s.spdmUp path = false then s
    else if s.integ.romA then s.spdmError path 3
    else if ready (s.conn path) then f s
    else s.spdmError path 4)

/-- A session of a path, by its id. -/
def State.spdmSession (s : State) (path id : Nat) : Option SpdmSession :=
  s.sec.sessions.find? fun x => x.id == id && x.path == path

/-- Take an SPDM message inside a session. -/
def State.inSession (s0 : State) (path id : Nat) (f : State → State) : Res :=
  s0.spdm path (fun _ => true) fun s => if (s.spdmSession path id).isSome then f s else s.spdmError path 0x0b

/-- `n` bytes of a nonce, key share or signature: each 64 B is a free value (log entry 29). -/
def State.drawBytes (s : State) (n : Nat) : State × List (BitVec 8) :=
  let k := (n + 63) / 64
  ({ s with draws := s.draws + k }, ((List.range k).flatMap fun i => leBytes 64 (Config.draw (s.draws + i)).toNat).take n)

/-- The bytes of a digest. -/
def digestBytes (d : BitVec 384) : List (BitVec 8) := leBytes 48 d.toNat

/-- SHA-384 of bytes. -/
def shaBytes (bs : List (BitVec 8)) : BitVec 384 := Config.sha384 (Mem.writes [] 0 bs) bs.length

/-- SHA-384 of `n` bytes of a memory from address `a`. -/
def shaMem (m : Mem) (a n : Nat) : BitVec 384 :=
  Config.sha384 ((m.filter fun c => decide (a ≤ c.1) && decide (c.1 < a + n)).map fun c => (c.1 - a, c.2)) n

/-- R328. The certificate chain of a slot: slot 1 is empty until SET_CERTIFICATE. -/
def State.chain (s : State) (slot : Nat) : List (BitVec 8) :=
  if slot = 0 then Config.chain0 else if slot = 1 then s.sec.certSlot1 else []

/-- The slot holds a chain. -/
def State.hasChain (s : State) (slot : Nat) : Bool := slot == 0 || (slot == 1 && !s.sec.certSlot1.isEmpty)

/-! ### Connection -/

/-- R328. GET_VERSION begins a connection: what was open on the path ends. -/
def execGetVersion (path : Nat) (s : State) : Res :=
  s.spdm path (fun _ => true) fun s =>
    let s1 : State := { s with sec := { s.sec with
      conns := s.sec.conns.set path { version := true }, sessions := s.sec.sessions.filter fun x => x.path != path } }
    s1.spdmReply path 0x04 0 0 (leBytes 1 0 ++ leBytes 1 1 ++ leBytes 2 0x1300)

/-- R328. GET_CAPABILITIES: certificates, challenge, measurements with signature, encryption, MAC, mutual authentication, key
exchange, heartbeat, key update, CSR and certificate setting. -/
def execGetCapabilities (path : Nat) (s : State) : Res :=
  s.spdm path (fun c => c.version) fun s =>
    (s.modConn path fun c => { c with caps := true }).spdmReply path 0x61 0 0
      (leBytes 1 0 ++ leBytes 1 0 ++ leBytes 2 0 ++ leBytes 4 0x001863d6 ++ leBytes 4 0x40000 ++ leBytes 4 0x40000)

/-- R328, R339. NEGOTIATE_ALGORITHMS: ECDSA P-384, SHA-384, secp384r1, AES-256-GCM and the SPDM key schedule; `offered` tells that
the requester offers them all. -/
def execNegotiateAlgorithms (path : Nat) (offered : Bool) (s : State) : Res :=
  s.spdm path (fun c => c.version && c.caps) fun s =>
    if offered then
      (s.modConn path fun c => { c with algs := true }).spdmReply path 0x63 4 0
        (leBytes 2 52 ++ leBytes 1 1 ++ leBytes 1 0 ++ leBytes 4 2 ++ leBytes 4 0x80 ++ leBytes 4 2 ++ leBytes 12 0
          ++ leBytes 4 0 ++ leBytes 4 0x00102002 ++ leBytes 4 0x00022003 ++ leBytes 4 0x00802004 ++ leBytes 4 0x00012005)
    else s.spdmError path 1

/-- The connection has negotiated. -/
def SpdmConn.up (c : SpdmConn) : Bool := c.version && c.caps && c.algs

/-! ### Identity and measurements (R328, R329) -/

/-- R328. GET_DIGESTS: the digest of each slot's chain. -/
def execGetDigests (path : Nat) (s : State) : Res :=
  s.spdm path SpdmConn.up fun s =>
    let slots := [0, 1].filter s.hasChain
    s.spdmReply path 0x01 3 (slots.foldl (fun m k => m + 2 ^ k) 0) (slots.flatMap fun k => digestBytes (shaBytes (s.chain k)))

/-- R328. GET_CERTIFICATE: a part of a slot's chain. -/
def execGetCertificate (path slot off len : Nat) (s : State) : Res :=
  s.spdm path SpdmConn.up fun s =>
    let c := s.chain slot
    if s.hasChain slot && decide (off < c.length) then
      let part := (c.drop off).take (min len 0xffff)
      s.spdmReply path 0x02 slot 0 (leBytes 2 part.length ++ leBytes 2 (c.length - off - part.length) ++ part)
    else s.spdmError path 1

/-- R328. CHALLENGE: the chain's digest, a nonce, and a signature with the identity key. -/
def execSpdmChallenge (path slot : Nat) (s : State) : Res :=
  s.spdm path SpdmConn.up fun s =>
    if s.hasChain slot then
      let d := digestBytes (shaBytes (s.chain slot))
      let t := s.drawBytes 128
      t.1.spdmReply path 0x03 slot (2 ^ slot) (d ++ t.2.take 32 ++ leBytes 2 0 ++ t.2.drop 32)
    else s.spdmError path 1

/-- R329. A measurement: 1 boot ROM, 2 and 3 the firmware of the active and the inactive slot, 4 the image in use, 5 the
calibration set, 6 the security state. -/
def State.measurement (s : State) (k : Nat) : BitVec 384 :=
  match k with
  | 1 => Config.romDigest
  | 2 => shaMem s.fwStore (0x2000000 * s.mbox.fwRunning) 0x2000000
  | 3 => shaMem s.fwStore (0x2000000 * (1 - s.mbox.fwRunning)) 0x2000000
  | 4 => shaMem s.store (imgBase s.pst.imgInUse) 0x40000
  | 5 => shaMem s.store 0x100000 0x18000
  | _ => shaBytes (leBytes 1 (b2n s.approved) ++ leBytes 1 s.secState ++ leBytes 1 s.sec.debug ++ Config.otpHashes)

/-- R329. A measurement block: index, DMTF form, type (0 ROM, 1 firmware, 3 configuration, 4 state), and its digest. -/
def State.measureBlock (s : State) (k : Nat) : List (BitVec 8) :=
  let ty := if k = 1 then 0 else if k < 4 then 1 else if k < 6 then 3 else 4
  leBytes 1 k ++ leBytes 1 1 ++ leBytes 2 51 ++ leBytes 1 ty ++ leBytes 2 48 ++ digestBytes (s.measurement k)

/-- R329. GET_MEASUREMENTS: index 0 asks for their number, 255 for all of them; `sign` asks for a signature. -/
def execGetMeasurements (path index : Nat) (sign : Bool) (s : State) : Res :=
  s.spdm path SpdmConn.up fun s =>
    let ks := if index = 255 then [1, 2, 3, 4, 5, 6] else if 1 ≤ index ∧ index ≤ 6 then [index] else []
    if ks.isEmpty && index != 0 then s.spdmError path 1
    else
      let body := ks.flatMap s.measureBlock
      let t := s.drawBytes (if sign then 128 else 32)
      t.1.spdmReply path 0x60 (if index = 0 then 6 else 0) 0
        (leBytes 1 ks.length ++ leBytes 3 body.length ++ body ++ t.2.take 32 ++ leBytes 2 0 ++ t.2.drop 32)

/-! ### Sessions (R328, R340) -/

/-- R328. Sessions open or in handshake: of hosts, or with the peer. -/
def State.sessionsOf (s : State) (peer : Bool) : Nat :=
  (s.sec.sessions.countP fun x => (x.path == 3) == peer)
    + s.sec.conns.countP fun c => (c.1 == 3) == peer && c.2.handshake.isSome

/-- R328, R343. KEY_EXCHANGE: refused while the DRBG stands, and past 4 sessions of hosts or 1 with the peer; the peer is always
authenticated. -/
def execKeyExchange (path slot : Nat) (mutualAuth : Bool) (s : State) : Res :=
  s.spdm path SpdmConn.up fun s =>
    if !s.hasChain slot then s.spdmError path 1
    else if !s.sec.drbgOk then s.spdmError path 5
    else if (s.conn path).handshake.isSome then s.spdmError path 4
    else if (if path = 3 then 1 else 4) ≤ s.sessionsOf (path == 3) then s.spdmError path 0x0a
    else
      let id := s.sec.nextSession
      let s1 : State := { s with sec := { s.sec with nextSession := id + 1 } }
      let s2 := (s1.modConn path fun c => { c with handshake := some (id, mutualAuth || path == 3) }).generate
      let t := s2.drawBytes 272
      t.1.spdmReply path 0x64 0 0 (leBytes 2 id ++ leBytes 1 (b2n (mutualAuth || path == 3)) ++ leBytes 1 slot ++ t.2)

/-- R340. An authentication fails: CO_AUTH_FAIL with its cause (0 the chain or signature, 1 its root), and the handshake ends. -/
def State.authFail (s : State) (path cause : Nat) : State :=
  (((s.modConn path fun c => { c with handshake := none }).record bSec 293 0x0942 .warning
    [(1, pathTransport path), (1, cause)]).spdmError path 6)

/-- R328, R340. FINISH: `mac` tells that the requester's verification data is right; of a requester that must authenticate,
`chainOk` that its chain and signature verify, and `rootOk` that the root matches an OTP Crypto Officer hash (on the ferry link, the
own root). A session authenticated both ways over a host path is the Crypto Officer's. -/
def execSpdmFinish (path : Nat) (mac chainOk rootOk : Bool) (s : State) : Res :=
  s.spdm path (fun c => c.handshake.isSome) fun s =>
    match (s.conn path).handshake with
    | none => s
    | some (id, both) =>
      if !mac then (s.modConn path fun c => { c with handshake := none }).spdmError path 6
      else if both && !chainOk then s.authFail path 0
      else if both && !rootOk then s.authFail path 1
      else
        let x : SpdmSession := { id := id, path := path, mutualAuth := both, co := both && path != 3 }
        let s1 := s.modConn path fun c => { c with handshake := none }
        let s2 : State := { s1 with sec := { s1.sec with sessions := s1.sec.sessions ++ [x] } }
        (s2.record bSec 293 0x0941 .info [(8, id), (1, pathTransport path), (1, b2n both)]).spdmReply path 0x65 0 0 []

/-- R328. HEARTBEAT inside a session. -/
def execSpdmHeartbeat (path session : Nat) (s : State) : Res :=
  s.inSession path session fun s => s.spdmReply path 0x68 0 0 []

/-- R328. KEY_UPDATE: the session's keys are replaced. -/
def execKeyUpdate (path session : Nat) (s : State) : Res :=
  s.inSession path session fun s =>
    let up (x : SpdmSession) : SpdmSession := if x.id == session && x.path == path then { x with updates := x.updates + 1 } else x
    ({ s with sec := { s.sec with sessions := s.sec.sessions.map up } } : State).spdmReply path 0x69 1 0 []

/-- R328. END_SESSION: the session ends, and its secrets are discarded. -/
def execEndSession (path session : Nat) (s : State) : Res :=
  s.inSession path session fun s =>
    ({ s with sec := { s.sec with
      sessions := s.sec.sessions.filter fun x => !(x.id == session && x.path == path) } } : State).spdmReply path 0x6c 0 0 []

/-! ### Certificates (R328, R341, R342) -/

/-- Take a Crypto Officer message. -/
def State.inOfficer (s : State) (path id : Nat) (f : State → State) : Res :=
  s.inSession path id fun s => if s.coSession id then f s else s.spdmError path 0x0b

/-- R341, R342. GET_CSR inside a Crypto Officer session. `pairwise` tells that the key's consistency test passes; otherwise the
key is discarded and the request fails. -/
def execGetCsr (path session : Nat) (pairwise : Bool) (s : State) : Res :=
  s.inOfficer path session fun s =>
    if pairwise then
      let t := s.drawBytes 512
      t.1.spdmReply path 0x6d 0 0 (leBytes 2 512 ++ leBytes 2 0 ++ t.2)
    else (s.record bCry 295 0x0961 .fatal [(1, 7), (1, 0)]).spdmError path 5

/-- R328, R340. SET_CERTIFICATE: the Crypto Officer writes the chain of slot 1; slot 0 is fixed. -/
def execSetCertificate (path session slot : Nat) (chain : List (BitVec 8)) (s : State) : Res :=
  s.inOfficer path session fun s =>
    if slot = 1 ∧ chain ≠ [] then
      ({ s with sec := { s.sec with certSlot1 := chain } } : State).spdmReply path 0x6e 1 0 []
    else s.spdmError path 1

end Sys2Proof.Machine
end

