-- ==== Sys2Proof/Machine/Security.lean ====
section
/-!
DEFINITION. Passphrases and the locked state (R330–R334), and the erase services (R335, R336).
-/
namespace Sys2Proof.Machine

/-! ### Passphrases -/

/-- R448. Take a security command that the locked state or a freeze refuses. -/
def State.secured (s : State) (m : Master) (f : State → State) : Res :=
  s.serve m false fun s =>
    if s.sec.pass.locked || s.sec.pass.frozen then s.reply m rcSecurity [] else f s

/-- R333. An attempt fails: it counts toward the limit, and UNLOCK_FAIL is recorded. -/
def State.passFail (s : State) (m : Master) (master : Bool) : State :=
  let p := s.sec.pass
  let n := (if master then p.attemptsMaster else p.attemptsUser) + 1
  let q : Pass := if master then { p with attemptsMaster := n } else { p with attemptsUser := n }
  (({ s with sec := { s.sec with pass := q } } : State).record bSec 294 0x0951 .warning [(1, b2n master), (4, n)]).reply m
    rcPassphrase []

/-- R330. GET_SECURITY_STATE. -/
def execGetSecurityState (m : Master) (s : State) : Res :=
  s.serve m false fun s => s.reply m rcSuccess (leBytes 4 s.secState)

/-- R331, R333, R343. SET_PASSPHRASE of the user or the master: the current one must match when there is one; a new salt is
drawn and the key record is written with the new wrap. -/
def execSetPassphrase (m : Master) (master : Bool) (current new : BitVec 256) (s : State) : Res :=
  s.secured m fun s =>
    let p := s.sec.pass
    let old := if master then p.master else p.user
    if !master && decide (5 ≤ p.attemptsUser) then s.reply m rcSecurity []
    else if !s.sec.drbgOk then s.reply m rcInternal []
    else if old.isSome && old != some current then s.passFail m master
    else
      let q : Pass := if master then { p with master := some new, saltMaster := s.draws } else { p with user := some new, salt := s.draws }
      let s1 := ({ s with draws := s.draws + 1, sec := { s.sec with pass := q } } : State).generate
      s1.keyRecWrite.reply m rcSuccess []

/-- R330, R333. DISABLE_PASSPHRASE: a passphrase that is set and matches is removed. -/
def execDisablePassphrase (m : Master) (master : Bool) (current : BitVec 256) (s : State) : Res :=
  s.secured m fun s =>
    let p := s.sec.pass
    let old := if master then p.master else p.user
    if old.isNone || (!master && decide (5 ≤ p.attemptsUser)) then s.reply m rcSecurity []
    else if old != some current then s.passFail m master
    else
      let q : Pass := if master then { p with master := none } else { p with user := none }
      ({ s with sec := { s.sec with pass := q } } : State).keyRecWrite.reply m rcSuccess []

/-- R331–R333. PASSPHRASE_UNLOCK: ends the locked state until the next cold start. -/
def execPassphraseUnlock (m : Master) (current : BitVec 256) (s : State) : Res :=
  s.serve m false fun s =>
    let p := s.sec.pass
    if !p.locked || decide (5 ≤ p.attemptsUser) || s.sec.error then s.reply m rcSecurity []
    else if p.user != some current then s.passFail m false
    else (({ s with sec := { s.sec with pass := { p with locked := false } } } : State).count bSec 0x41 66).reply m rcSuccess []

/-- R333. FREEZE_SECURITY_STATE, until the next cold reset. -/
def execFreezeSecurityState (m : Master) (s : State) : Res :=
  s.serve m false fun s =>
    if s.sec.pass.locked then s.reply m rcSecurity []
    else ({ s with sec := { s.sec with pass := { s.sec.pass with frozen := true } } } : State).keyRecWrite.reply m rcSuccess []

/-! ### Erase services (R335, R336) -/

/-- R480. A new erase service halts every barge channel that runs a descriptor. -/
def State.haltBarge (s : State) : State :=
  [0, 1, 2, 3].foldl (fun s n =>
    match (s.brg n).cur with
    | some d => if (s.brg n).state = 1 then s.bargeHalt n d 4 d.first else s
    | none => s) s

/-- R335. A service begins: operations in progress are aborted, every slot's keys are replaced from the next tick, SWK is new, the
cache and the landing buffers are dropped, and the poison list is cleared. -/
def State.eraseBegin (s : State) (svc : Nat) : State :=
  let s1 : State := s.mboxWake.haltBarge
  let s2 : State := { s1 with
    sec := { s1.sec with
      queue := [], blank := [], batch := 0, swkEpoch := s1.sec.swkEpoch + 1, erase := some svc, holdSlots := List.range 64
      pass := if svc = 2 then { s1.sec.pass with user := none } else s1.sec.pass }
    mnt := { s1.mnt with waiting := (s1.mnt.waiting.erase 5).erase 6 }
    integ := { s1.integ with list := [] } }
  let s3 := (s2.dropPages fun _ => true).formatMark fun _ => true
  let s4 := (List.range 64).foldl (fun s k =>
    let t := s.drawKey
    t.1.modKeySlot k fun x => { x with
      op := 2, newKey := some t.2, f0 := s.tt.fn + 1, passing := false, pages := 0, boundary := 0, prevLive := false, prevKey := 0 }) s3
  if svc = 0 then
    let t := s4.drawKey
    let s5 := (t.1.modKeySlot 64 fun x => { x with curKey := t.2 }).keyRecWrite
    match s5.blocker 12 with
    | some b => s5.defer 12 b
    | none => s5.zeroDram
  else s4.keyRecWrite

/-- R335, R343, R448, R480. An erase service as a background command: refused while locked, and while the DRBG stands. -/
def State.eraseCommand (s : State) (m : Master) (opcode svc : Nat) : State :=
  if s.sec.pass.locked then s.reply m rcSecurity []
  else if !s.sec.drbgOk || s.sec.error then s.reply m rcInternal []
  else s.background m opcode fun s => s.eraseBegin svc

/-- R335, R336. SANITIZE. -/
def execSanitize (m : Master) (s : State) : Res := s.serve m false fun s => s.eraseCommand m 0x4400 0

/-- R335. SECURE_ERASE. -/
def execSecureErase (m : Master) (s : State) : Res := s.serve m false fun s => s.eraseCommand m 0x4401 1

/-- R333, R335, R340. PASSPHRASE_SECURE_ERASE with the master passphrase; the service takes no other. -/
def execPassphraseSecureErase (m : Master) (master : Bool) (current : BitVec 256) (s : State) : Res :=
  s.serve m false fun s =>
    let p := s.sec.pass
    if !master then s.reply m rcInput []
    else if p.locked || p.frozen || p.master.isNone || decide (5 ≤ p.attemptsMaster) then s.reply m rcSecurity []
    else if s.mbox.bg.isSome then s.reply m rcBusy []
    else if p.master != some current then s.passFail m true
    else s.eraseCommand m 0x4505 2

/-- R128. How many of the stripes from `a` on, `n` of them, lie on plane `k / 4`, `k % 4` of a die number. -/
def planeCount (k a n : Nat) : Nat :=
  let below (x : Nat) : Nat := (x + 31 - (k / 4 + 8 * (k % 4))) / 32
  below (a + n) - below a

/-- R130, R227, R335, R337. How many of the stripes that a Sanitize writes blank lie on plane `k` of each die: those of the districts and
the internal area, less the retired ones, with the spares in their place. -/
def State.blankRows (s : State) (k : Nat) : Nat :=
  let berths (f : Nat × BerthEntry → Nat) : Nat := s.xl.berths.foldl (fun n p => n + planeCount k (f p * 512) (p.2.len * 512)) 0
  let stripes (f : Nat × Nat × Nat → Nat) : Nat := s.xl.stripes.foldl (fun n p =>
    n + (if (s.berthMap (f p)).isSome then 0 else planeCount k (f p) 1)) 0
  planeCount k 0 6442451328 + planeCount k 6442451456 16777216 + berths (fun p => p.2.target) + stripes (fun p => p.2.2)
    - berths (fun p => p.2.src) - stripes (fun p => p.2.1)

/-- R335, R336. The work of a Sanitize ends: user memory and the internal area are blank, and no format is left to run. -/
def State.sanitized (s : State) : State :=
  let cells := s.media.cells.filter fun c => !s.blanked (c.1 % 2 ^ 33)
  let now : Xl := {
    districts := s.xl.districts, berths := s.xl.berths, stripes := s.xl.stripes, berth := s.xl.berth, boundary := s.xl.boundary }
  let slots := s.sec.slots.map fun p => (p.1, { p.2 with op := 0, passing := false, boundary := 0 })
  let planes (m : Mch) (c : Nat) : Kv Nat := (List.range 32).foldl (fun k i =>
    if s.role c (i / 4) < 17 then Kv.mod k i 0 (· + s.blankRows i) else k) m.planes
  let s1 : State := { s with
    media := { s.media with cells := cells, rewrites := [], wiped := now :: s.media.wiped }
    sec := { s.sec with slots := slots } }
  ((List.range 18).foldl (fun s c => s.modMch c fun m => { m with planes := planes m c }) s1).keyRecWrite

/-- R335. A running service has reached its completion point: every slot its F0, and for a Sanitize the DRAM is zero-filled and
no crossing is in flight. -/
def State.eraseEnds (s : State) (svc : Nat) : Bool :=
  !(s.sec.slots.any fun p => p.2.newKey.isSome)
    && (svc != 0 || (!s.mnt.waiting.has 12 && s.media.crossings.isEmpty && s.pwr.flush.isNone))

/-- R335. ERASE_DONE. -/
def execEraseDone (s0 : State) : Res :=
  let s := s0.begin
  match s.sec.erase with
  | none => .next s
  | some svc =>
    .next (s.gate (s.eraseEnds svc) fun s =>
      let s1 := if svc = 0 then s.sanitized else s
      let from' := (s.mbox.bg.map fun b => b.2.2).getD s.tt.fn
      ({ s1 with sec := { s1.sec with erase := none } } : State).record bSec 294 0x0953 .info [(1, svc), (4, s.tt.fn - from')])

end Sys2Proof.Machine
end

