-- ==== Sys2Proof/Machine/Telemetry.lean ====
section
/-!
DEFINITION. Delivery of event records (R456–R460, R580–R584), the alerts (R450), and the census (R592–R597).
-/
namespace Sys2Proof.Machine

/-! ### The CXL event logs of a head (R456–R460) -/

/-- R459. Records that a log holds: Informational, Warning, Failure, Fatal. -/
def logCap (l : Nat) : Nat := [1024, 1024, 512, 128].getD l 0

/-- R457, R449. The flag bytes 17–19 of a record: its severity, Permanent Condition, and the conditions of R449. -/
def State.logFlags (s : State) (log : Nat) : Nat :=
  log + 4 * b2n (log == 3) + 8 * b2n s.maintenanceNeeded + 16 * b2n s.performanceDegraded + 32 * b2n s.replacementNeeded

/-- R457–R459. A record enters a log of head `h`; a full log drops it, with EVLOG_OVERFLOW when its flag becomes set. The answer
is its handle, 0 for a record that was dropped. -/
def State.logAdd (s : State) (h log kind : Nat) (bytes : List (BitVec 8)) : State × Nat :=
  let p := s.hp h
  let l := p.logs.getD log {}
  if l.entries.length < logCap log then
    let e : LogEntry := { handle := p.nextHandle, flags := s.logFlags log, stamp := s.stamp, kind := kind, bytes := bytes }
    let s1 := s.modHp h fun p => { p with
      logs := p.logs.set log { l with entries := l.entries ++ [e] }, nextHandle := p.nextHandle % 65535 + 1 }
    (s1.gate l.msix fun s => s.emit (.msix h (1 + log)), p.nextHandle)
  else
    let l1 := { l with ovf := true, dropped := min 0xffff (l.dropped + 1), lastOvf := s.stamp
                       firstOvf := if l.ovf then l.firstOvf else s.stamp }
    let s1 := s.modHp h fun p => { p with logs := p.logs.set log l1 }
    (s1.gate (!l.ovf) fun s => s.record (bHp h) (248 + 12 * h + 6) 0x0c61 .warning [(1, log), (4, l1.dropped)], 0)

/-- R458. Two records of one log name each other. -/
def State.logLink (s : State) (h log a b : Nat) : State :=
  if a = 0 ∨ b = 0 then s
  else
    let rel (e : LogEntry) : LogEntry :=
      if e.handle = a then { e with related := b } else if e.handle = b then { e with related := a } else e
    s.modHp h fun p => { p with logs := Kv.mod p.logs log {} fun l => { l with entries := l.entries.map rel } }

/-- R458. The DPA of the first poisoned sector that a record tells of. -/
def State.recordDpa (s : State) (r : Record) : Nat :=
  if r.code = 0x0841 then bits r.data 0 48
  else if r.code = 0x0812 then bits r.data 48 40 * 4096 + 64 * bits r.data 88 8
  else
    let psn := bits r.data 0 40
    let base := ((s.lpnAt psn).getD 0) * 4096
    let pos := (s.role (r.source / 8) (r.source % 8))
    let blk := base + 256 * (posBlock psn pos).getD 0
    blk + 64 * ((lowestBit (BitVec.ofNat 4 (bits r.data 88 8))).getD 0)

/-- R458, R505. The further CXL record that goes with a module record: its kind and content. -/
def State.companion (s : State) (r : Record) : Option (Nat × List (BitVec 8)) :=
  let health (ty : Nat) : Option (Nat × List (BitVec 8)) := some (3, leBytes 1 ty ++ s.healthInfo)
  if r.cont then none
  else match r.code with
    | 0x0602 => some (1, leBytes 8 (s.recordDpa r))
    | 0x0841 => some (1, leBytes 8 (s.recordDpa r))
    | 0x0812 => some (2, leBytes 8 (s.recordDpa r))
    | 0x0631 => health 2
    | 0x0632 => health 2
    | 0x0625 => health 0
    | 0x0626 => health 1
    | 0x0b41 => health 0
    | 0x0963 => health 0
    | 0x0e02 => health 0
    | _ => none

/-- R456, R583. The heads whose logs take a record. -/
def State.logHeads (s : State) (r : Record) : List Nat :=
  if !s.dual then [0]
  else if r.relayed then [0, 1]
  else if 248 ≤ r.source ∧ r.source < 260 then [0]
  else if 260 ≤ r.source ∧ r.source < 272 then [1]
  else [0, 1]

/-- R456–R458. A record enters the logs, with its companion. -/
def State.logRecord (s : State) (r : Record) : State :=
  let log := sevVal r.severity
  (s.logHeads r).foldl (fun s h =>
    let a := s.logAdd h log 0 r.bytes
    match s.companion r with
    | none => a.1
    | some (k, bs) =>
      let b := a.1.logAdd h log k bs
      b.1.logLink h log a.2 b.2) s

/-- R450. An alert that crosses a threshold makes a Memory Module Event record in the Warning log. -/
def State.alertTick (s : State) : State :=
  let old := s.mbox.alerts.levels
  let now := (List.range 5).map s.alertLevel
  let s1 : State := { s with mbox := { s.mbox with alerts := { s.mbox.alerts with levels := now } } }
  (List.range 5).foldl (fun s i =>
    if old.getD i 0 < now.getD i 0 then
      let ty := if i = 0 then 2 else if i < 3 then 3 else 0
      (if s.dual then [0, 1] else [0]).foldl (fun s h => (s.logAdd h 1 3 (leBytes 1 ty ++ s.healthInfo)).1) s
    else s) s1

/-! ### Taking a record (R580–R584) -/

/-- R582. Stage a record for the store's ring: when 256 are staged, the oldest Info record goes, or else the oldest. -/
def Evq.stage (e : Evq) (r : Record) : Evq :=
  if e.staged.length < 256 then { e with staged := e.staged ++ [r] }
  else
    let gone := match e.staged.findIdx? fun x => x.severity == .info with
      | some i => e.staged.eraseIdx i
      | none => e.staged.drop 1
    { e with staged := gone ++ [r], lost2 := sat32 e.lost2 1 }

/-- R582. Put a record on the relay: when 64 wait, the oldest goes. -/
def Evq.relayPut (e : Evq) (r : Record) : Evq :=
  if e.relay.length < 64 then { e with relay := e.relay ++ [r] }
  else { e with relay := e.relay.drop 1 ++ [r], lost3 := sat32 e.lost3 1 }

/-- R582. The ring takes a record. -/
def State.ringTakes (s : State) (r : Record) : Bool := r.severity != .info || (s.actW bPst 0x034).getLsbD 0

/-- R582. The relay takes a record. -/
def relayTakes (r : Record) : Bool :=
  !r.relayed && (r.severity == .fatal || (decide (272 ≤ r.source) && decide (r.source ≤ 287)))

/-- R582, R584. Deliver a record to every consumer; `fin` ends its packet. -/
def State.deliver (s : State) (r : Record) (fin : Bool) : State :=
  let before := s.tele.evq.records.words.length
  let s1 := s.pushQ .records (BitVec.ofNat 512 (ofBytes r.bytes)) fin
  let refused := s1.tele.evq.records.words.length == before
  let e := s1.tele.evq
  let e1 := { e with lost1 := sat32 e.lost1 (b2n refused), taken := sat32 e.taken 1, takenNow := e.takenNow + 1 }
  let e2 := if s.ringTakes r then e1.stage r else e1
  let e3 := if relayTakes r then e2.relayPut r else e2
  let s2 := ({ s1 with tele := { s1.tele with evq := e3 } } : State).count bEvq 0x40 1
  let urgent := !r.relayed && !r.cont && [0x0a44, 0x0a43, 0x0a21].contains r.code
  (s2.logRecord r).gate urgent fun s => s.msixAll 7

/-- R580–R582. RECORD_TAKE: EVQ takes the next record: the rest of an occurrence before the oldest occurrence that waits, at most
1,024 in a frame. The first record of a source that lost some sets LOST_BEFORE. -/
def execRecordTake (s0 : State) : Res :=
  let s := s0.begin
  let e := s.tele.evq
  if 1024 ≤ e.takenNow then .next s
  else
    let put (e : Evq) : State := { s with tele := { s.tele with evq := e } }
    match e.taking, e.direct, e.hold with
    | r :: rest, _, _ => .next ((put { e with taking := rest }).deliver r rest.isEmpty)
    | [], r :: rest, _ => .next ((put { e with direct := rest }).deliver r true)
    | [], [], (r :: rest) :: more =>
      let lost := e.lostMark.contains r.source
      let e1 := { e with hold := more, taking := rest, lostMark := e.lostMark.filter fun x => x != r.source }
      .next ((put e1).deliver { r with lostBefore := r.lostBefore || lost } rest.isEmpty)
    | [], [], [] :: more => .next (put { e with hold := more })
    | [], [], [] => .next s

/-! ### The census (R592–R597) -/

/-- R596. The counter entry of a block: its live count, the one saved for MOORED, or zero. -/
def State.censusCounter (s : State) (b n : Nat) : Nat :=
  let word (c : Counter) : Nat := c.count + 2 ^ 63 * b2n c.ovf
  if s.live b then word (s.tele.counters.getD (b * 8 + n) {})
  else match s.retained with
    | some (_, cs, _) => word (cs.getD (b * 8 + n) {})
    | none => 0

/-- R592, R596. The bank of the window that closes at this tick, with SEQ, LATE and the trailer still to come. -/
def State.censusBank (s : State) (fnEnd : Nat) (short : Bool) : List Host.Cell :=
  let c := s.cen
  let flags := b2n short + 4 * b2n c.mapChanged + 8 * b2n c.clsChanged + 16 * b2n c.flushSeen
  let mask := (List.range 54).foldl (fun a b => a + 2 ^ b * b2n (!s.live b)) 0
  let hd := leBytes 4 0 ++ leBytes 6 c.startFn ++ leBytes 6 fnEnd ++ leBytes 1 c.k ++ leBytes 1 flags
    ++ leBytes 1 s.tt.map ++ leBytes 1 (if s.capClass = 3 then 3 else s.pwr.cls) ++ leBytes 7 mask
  let counters := (List.range 432).flatMap fun i => leBytes 8 (s.censusCounter (i / 8) (i % 8))
  let bw := (List.range 50).flatMap fun i => leBytes 8 (c.bw.getD i 0)
  let beat (i : Nat) : Nat :=
    if i % 8 = 7 then (List.range 7).foldl (fun n k => n + c.beats.getD (i / 8 * 8 + k + 1) 0) 0 else c.beats.getD (i + 1) 0
  let beats := (List.range 144).flatMap fun i => leBytes 4 (beat i)
  let m0 := Mem.writes [] 0x0f50 beats
  Mem.writes (Mem.writes (Mem.writes m0 0x0dc0 bw) 0x0040 counters) 0 hd

/-- R592. Latch the window at a tick, and begin the next one. -/
def State.censusLatch (s : State) (fnEnd : Nat) (short : Bool) : State :=
  { s with cen := { s.cen with
    latched := s.censusBank fnEnd short, closeDue := some short, bw := [], beats := [], beatsAt := [], startFn := fnEnd
    mapChanged := false, clsChanged := false, flushSeen := false } }

/-- R592. CENSUS_WINDOW_CLOSE: the window latched at this tick goes into gathering. -/
def execCensusWindowClose (s0 : State) : Res :=
  let s := s0.begin
  .next (s.gate s.cen.closeDue.isSome fun s =>
    { s with cen := { s.cen with closeDue := none, gathering := true, building := s.cen.latched, latched := [] } })

/-- R592. CENSUS_PUBLISH, at a tick after the close: the bank that is not published takes the window, with LATE set when it
missed the next tick. -/
def execCensusPublish (s0 : State) : Res :=
  let s := s0.begin
  let fnEnd := Mem.num s.cen.building 10 6
  let late := s.tt.fn - fnEnd - 1
  .next (s.gate (s.cen.gathering && decide (fnEnd < s.tt.fn)) fun s =>
    let seq := (s.cen.seq + 1) % 2 ^ 32
    let m1 := Mem.writes (Mem.writes s.cen.building 0 (leBytes 4 seq)) 0x1ff8 (leBytes 4 seq)
    let m2 := if late = 0 then m1 else Mem.write m1 17 (Mem.read m1 17 ||| 2#8)
    let bank := if s.cen.valid then 1 - s.cen.published else 0
    let s1 := ({ s with cen := { s.cen with
      banks := s.cen.banks.set bank m2, building := [], published := bank, valid := true, gathering := false, seq := seq
      closeFn := fnEnd } } : State).count bCen 0x40 1
    s1.gate (decide (0 < late)) fun s => s.record bCen 373 0x1102 .warning [(4, seq), (4, late)])

end Sys2Proof.Machine
end

