-- ==== Sys2Proof/Machine/Mailbox.lean ====
section
/-!
DEFINITION. The standard mailbox commands (R448–R452, R456–R460, R292, R519) and the end of a background command (R460).
Opcodes and payload layouts are those of CXL 3.1 (log entry 21).
-/
namespace Sys2Proof.Machine

/-- Invalid Log. -/
def rcLog : Nat := 0x17
/-- Media Disabled. -/
def rcMediaOff : Nat := 7
/-- FW Transfer in Progress. -/
def rcFwBusy : Nat := 8
/-- FW Transfer Out of Order. -/
def rcFwOrder : Nat := 9

/-- The head of a path. -/
def headOf (m : Master) : Fin 2 := if pathHead m = 1 then 1 else 0

/-! ### Identity (R448) -/

/-- R448. IDENTIFY. -/
def execIdentify (m : Master) (s : State) : Res :=
  s.serve m true fun s =>
    s.reply m rcSuccess (leBytes 8 Config.pciIds.toNat ++ leBytes 8 Config.serial.toNat ++ leBytes 1 16 ++ leBytes 1 3)

/-- R448. IDENTIFY_MEMORY_DEVICE: capacities in units of 256 MiB. -/
def execIdentifyMemoryDevice (m : Master) (s : State) : Res :=
  s.serve m true fun s =>
    let rev := s.fwHeader s.mbox.fwRunning 4 4
    s.reply m rcSuccess (leBytes 16 rev ++ leBytes 8 98305 ++ leBytes 8 0 ++ leBytes 8 98305 ++ leBytes 8 0
      ++ leBytes 2 1024 ++ leBytes 2 1024 ++ leBytes 2 512 ++ leBytes 2 128 ++ leBytes 4 0 ++ leBytes 3 32768 ++ leBytes 2 64
      ++ leBytes 1 0 ++ leBytes 1 0)

/-- R448. GET_PARTITION_INFO: volatile 0, persistent all. -/
def execGetPartitionInfo (m : Master) (s : State) : Res :=
  s.serve m false fun s => s.reply m rcSuccess (leBytes 8 0 ++ leBytes 8 98305 ++ leBytes 8 0 ++ leBytes 8 98305)

/-! ### Logs (R448, R516, R517, R551) -/

/-- R448. The opcodes the module supports. -/
def opcodes : List Nat :=
  [0x0001, 0x0100, 0x0101, 0x0102, 0x0103, 0x0200, 0x0201, 0x0202, 0x0300, 0x0301, 0x0400, 0x0401]
    ++ [0x4000, 0x4100, 0x4200, 0x4201, 0x4202, 0x4203, 0x4204, 0x4300, 0x4301, 0x4302, 0x4303, 0x4304, 0x4305]
    ++ [0x4400, 0x4401, 0x4500, 0x4501, 0x4502, 0x4503, 0x4504, 0x4505]
    ++ [0xc000, 0xc001, 0xc010, 0xc020, 0xc021, 0xc030, 0xc040, 0xc050, 0xc060, 0xc061]
    ++ [0xc070, 0xc071, 0xc072, 0xc073, 0xc074, 0xc075, 0xc076]

/-- The 16 bytes of the UUID of a log: 0 Command Effects Log, 1 vendor event log, 2 vendor power-fail log. -/
def logUuid (log : Nat) : List (BitVec 8) :=
  (leBytes 16 ([0x0da9c0b5bf4149788f7996b1623b3f17, 0x3d6f81a24c074b9e9e156a2c07d4f3b8, 0x9b21e0c477a54d31b6f80e4c5a91d26f].getD
    log 0)).reverse

/-- R516, R517. The vendor event log: the ring, oldest record first, without slots whose source or severity is not defined. -/
def State.ringLog (s : State) : List (BitVec 8) :=
  (List.range s.pst.ringCount).flatMap fun i =>
    let slot := (s.pst.next + 24576 - s.pst.ringCount + i) % 24576
    let a := 0x020000 + 32 * slot
    if 384 ≤ Mem.num s.store (a + 6) 2 ∨ 4 ≤ Mem.num s.store (a + 10) 1 then [] else Mem.reads s.store a 32

/-- R551. The vendor power-fail log: the newer valid copy of the record, then the older; an absent one reads as zeros. -/
def State.powerFailLog (s : State) : List (BitVec 8) :=
  let copies := [0x012000, 0x013000].filterMap s.pfCopy
  let first := s.pfRecord
  let second := copies.find? fun a => first != some a
  let bytes (a : Option Nat) : List (BitVec 8) := match a with
    | some x => Mem.reads s.store x 256
    | none => leBytes 256 0
  bytes first ++ bytes second

/-- R448. The bytes of a log. -/
def State.logBytes (s : State) (log : Nat) : List (BitVec 8) :=
  if log = 0 then opcodes.flatMap fun o => leBytes 2 o ++ leBytes 2 (Config.effects o).toNat
  else if log = 1 then s.ringLog
  else s.powerFailLog

/-- R448. GET_SUPPORTED_LOGS. -/
def execGetSupportedLogs (m : Master) (s : State) : Res :=
  s.serve m false fun s =>
    s.reply m rcSuccess (leBytes 2 3 ++ leBytes 6 0 ++ logUuid 0 ++ leBytes 4 (4 * opcodes.length) ++ logUuid 1
      ++ leBytes 4 786432 ++ logUuid 2 ++ leBytes 4 512)

/-- R448. GET_LOG: `len` bytes of a log from an offset. -/
def execGetLog (m : Master) (log off len : Nat) (s : State) : Res :=
  s.serve m true fun s =>
    if 3 ≤ log then s.reply m rcLog []
    else if 65536 < len then s.reply m rcInput []
    else s.reply m rcSuccess (((s.logBytes log).drop off).take len)

/-- R448. GET_TIMESTAMP. -/
def execGetTimestamp (m : Master) (s : State) : Res := s.serve m false fun s => s.reply m rcSuccess (leBytes 8 s.stamp)

/-- R448. SET_TIMESTAMP: a nanosecond count kept until the next cold start. -/
def execSetTimestamp (m : Master) (ns : Nat) (s : State) : Res :=
  s.serve m false fun s =>
    ({ s with mbox := { s.mbox with stamp := some (ns % 2 ^ 64, s.frame) } } : State).reply m rcSuccess []

/-! ### Event logs (R456–R460) -/

/-- R457, R458. The 128 bytes of a record in a log: a common header of 48 bytes, and its content. -/
def LogEntry.wire (e : LogEntry) : List (BitVec 8) :=
  let uuid := [0x7c1e4a2f9b3d4e61a8c52d0f6b937e14, 0xfbcd0a77c260417f85a9088b1621eba6, 0x601dcbb39c064eabb8af4e9bfb5c9624,
    0xfe927475dd594339a58679bab113b774].getD e.kind 0
  padTo 128 ((leBytes 16 uuid).reverse ++ leBytes 1 128 ++ leBytes 3 e.flags ++ leBytes 2 e.handle ++ leBytes 2 e.related
    ++ leBytes 8 e.stamp ++ leBytes 16 0 ++ e.bytes)

/-- R456, R459. GET_EVENT_RECORDS of a log of the head: its oldest records, as many as a payload holds. -/
def execGetEventRecords (m : Master) (log : Nat) (s : State) : Res :=
  s.serve m true fun s =>
    if 4 ≤ log then s.reply m rcInput []
    else
      let l := (s.hp (pathHead m)).logs.getD log {}
      let es := l.entries.take 511
      let flags := b2n l.ovf + 2 * b2n (decide (511 < l.entries.length))
      s.reply m rcSuccess (leBytes 1 flags ++ leBytes 1 0 ++ leBytes 2 l.dropped ++ leBytes 8 l.firstOvf ++ leBytes 8 l.lastOvf
        ++ leBytes 2 es.length ++ leBytes 10 0 ++ es.flatMap LogEntry.wire)

/-- R459. CLEAR_EVENT_RECORDS of named handles, or of every record; it resets the log's overflow flag. -/
def execClearEventRecords (m : Master) (log : Nat) (all : Bool) (handles : List Nat) (s : State) : Res :=
  s.serve m true fun s =>
    let h := pathHead m
    let l := (s.hp h).logs.getD log {}
    if 4 ≤ log then s.reply m rcInput []
    else if !all && !(handles.all fun x => l.entries.any fun e => e.handle == x) then s.reply m rcHandle []
    else
      let kept := if all then [] else l.entries.filter fun e => !handles.contains e.handle
      let l1 : EventLog := { entries := kept, msix := l.msix }
      (s.modHp h fun p => { p with logs := p.logs.set log l1 }).reply m rcSuccess []

/-- R460. GET_EVENT_INTERRUPT_POLICY: 1 and the vector for MSI-X, 0 for none. -/
def execGetEventInterruptPolicy (m : Master) (s : State) : Res :=
  s.serve m true fun s =>
    s.reply m rcSuccess ((List.range 4).flatMap fun l =>
      leBytes 1 (if ((s.hp (pathHead m)).logs.getD l {}).msix then 1 + 16 * (1 + l) else 0))

/-- R460. SET_EVENT_INTERRUPT_POLICY: 0 no interrupts or 1 MSI-X for each log; firmware interrupts are invalid. -/
def execSetEventInterruptPolicy (m : Master) (policy : List Nat) (s : State) : Res :=
  s.serve m true fun s =>
    if policy.length ≠ 4 then s.reply m rcLength []
    else if policy.any fun p => decide (2 ≤ p) then s.reply m rcInput []
    else
      let set (k : Kv EventLog) (l : Nat) : Kv EventLog := Kv.mod k l {} fun x => { x with msix := policy.getD l 0 == 1 }
      (s.modHp (pathHead m) fun p => { p with logs := (List.range 4).foldl set p.logs }).reply m rcSuccess []

/-! ### Health, alerts and shutdown (R449–R451) -/

/-- R449. GET_HEALTH_INFO. -/
def execGetHealthInfo (m : Master) (s : State) : Res := s.serve m true fun s => s.reply m rcSuccess s.healthInfo

/-- R450. GET_ALERT_CONFIG: the alerts enabled, the critical thresholds and the warning thresholds, in the order of R450. -/
def execGetAlertConfig (m : Master) (s : State) : Res :=
  s.serve m true fun s =>
    let a := s.mbox.alerts
    s.reply m rcSuccess (leBytes 1 a.enable.toNat ++ leBytes 1 0x1f ++ leBytes 1 100 ++ leBytes 1 a.life ++ leBytes 2 85
      ++ leBytes 2 0 ++ leBytes 2 (signed 2 a.overTemp) ++ leBytes 2 (signed 2 a.underTemp) ++ leBytes 4 a.volatileErr
      ++ leBytes 4 a.persistent)

/-- R450. SET_ALERT_CONFIG: `valid` selects the alerts that change, `enable` those that are on. -/
def execSetAlertConfig (m : Master) (valid enable : BitVec 5) (life : Nat) (overTemp underTemp : Int) (volatileErr persistent : Nat)
    (s : State) : Res :=
  s.serve m true fun s =>
    let a := s.mbox.alerts
    let pick (i old new : Nat) : Nat := if valid.getLsbD i then new else old
    let pickT (i : Nat) (old new : Int) : Int := if valid.getLsbD i then new else old
    let b : Alerts := { a with
      enable := (a.enable &&& ~~~valid) ||| (enable &&& valid)
      life := pick 0 a.life life, overTemp := pickT 1 a.overTemp overTemp, underTemp := pickT 2 a.underTemp underTemp
      volatileErr := pick 3 a.volatileErr volatileErr, persistent := pick 4 a.persistent persistent }
    ({ s with mbox := { s.mbox with alerts := b } } : State).reply m rcSuccess []

/-- R451. GET_SHUTDOWN_STATE. -/
def execGetShutdownState (m : Master) (s : State) : Res :=
  s.serve m true fun s => s.reply m rcSuccess (leBytes 1 s.mbox.shutdown.toNat)

/-- R451, R518. SET_SHUTDOWN_STATE: 0 clean or 1 dirty; a change writes the health record. -/
def execSetShutdownState (m : Master) (dirty : Bool) (s : State) : Res :=
  s.serve m true fun s =>
    let v : BitVec 8 := BitVec.ofNat 8 (b2n dirty)
    let s1 : State := { s with mbox := { s.mbox with shutdown := v } }
    (s1.gate (s.mbox.shutdown != v) State.healthWrite).reply m rcSuccess []

/-! ### Poison (R452, R276–R279) -/

/-- R452. A poison list record as CXL gives it: address and source (1 external, 2 internal, 3 injected), and length. -/
def PoisonRec.wire (r : PoisonRec) : List (BitVec 8) :=
  let src := match r.source with
    | .external => 1
    | .internal => 2
    | .injected => 3
  leBytes 8 (r.dpa + src) ++ leBytes 4 r.len ++ leBytes 4 0

/-- R452, R279. GET_POISON_LIST of `len` sectors from a DPA of user memory. When the reply is full it sets More Records, and the
command repeated with the same range goes on. -/
def execGetPoisonList (m : Master) (dpa len : Nat) (s : State) : Res :=
  s.serve m false fun s =>
    if dpa % 64 ≠ 0 then s.reply m rcInput []
    else if windowBase < dpa + 64 * len then s.reply m rcAddress []
    else
      let mine := s.integ.list.filter fun r => decide (r.dpa < dpa + 64 * len) && decide (dpa < r.dpa + 64 * r.len)
      let from' := match s.mbox.poisonNext with
        | some (a, n, k) => if a = dpa ∧ n = len then k else 0
        | none => 0
      let rs := (mine.drop from').take 4094
      let more := decide (from' + 4094 < mine.length)
      let flags := b2n more + 2 * b2n s.integ.overflow + 4 * b2n s.integ.scan.isSome
      let s1 : State := { s with mbox := { s.mbox with
        poisonNext := if more then some (dpa, len, from' + 4094) else none } }
      s1.reply m rcSuccess (leBytes 1 flags ++ leBytes 1 0 ++ leBytes 8 s.integ.overflowAt ++ leBytes 2 rs.length ++ leBytes 20 0
        ++ rs.flatMap PoisonRec.wire)

/-- R452. The return code with which Inject or Clear Poison is refused; 0 when the sector may be written. -/
def State.poisonCheck (s : State) (m : Master) (dpa : Nat) : Nat :=
  let h := pathHead m
  if dpa % 64 ≠ 0 ∨ (windowBase ≤ dpa ∧ dpa < dpaEnd) then rcInput
  else match s.regionAt (bHp h) dpa with
    | none => rcAddress
    | some n =>
      if !pathAny m && s.owner (s.region (bHp h) n) != h then rcInput
      else if s.mirrored (bHp h) n && s.refusesMirror then rcInput
      else if s.closed ≠ 0 then rcMediaOff
      else 0

/-- R452. A whole-sector write made by a mailbox command, under the region's policy and mirroring. -/
def State.commandWrite (s : State) (m : Master) (dpa : Nat) (data : Sector) (poison : Bool) : State :=
  let r : HostReq := { id := s.cache.nextReq, origin := .command (headOf m), dpa := dpa, kind := .write, data := data
                       be := BitVec.allOnes 64, poison := poison, recv := s.ns, admitNs := s.ns
                       region := (s.regionAt (bHp (pathHead m)) dpa).getD 0 }
  ({ s with cache := { s.cache with nextReq := s.cache.nextReq + 1 } } : State).submit r

/-- R275, R452. INJECT_POISON: at most 64 injected records are held. -/
def execInjectPoison (cyc : Nat) (m : Master) (dpa : Nat) (s : State) : Res :=
  (s.at cyc).serve m false fun s0 =>
    let s := s0.mboxWake
    let c := s.poisonCheck m dpa
    if c ≠ 0 then s.reply m c []
    else if 64 ≤ s.integ.list.countP fun r => r.source == .injected then s.reply m rcPoisonLimit []
    else (s.commandWrite m dpa 0 true).reply m rcSuccess []

/-- R279. Clear Poison that removes the last listed record ends the overflow condition. -/
def State.clearEnds (s : State) (dpa : Nat) : State :=
  let last := match s.integ.list with
    | [r] => r.dpa == dpa && r.len == 1
    | _ => false
  s.gate last fun s => { s with integ := { s.integ with overflow := false } }

/-- R276, R452. CLEAR_POISON: the 64 B supplied are written. -/
def execClearPoison (cyc : Nat) (m : Master) (dpa : Nat) (data : Sector) (s : State) : Res :=
  (s.at cyc).serve m false fun s0 =>
    let s := s0.mboxWake
    let c := s.poisonCheck m dpa
    if c ≠ 0 then s.reply m c []
    else ((s.clearEnds dpa).commandWrite m dpa data false).reply m rcSuccess []

/-! ### Scan Media (R292) -/

/-- R292. Pages of `len` sectors from a DPA. -/
def scanPages (dpa len : Nat) : Nat × Nat := (dpa / 4096, (dpa % 4096 + 64 * len + 4095) / 4096)

/-- R292, R448. GET_SCAN_MEDIA_CAPABILITIES: the estimate in ms, at LOGICAL_CAP. -/
def execGetScanMediaCapabilities (m : Master) (dpa len : Nat) (s : State) : Res :=
  s.serve m false fun s =>
    if windowBase < dpa + 64 * len then s.reply m rcAddress []
    else
      let frames := ((scanPages dpa len).2 + s.logicalCap - 1) / s.logicalCap
      s.reply m rcSuccess (leBytes 4 ((frames * 4096 + 999999) / 1000000))

/-- R292. SCAN_MEDIA of `len` sectors from a DPA, in the background. -/
def execScanMedia (m : Master) (dpa len : Nat) (s : State) : Res :=
  s.serve m false fun s =>
    if dpa % 64 ≠ 0 ∨ len = 0 then s.reply m rcInput []
    else if windowBase < dpa + 64 * len then s.reply m rcAddress []
    else s.mboxWake.background m 0x4304 fun s =>
      { s with
        integ := { s.integ with scan := some (scanPages dpa len), scanHits := [], logicalPos := s.integ.logicalPos.set 64 0 }
        mbox := { s.mbox with scanNext := 0 } }

/-- R292. GET_SCAN_MEDIA_RESULTS: the records the scan found, as many as a payload holds; the command repeated goes on. -/
def execGetScanMediaResults (m : Master) (s : State) : Res :=
  s.serve m false fun s =>
    if s.integ.scan.isSome then s.reply m rcBusy []
    else
      let rs := (s.integ.scanHits.drop s.mbox.scanNext).take 4094
      let more := decide (s.mbox.scanNext + 4094 < s.integ.scanHits.length)
      let s1 : State := { s with mbox := { s.mbox with scanNext := if more then s.mbox.scanNext + 4094 else 0 } }
      s1.reply m rcSuccess (leBytes 8 0 ++ leBytes 8 0 ++ leBytes 1 (b2n more) ++ leBytes 1 0 ++ leBytes 2 rs.length ++ leBytes 12 0
        ++ rs.flatMap PoisonRec.wire)

/-! ### Firmware (R448, R519) -/

/-- R448, R519. GET_FW_INFO: two slots, numbered from 1; the active one, the one staged for the next cold reset, and each revision. -/
def execGetFwInfo (m : Master) (s : State) : Res :=
  s.serve m true fun s =>
    let staged := if s.mbox.fwNext = s.mbox.fwRunning then 0 else s.mbox.fwNext + 1
    s.reply m rcSuccess (leBytes 1 2 ++ leBytes 1 (s.mbox.fwRunning + 1 + 8 * staged) ++ leBytes 1 0 ++ leBytes 13 0
      ++ leBytes 16 (s.fwHeader 0 4 4) ++ leBytes 16 (s.fwHeader 1 4 4) ++ leBytes 32 0)

/-- R448, R519. The bytes of a transfer are written into the slot that does not run. -/
def State.fwPut (s : State) (off : Nat) (data : List (BitVec 8)) : State :=
  { s with fwStore := Mem.writes s.fwStore (0x2000000 * (1 - s.mbox.fwRunning) + off) data }

/-- R448, R519. TRANSFER_FW: action 0 full, 1 first, 2 next, 3 last part, 4 abort; slot (from 1), offset in units of 128 B. The
signature is checked at the end. -/
def execTransferFw (m : Master) (action slot off : Nat) (data : List (BitVec 8)) (s : State) : Res :=
  s.serve m true fun s =>
    let at' := 128 * off
    let whole := action == 0 || action == 3
    let going := s.mbox.fwTransfer
    let put (s : State) : State :=
      let s1 := s.fwPut at' data
      { s1 with mbox := { s1.mbox with
        fwTransfer := if whole then none else some (at' + data.length), fwCheck := whole } }
    if action = 4 then ({ s with mbox := { s.mbox with fwTransfer := none } } : State).reply m rcSuccess []
    else if 5 ≤ action ∨ 0x2000000 < at' + data.length then s.reply m rcInput []
    else if whole && (slot == 0 || decide (2 < slot) || slot == s.mbox.fwRunning + 1) then s.reply m rcSlot []
    else if action ≤ 1 ∧ going.isSome = true then s.reply m rcFwBusy []
    else if (action ≤ 1 ∧ at' ≠ 0) ∨ (2 ≤ action ∧ going ≠ some at') then s.reply m rcFwOrder []
    else s.background m 0x0201 put

/-- R448, R518, R519. ACTIVATE_FW: FW_NEXT is set for the next cold reset; an online activation (0) is not supported. -/
def execActivateFw (m : Master) (action slot : Nat) (s : State) : Res :=
  s.serve m true fun s =>
    if action = 0 then s.reply m rcUnsupported []
    else if action ≠ 1 then s.reply m rcInput []
    else if slot = 0 ∨ 2 < slot then s.reply m rcSlot []
    else
      let s1 : State := { s with mbox := { s.mbox with fwNext := slot - 1 } }
      (s1.gate (s.mbox.fwNext != slot - 1) State.healthWrite).reply m rcSuccess []

/-! ### The end of a background command (R460) -/

/-- R292, R335, R476. The work of a background command, by its opcode, is over. -/
def State.bgOver (s : State) (opcode : Nat) : Bool :=
  if opcode = 0x4304 then
    match s.integ.scan with
    | some x => decide (x.2 ≤ s.integ.logicalPos.getD 64 0)
    | none => true
  else if opcode = 0xc030 then !s.mnt.recalBusy
  else if opcode = 0x4400 ∨ opcode = 0x4401 ∨ opcode = 0x4505 then s.sec.erase.isNone
  else true

/-- R279, R292. A scan that covered all user memory ends the overflow condition. -/
def State.scanOver (s : State) : State :=
  let whole := s.integ.scan == some (0, userPages)
  { s with integ := { s.integ with scan := none, overflow := s.integ.overflow && !whole } }

/-- R448, R460, R466. BG_CMD_DONE: the background command completes, with vector 0 on its head. `ok` is the verdict on the
signature of a transferred image; an erase that the error state ended has failed. -/
def execBgCmdDone (ok : Bool) (s0 : State) : Res :=
  let s := s0.begin
  match s.mbox.bg with
  | none => .next s
  | some (h, op, fn) =>
    .next (s.gate (s.bgOver op) fun s =>
      let erase := op == 0x4400 || op == 0x4401 || op == 0x4505
      let rc := if op = 0x0201 ∧ s.mbox.fwCheck = true ∧ ok = false then rcInput
        else if erase && s.sec.error then rcInternal else rcSuccess
      let s1 := s.gate (op == 0x4304) State.scanOver
      let s2 : State := { s1 with mbox := { s1.mbox with bg := none, fwCheck := s1.mbox.fwCheck && op != 0x0201 } }
      (s2.record (bHp h) (248 + 12 * h + 4) 0x0c41 .info [(2, op), (2, rc), (4, (s.tt.fn - fn) * 4096 / 1000000)]).emit (.msix h 0))

end Sys2Proof.Machine
end

