-- ==== Sys2Proof/Machine/Vendor.lean ====
section
/-!
DEFINITION. The vendor commands on registers, regions, the map and the census (R453–R455, R603), and the SPDM request that
carries a vendor command (R447, R455).
-/
namespace Sys2Proof.Machine

/-- R455. REG_READ and REG_WRITE on HP1 need HP_CFG.BAR2_HP1. -/
def State.regCommand (s : State) (m : Master) (opcode : Nat) (payload : List (BitVec 8)) (f : State → State) : State :=
  let size := pnum payload 4 1
  if m = .mboxHp1 ∧ (s.actW (bHp 1) 0x010).getLsbD 3 = false then (s.vendorRecord m opcode 0).reply m rcUnsupported []
  else if (size ≠ 4 ∧ size ≠ 8) ∨ pnum payload 5 3 ≠ 0 then s.vendorRefuse m opcode 6
  else f s

/-- R454, R455. REG_READ (C000h). -/
def execRegRead (m : Master) (payload : List (BitVec 8)) (s : State) : Res :=
  s.vendor m 0xC000 8 payload fun s => s.regCommand m 0xC000 payload fun s =>
    let r := s.busRead m (pnum payload 0 4) (pnum payload 4 1)
    r.1.vendorOk m (padTo 8 r.2)

/-- R454, R455. REG_WRITE (C001h). -/
def execRegWrite (m : Master) (payload : List (BitVec 8)) (s : State) : Res :=
  s.vendor m 0xC001 16 payload fun s => s.regCommand m 0xC001 payload fun s =>
    let size := pnum payload 4 1
    let be : BitVec 64 := BitVec.ofNat 64 (2 ^ size - 1)
    (s.busWrite m (pnum payload 0 4) size be (BitVec.ofNat 512 (pnum payload 8 size))).vendorOk m []

/-- R454. The attribute value a REGION_SET_ATTR asks for: the fields of its mask, the others as they are. -/
def State.attrAsked (s : State) (payload : List (BitVec 8)) : Nat :=
  let n := pnum payload 0 1
  let mask := pnum payload 1 1
  let old := s.shdW bXl (0x404 + 0x10 * n)
  let pick (i off lo len : Nat) : Nat := (if mask.testBit i then pnum payload off 1 else bits old lo len) <<< lo
  pick 0 2 0 2 + pick 1 3 2 1 + pick 2 4 8 2

/-- R118, R394, R455, R539. REGION_SET_ATTR (C010h): every copy of the region entry, or CONFIG_AT_FN for a mirrored region on a
joined lead. It wakes the module from Moored. -/
def execRegionSetAttr (m : Master) (payload : List (BitVec 8)) (s : State) : Res :=
  s.vendor m 0xC010 8 payload fun s0 =>
    let s := s0.mboxWake
    let n := pnum payload 0 1
    let r := s.region bXl n
    let mask := pnum payload 1 1
    let v := s.attrAsked payload
    let allow := s.actW bXl (0x408 + 0x10 * n)
    let fieldBad := (mask.testBit 0 && decide (4 ≤ pnum payload 2 1)) || (mask.testBit 1 && decide (2 ≤ pnum payload 3 1))
      || (mask.testBit 2 && decide (4 ≤ pnum payload 4 1))
    let allowed := (!mask.testBit 0 || regAllows allow 0 (v % 4)) && (!mask.testBit 1 || regAllows allow 1 (v / 4 % 2))
      && (!mask.testBit 2 || regAllows allow 2 (v / 256 % 4))
    let mirror := s.mirrored bXl n
    if 64 ≤ n || 8 ≤ mask || fieldBad || pnum payload 5 3 != 0 || !r.valid then s.vendorRefuse m 0xC010 6
    else if !pathAny m && s.owner r != pathHead m then s.vendorRefuse m 0xC010 5
    else if mirror && (s.fry.role == .follower || s.fry.pstate == .stranded) then s.vendorRefuse m 0xC010 2
    else if !allowed then s.vendorRefuse m 0xC010 1
    else if mirror && s.joined && s.isLead then
      if s.fry.atFn.isSome then s.vendorRefuse m 0xC010 3
      else
        let s1 := s.proposeAtFn 1 n v
        { s1 with mbox := { s1.mbox with owed := some (m, 0xC010) } }
    else (s.regionAttr n v).vendorOk m (leBytes 6 (s.tt.fn + 1) ++ leBytes 1 0)

/-- R77, R454, R455. MAP_SELECT (C020h): refused with DETAIL 1 when R77 would refuse the map. -/
def execMapSelect (m : Master) (payload : List (BitVec 8)) (s : State) : Res :=
  s.vendor m 0xC020 4 payload fun s =>
    let k := pnum payload 0 1
    let ok := (s.actW bTt 0x028).getLsbD k && (mapFault (s.tt.maps.getD k [])).isNone
    if 3 ≤ k ∨ pnum payload 1 3 ≠ 0 then s.vendorRefuse m 0xC020 6
    else if !ok then s.vendorRefuse m 0xC020 1
    else ((s.writeRs bTt 0x020 .plain (BitVec.ofNat 32 k) 3#32).strobe 2#32).vendorOk m (leBytes 6 (s.tt.fn + 1))

/-- R454, R603. CENSUS_CTRL (C040h): the window exponent, the sampler exponent, the enable and the user-map grant. -/
def execCensusCtrl (m : Master) (payload : List (BitVec 8)) (s : State) : Res :=
  s.vendor m 0xC040 4 payload fun s =>
    let k := pnum payload 0 1
    let n := pnum payload 1 1
    let f := pnum payload 2 1
    if k < 8 ∨ 24 < k ∨ (n ≠ 0 ∧ (n < 4 ∨ 24 < n)) ∨ 4 ≤ f ∨ pnum payload 3 1 ≠ 0 then s.vendorRefuse m 0xC040 6
    else
      let v := f + 2 ^ 8 * k + 2 ^ 16 * n
      ((s.writeRs bCen 0x010 .plain (BitVec.ofNat 32 v) 0x1f1f03#32).strobe 0x1000#32).vendorOk m []

/-- R447, R453. The vendor command of an opcode, over the SPDM path; another opcode is Unsupported. -/
def State.vendorCommand (s : State) (session opcode : Nat) (payload : List (BitVec 8)) : Res :=
  match opcode with
  | 0xc000 => execRegRead .spdm payload s
  | 0xc001 => execRegWrite .spdm payload s
  | 0xc010 => execRegionSetAttr .spdm payload s
  | 0xc020 => execMapSelect .spdm payload s
  | 0xc021 => execPowerClassSet .spdm payload s
  | 0xc030 => execRecalibrate .spdm payload s
  | 0xc040 => execCensusCtrl .spdm payload s
  | 0xc050 => execBargeDoorbell .spdm payload s
  | 0xc060 => execKeyRekey .spdm session payload s
  | 0xc061 => execKeyFormat .spdm session payload s
  | 0xc070 => execPairStatus .spdm payload s
  | 0xc071 => execPairPromote .spdm payload s
  | 0xc072 => execPairDemote .spdm payload s
  | 0xc073 => execPairHandover .spdm payload s
  | 0xc074 => execPairDetach .spdm payload s
  | 0xc075 => execPairAttach .spdm payload s
  | 0xc076 => execPairResyncRate .spdm payload s
  | _ => s.serve .spdm true fun s => s.reply .spdm rcUnsupported []

/-- R328, R340, R447, R455. VENDOR_DEFINED_REQUEST on a connection, inside a session or outside one (0). A Crypto Officer command
outside the officer's session records CO_AUTH_FAIL with cause 2, and is then refused as R455 says. -/
def execVendorDefinedRequest (path session opcode : Nat) (payload : List (BitVec 8)) (s0 : State) : Res :=
  let s := s0.begin
  if s.spdmUp path = false then .next s
  else if !(s.conn path).up then .next (s.spdmError path 4)
  else if session ≠ 0 ∧ (s.spdmSession path session).isNone = true then .next (s.spdmError path 0x0b)
  else
    let answered := if path < 2 then s.modHp path fun p => { p with doeBusy := false }
      else if path = 2 then { s with mbox := { s.mbox with mctpBusy := false } } else s
    let officer := (opcode == 0xc060 || opcode == 0xc061) && !s.coSession session
    let noted := answered.gate officer fun s => s.record bSec 293 0x0942 .warning [(1, pathTransport path), (1, 2)]
    match noted.vendorCommand session opcode payload with
    | .next t => .next (t.gate (decide (path < 2)) fun t => t.emit (.msix path 5))
    | r => r

end Sys2Proof.Machine
end

