-- ==== Sys2Proof/Machine/Tick.lean ====
section
/-!
DEFINITION. The frame tick (R63) and all that happens at it: the records of the frame that ends, the census window, FN,
update groups, beat map, power class, die exclusions, references, gap moves, generations, the pair, durability and load of
the heads, write-back gating, and the steps of a hold-up flush.
-/
namespace Sys2Proof.Machine

/-! ### The frame that ends (R581, R585, R594, R622) -/

/-- R622. Occurrences of a code in the frame. -/
def State.tallied (s : State) (code src who : Nat) : Nat := s.tele.frameCounts.getD ((code * 512 + src) * 16 + who) 0

/-- R264, R298, R434. The record of one count of the frame: corrections and mitigations. -/
def State.tallyRecord (s : State) (key n : Nat) : State :=
  let src := key / 16 % 512
  let code := key / 8192
  let last := s.tallied code src 15
  if key % 16 = 15 then s
  else if code = 0x0801 then
    s.record (((List.range 54).find? fun b => blkSource b == src).getD bEvq) src code .info [(1, last), (4, n)]
  else if code = 0x0811 then s.record (bDrc ((src - 144) / 10)) src code .info [(4, n), (5, last)]
  else if code = 0x0B11 then s.record (bDrc ((src - 144) / 10)) src code .info [(1, last % 256), (4, last / 256), (4, n)]
  else s

/-- R258, R332, R367, R622. The records of one head: locked accesses, refused mirrored writes, unexplained excursions. -/
def State.headRecords (s : State) (h : Nat) : State :=
  let rd := s.tallied 0x0952 294 (2 * h)
  let wr := s.tallied 0x0952 294 (2 * h + 1)
  let d := s.head h
  let s1 := s.gate (decide (0 < rd + wr)) fun s => s.record (bHp h) 294 0x0952 .warning [(1, h), (4, rd), (4, wr)]
  let s2 := match s.fry.refusedNow.get? h with
    | some (n, a) => s1.record (bHp h) 274 0x0A21 .error [(1, h), (6, a), (4, n)]
    | none => s1
  s2.gate (decide (0 < d.unexplained)) fun s =>
    (s.record (bHp h) (248 + 12 * h + 5) 0x0701 .error [(1, d.unexplainedRow), (4, d.unexplainedNs), (4, d.unexplained)]).modHead h
      fun d => { d with faultUntil := s.tt.fn + 1 + 2 ^ 24, unexplained := 0 }

/-- R581, R626. EVENTS_DROPPED, which bypasses the holds, and the counts of the frame that EVQ_RATE shows. -/
def State.droppedRecord (s : State) : State :=
  let e := s.tele.evq
  let rs := if e.frameDropped = 0 then []
    else mkRecords s.tt.fn 381 0x1111 .warning [(4, e.frameDropped), (4, e.frameSources.length), (2, e.frameSources.headD 0)]
  let e1 := { e with
    direct := e.direct ++ rs, frameDropped := 0, frameSources := []
    takenLast := e.takenNow, takenMax := max e.takenMax e.takenNow, takenNow := 0 }
  (({ s with tele := { s.tele with evq := e1 } } : State).count bEvq 4 rs.length).count bEvq 0x41 e.frameDropped

/-- R594. Work is queued that a channel could carry. -/
def State.workQueued (s : State) (c : Nat) : Bool :=
  (s.cache.landing.any fun l => l.2.st == .ready)
    || (s.media.rewrites.any fun w => w.mch == c && w.slot.isNone)
    || (s.media.reads.any fun m => m.beat.isNone && m.chans.contains c)

/-- R87, R594. The beats of the frame that carried nothing: back-blocked with work queued, otherwise front-starved (log entry 132). -/
def State.beatRest (s : State) (c : Nat) : State :=
  let sum := (List.range 7).foldl (fun n k => n + s.cen.beats.getD (c * 8 + k + 1) 0) 0
  let rest := 96 - (sum - s.cen.beatsAt.getD c 0)
  s.gate (s.live (bMch c) && !(s.mch c).failed) fun s =>
    let s1 := s.beat c (if s.workQueued c then 6 else 7) rest
    { s1 with cen := { s1.cen with beatsAt := s1.cen.beatsAt.set c (sum + rest) } }

/-- R585, R586. Count in block `b` a number of occurrences below `m` that the spec does not determine (log entries 2, 53, 101). -/
def State.countFree (s : State) (b e m : Nat) : State :=
  ({ s with draws := s.draws + 1 } : State).count b e ((Config.draw s.draws).toNat % m)

/-- R534, R586. What a frame counts that rows do not tell: the cycles in which a block's clocks were gated, in IDLE, and the
transfers, inter-quadrant transfers and back-pressured port cycles of the Square. -/
def State.freeCounts (s : State) : State :=
  let s1 := s.gate (s.pwr.state == 3) fun s => ((List.range 54).filter s.live).foldl (fun s b => s.countFree b 3 1025) s
  [0x40, 0x41, 0x43].foldl (fun s e => s.countFree bSq e (2 ^ 32)) s1

/-- R586, R587. Events that count time: cycles, and frames in a state. -/
def State.timeCounts (s0 : State) : State :=
  let s := s0.freeCounts
  let s1 := ((List.range 54).filter s.live).foldl (fun s b => s.count b 1 1024) s
  let s2 := ((List.range 16).filter fun n => s.holdDirty n).foldl (fun s n => s.count (bCs n) 0x47 1024) s1
  let s3 := ([0, 1].filter fun h => (s.head h).devload == 3).foldl (fun s h => s.countHp h 0x47 1) s2
  let s4 := s3.count bTt 0x47 (if s.tt.excluded == 0 then 0 else 16)
  (s4.count bPwr 0x40 (b2n s.pwr.gated)).count bPwr 0x41 (b2n s.pwr.onBank)

/-- R88, R249. Writes that wait for a crossing whose die number was excluded in the frame count under cause 3. -/
def State.excludeDelays (s : State) : State :=
  let waits (l : Landing) : Bool :=
    l.waits && (l.st == .filling || l.st == .ready) && s.tt.excluded.getLsbD (dieOf (s.landingPsn l))
  { s with cache := { s.cache with landing := s.cache.landing.map fun p => (p.1, if waits p.2 then p.2.delay 8#8 else p.2) } }

/-- What the frame that ends leaves to record and to count, with its own FN. -/
def State.frameEnd (s0 : State) : State :=
  let s := (s0.mirrorSend false).excludeDelays
  let s1 := s.tele.frameCounts.foldl (fun s p => s.tallyRecord p.1 p.2) s
  let s2 := ((s1.headRecords 0).headRecords 1).droppedRecord
  let s3 := ((List.range 18).foldl State.beatRest s2).timeCounts
  { s3 with
    tele := { s3.tele with frameCounts := [], frameOnce := [] }
    cen := { s3.cen with flushSeen := s3.cen.flushSeen || s3.pwr.flush.isSome }
    fry := { s3.fry with refusedNow := [], admitted := 0, resyncNow := 0 }
    integ := { s3.integ with logicalNow := 0 }
    mnt := { s3.mnt with bargeNow := 0 } }

/-! ### FN (R65, R377) -/

/-- R65, R377. The FN of the frame that begins: one more, or the FN of a join's step. -/
def State.nextFn (s : State) : Nat := match s.fry.joinFn with
  | some (t, j) => if t ≤ s.tt.fn + 1 then max j (s.tt.fn + 1) else s.tt.fn + 1
  | none => s.tt.fn + 1

/-- R65, R86, R377. FN advances, and the starts of earlier frames are forgotten. -/
def State.fnAdvance (s : State) : State :=
  let fn := s.nextFn
  let steps := match s.fry.joinFn with
    | some (t, _) => decide (t ≤ s.tt.fn + 1)
    | none => false
  let s1 : State := { s with tt := { s.tt with fn := fn, cyc := 0, skip := s.tt.skip + (fn - (s.tt.fn + 1)) } }
  let base := s1.frame * 16
  let s2 : State := { s1 with tt := { s1.tt with
    starts := s1.tt.starts.filter fun p => decide (base ≤ p.1)
    hostStarts := s1.tt.hostStarts.filter fun p => decide (base ≤ p.1)
    cwSlots := s1.tt.cwSlots.filter fun u => decide (base ≤ u) } }
  s2.gate steps fun s0 =>
    let s3 : State := { s0 with fry := { s0.fry with joinFn := none, joinStep := 6 } }
    s3.record bTt 368 0x0341 .info [(6, s.tt.fn), (6, fn), (1, 1)]

/-- R361, R364, R344. The lead's bell, ahead of every other message; the time from the tick to its launch is not stated (log
entry 2). -/
def State.bell (s : State) : State :=
  s.gate (s.fry.rate != 0 && s.isLead && !s.sec.error
      && (s.joined || (s.fry.pstate == .joining && decide (4 ≤ s.fry.joinStep)))) fun s =>
    ({ s with draws := s.draws + 1 } : State).ferry 3
      [b2n (s.fry.rate == 1), s.tt.fn, (Config.draw s.draws).toNat % 2 ^ 32, s.fry.delay] []

/-! ### The census window (R592, R593) -/

/-- R592, R593. A window that ends with the frame, or that a change of ENABLE or K cuts short, is latched with the values at the
start of the tick. `old` is the FN of the frame that ends. -/
def State.censusTick (s : State) (old0 : Nat) : State :=
  let old := s.cen.lateFrom.getD old0
  let after := s.activateGroups s.tt.fn
  let on := after.regF bCen 0x010 0 1 == 1
  let k := after.censusK
  let c := s.cen
  let ends := s.tt.fn / 2 ^ c.k != old / 2 ^ c.k
  let short := c.running && !ends && (!on || k != c.k)
  let s1 := s.gate (c.running && (ends || short)) fun s => s.censusLatch s.tt.fn short
  let s2 : State := { s1 with cen := { s1.cen with running := on, k := k, lateFrom := none } }
  let s3 : State := if on && !c.running then { s2 with cen := { s2.cen with
    startFn := s.tt.fn, bw := [], beats := [], beatsAt := [], mapChanged := false, clsChanged := false, flushSeen := false } } else s2
  s3.gate (c.running != on || k != c.k) fun s =>
    s.record bCen 373 0x1103 .info [(1, c.k), (1, k), (1, b2n on), (4, if short then c.seq + 1 + b2n c.gathering else 0)]

/-- R97, R99. The close of a window that a late task leaves to the next tick. -/
def State.censusLate (s : State) (old : Nat) : State :=
  { s with cen := { s.cen with lateFrom := some (s.cen.lateFrom.getD old) } }

/-! ### Update groups (R45, R119) -/

/-- R119, R624. The mask of the region copies of region `n` that differ from XL's. -/
def State.regionDiffers (s : State) (n : Nat) : Nat :=
  let words (b : Nat) : List Word := (List.range 3).map fun i => s.actW b (0x400 + 16 * n + 4 * i)
  let taking := ((List.range 19).map fun i => i + 3).filter fun b => s.live b && !(decide (5 ≤ b) && decide (b < 21) && (s.cs (b - 5)).removed)
  taking.foldl (fun m b => m + 2 ^ (b - 3) * b2n (words b != words bXl)) 0

/-- R119. At an activation of group 3, XL compares the region tables. -/
def State.compareRegions (s : State) : State :=
  let found := (List.range 64).filter fun n => s.regionDiffers n != 0
  let s1 := (found.filter fun n => !s.xl.mismatch.contains n).foldl
    (fun s n => s.record bXl 372 0x0402 .error [(1, n), (3, s.regionDiffers n)]) s
  { s1 with xl := { s1.xl with mismatch := found } }

/-- R45, R119. The strobed groups activate. -/
def State.groupTick (s : State) : State :=
  (s.activateGroups s.tt.fn).gate (s.regs.pendingGroups.getLsbD 3 && s.live bXl) State.compareRegions

/-! ### TT (R77, R79, R87, R88, R100, R105) -/

/-- R77, R78. Another map comes into force; CARRY tells whether reads of the last slot still transfer. -/
def State.mapTo (s : State) (m : Nat) : State :=
  let carried := s.media.reads.any fun r =>
    r.beat.isSome && r.slot + 1 == s.frame * 16 && r.chans.any fun c => !r.got.contains c
  let s1 : State := { s with
    tt := { s.tt with map := m, carry := carried }
    cen := { s.cen with mapChanged := true } }
  (s1.count bTt 0x44 1).record bTt 370 0x0301 .info [(1, s.tt.map), (1, m)]

/-- R77. TT_MAP_SEL was written and its group activates. During a Sanitize the selection waits for its end. -/
def State.mapSelect (s : State) : State :=
  let m := s.regF bTt 0x020 0 2
  let allow := s.actW bTt 0x028
  if m = 3 ∨ allow.getLsbD m = false then s.record bTt 370 0x0303 .warning [(1, m), (4, allow.toNat)]
  else match mapFault (s.tt.maps.getD m []) with
    | some (n, b) => s.record bTt 370 0x0302 .warning [(1, m), (1, n), (1, b)]
    | none => if s.tt.kept.isSome then { s with tt := { s.tt with kept := some m } } else s.mapTo m

/-- R77, R79, R336. The map of the frame that begins. `group1` tells that group 1 activated at this tick. -/
def State.mapTick (s0 : State) (group1 : Bool) : State :=
  let s : State := { s0 with tt := { s0.tt with carry := false, selected := s0.tt.selected && !group1 } }
  if s.tt.flushMapDue then
    let s1 := s.mapTo 3
    { s1 with
      tt := { s1.tt with forced := true, flushMapDue := false, kept := none }
      cen := { s1.cen with clsChanged := s1.cen.clsChanged || s1.pwr.onBank } }
  else if s.tt.forced then s
  else
    let s1 := s.gate (group1 && s0.tt.selected) State.mapSelect
    match s1.tt.kept, s1.sec.erase == some 0 with
    | none, true =>
      let s2 : State := { s1 with tt := { s1.tt with kept := some s1.tt.map } }
      s2.gate (s2.tt.map != 2) fun s => s.mapTo 2
    | some m, false =>
      let s2 : State := { s1 with tt := { s1.tt with kept := none } }
      s2.gate (s2.tt.map != m) fun s => s.mapTo m
    | _, _ => s1

/-- R541. The class that PWR_CLASS.REQ asks for, when it may have it; otherwise the class in force. -/
def State.classWanted (s : State) : Nat :=
  let req := s.regF bPwr 0x014 0 2
  let none := req == 0 && s.pwr.slotLimit != 0 && (s.classBest 3).isNone
  if decide (req < 3) && ((s.classAllowed req && s.classFits req) || none) then req else s.tt.cls

/-- R87, R422, R541. A lower class takes its caps at once, and the DRAM change follows; a change up from 40 W waits for the DRAM
change. DRAM runs at 4800 (SPEED 1) at 40 W. -/
def State.classTick (s : State) : State :=
  let want := s.classWanted
  let cur := s.tt.cls
  let speed := b2n (want == 0)
  let target := if (s.freqNext speed).isSome then some speed else none
  if s.pwr.flush.isSome then s
  else
    let s1 : State := { s with mnt := { s.mnt with
      freqTarget := target, waiting := if target.isNone then s.mnt.waiting.erase 9 else s.mnt.waiting } }
    s1.gate (decide (want < cur) || (decide (cur < want) && (cur != 0 || target.isNone))) fun s =>
      let s2 : State := { s with
        tt := { s.tt with cls := want }
        pwr := { s.pwr with cls := want }
        cen := { s.cen with clsChanged := true } }
      s2.record bPwr 304 0x0F03 .info [(1, cur), (1, want), (6, s.tt.fn)]

/-- R14. A board temperature in °C: sensor 0 at the inlet, 1 at the outlet. -/
def State.boardTemp (s : State) (k : Nat) (t : Int) : State :=
  { s with pwr := if k = 0 then { s.pwr with inlet := t } else { s.pwr with outlet := t } }

/-- R88, R612. The readings of the frame: those of the board (channel 18) and of the controller's sensors (19), each die's temperature, and
its sum over time. -/
def State.tempTick (s : State) (temps : List (Nat × Nat × Int)) (frames : Nat) : State :=
  let sb := (temps.filter fun t => t.1 == 18).foldl (fun s t => s.boardTemp t.2.1 t.2.2) s
  let s0 : State := { sb with pwr := { sb.pwr with
    junctions := (temps.filter fun t => t.1 == 19 && decide (t.2.1 < 12)).foldl (fun m t => m.set t.2.1 t.2.2) sb.pwr.junctions } }
  let s1 := (temps.filter fun t => decide (t.1 < 18) && decide (t.2.1 < 8)).foldl
    (fun s t => s.modMch t.1 fun m => { m with temps := m.temps.set t.2.1 t.2.2 }) s0
  { s1 with media := { s1.media with mchs := s1.media.mchs.map fun p =>
      (p.1, { p.2 with tempSum := p.2.temps.foldl (fun m t => Kv.mod m t.1 0 (· + t.2 * frames)) p.2.tempSum }) } }

/-- R88, R548. Die number `d` is excluded from new write starts, or no longer: from 83 °C on any channel to 78 °C on every
one; in a flush, at 85 °C. -/
def State.excludeTick (s : State) (d : Nat) : State :=
  let chans := (List.range 18).filter fun c => s.live (bMch c) && !(s.mch c).failed
  let temp (c : Nat) : Int := (s.mch c).temps.getD d 0
  let limit : Int := if s.pwr.flush.isSome then 85 else 83
  let clear : Int := if s.pwr.flush.isSome then 84 else 78
  let bit := BitVec.ofNat 8 (2 ^ d)
  match s.tt.excluded.getLsbD d, chans.find? fun c => decide (limit ≤ temp c) with
  | false, some c =>
    ({ s with tt := { s.tt with excluded := s.tt.excluded ||| bit } } : State).record bTt 371 0x0331 .warning
      [(1, d), (1, c), (2, signed 2 (temp c))]
  | true, _ =>
    s.gate (chans.all fun c => decide (temp c ≤ clear)) fun s =>
      ({ s with tt := { s.tt with excluded := s.tt.excluded &&& ~~~bit } } : State).record bTt 371 0x0332 .info [(1, d)]
  | _, _ => s

/-- R104, R105, R107. A return to XO_MAIN or a forced switch to XO_BACKUP. -/
def State.oscTick (s : State) : State :=
  let s1 : State := { s with tt := { s.tt with returnReq := false, forceReq := false } }
  if s.tt.returnReq ∧ s.tt.src = .backup ∧ s.tt.mainOk then
    ({ s1 with tt := { s1.tt with src := .main } } : State).record bTt 369 0x0323 .info []
  else if s.tt.forceReq ∧ s.tt.src = .main ∧ s.tt.backupOk then
    ({ s1 with tt := { s1.tt with src := .backup } } : State).record bTt 369 0x0321 .warning [(1, 0), (1, 3)]
  else s1

/-- R100. Frames whose tasks overran: FAULT 2 after 4 in a row, until 64 in a row did not. -/
def Tt.overrunTick (t : Tt) : Tt :=
  let run := if t.overrunNow then t.overrunRun + 1 else 0
  let clean := if t.overrunNow then 0 else t.cleanRun + 1
  { t with
    overrunNow := false, overrunRun := min run 4, cleanRun := min clean 64
    overrunFault := decide (4 ≤ run) || (t.overrunFault && decide (clean < 64)) }

/-- What TT does at the tick. `group1` tells that group 1 activated. -/
def State.ttTick (s : State) (group1 : Bool) (temps : List (Nat × Nat × Int)) (frames : Nat) : State :=
  let s1 := (((s.mapTick group1).classTick).tempTick temps frames)
  let s2 := ((List.range 8).foldl State.excludeTick s1).oscTick
  { s2 with tt := s2.tt.overrunTick }

/-! ### Translation, media, keys and cache (R124, R215, R312, R475) -/

/-- R475. The repaver takes its batch of the frame, and its districts are FROZEN. -/
def State.batchTick (s : State) : State :=
  let b := if s.enginesRun then s.repaverBatch else []
  let s1 : State := { s with
    sec := { s.sec with batch := b.length }
    xl := { s.xl with districts := s.xl.districts.map fun p => (p.1, { p.2 with frozen := false }) } }
  b.foldl (fun s l => s.modDistrict (distOf l).1 fun x => { x with frozen := true }) s1

/-- R166, R167. What the slices note at the tick that starts a frame. -/
def State.sliceTick (s : State) (n : Nat) : State :=
  s.modCs n fun c => { c with
    dirtyAtTick := s.dirtyPages n, freeAtTick := 512 - s.landingUsed n, limitRecorded := false, fullRecorded := false }

/-- Table changes that take effect at the tick. `journalOk` tells that the journal records are written, `late` that the commit of moves
completes in the next frame. -/
def State.tableTick (s : State) (journalOk late : Bool) : State :=
  let s1 := (s.gate (!late) fun s => s.commitMoves journalOk).substituteDies
  let s2 := ((s1.sec.slots.map fun p => p.1).foldl State.genAdvance s1).batchTick
  (List.range 16).foldl State.sliceTick s2.rangeGoOn

/-! ### The pair (R384, R394, R396) -/

/-- R384. A handover whose drain took more than 20 µs is given up. -/
def State.handoverTick (s : State) : State :=
  match s.fry.handover with
  | some t => s.gate (s.fry.handoverFn.isNone && decide (t + 20000 < s.ns)) fun s =>
      { s with fry := { s.fry with handover := none } }
  | none => s

/-- What FRY does at the tick. -/
def State.fryTick (s : State) : State :=
  (((s.handoverTick.pairTick).gate (!s.joined) State.peerGone).atFnTick).bargeTick

/-! ### Gating, durability and load (R243, R244, R256, R544) -/

/-- R237, R243. Gating begins: each slice destages what is dirty, and what the landing buffer holds counts as accepted in this frame. -/
def State.gateBegin (s : State) (cause : Nat) : State :=
  let open' (l : Landing) : Bool := l.busy && l.st != .released && l.kind == .host
  let s1 : State := { s with
    pwr := { s.pwr with gated := true, gateCause := cause, gateFn := s.tt.fn }
    cache := { s.cache with landing := s.cache.landing.map fun p =>
      (p.1, if open' p.2 then { p.2 with minAcc := some (p.2.minAcc.getD s.tt.fn) } else p.2) } }
  let dirty (n : Nat) : List Nat :=
    (s1.cache.ways.filter fun p => s1.sliceOf (p.1 / 8) == n && p.2.isDirty).map fun p => p.2.lpn
  let s2 : State := (List.range 16).foldl (fun s n => s.modCs n fun c => { c with gateOwed := dirty n })
    { s1 with cache := { s1.cache with gateOrd := s1.cache.nextOrd } }
  s2.record bPwr 323 0x0F31 .warning [(1, cause), (4, s.eU), (4, s.eBegin)]

/-- R544. Gating begins or lifts at the tick after a frame in which its condition held. -/
def State.gateTick (s : State) (vres : Nat) : State :=
  let s1 : State := { s with pwr := { s.pwr with vres := vres } }
  if s1.pwr.gated then
    s1.gate s1.liftCond fun s =>
      ({ s with pwr := { s.pwr with gated := false, gateCause := 0 } } : State).record bPwr 323 0x0F32 .info [(4, s.eU), (4, s.eLift)]
  else s1.gate (s1.gateCond != 0) fun s => s.gateBegin s.gateCond

/-- R243. The lowest acceptance FN among the writes whose crossings have not committed, while gating is in force. -/
def State.lowestOpen (s : State) : Option Nat :=
  let es := s.cache.landing.filterMap fun p => if p.2.busy && p.2.st != .released then p.2.minAcc else none
  let owed := (List.range 16).any fun n => (s.cs n).gateOwed.any s.dirtyHere
  let all := if owed then s.pwr.gateFn :: es else es
  all.min?

/-- R243, R344. MEDIA_DURABLE_FN of both heads; it never falls, and stops in the error state. -/
def State.mediaFnTick (s : State) : State :=
  let f := s.tt.fn - 1
  let v := if s.pwr.gated then
      match s.lowestOpen with
      | some e => min f (e - 1)
      | none => f
    else f
  s.gate (!s.sec.error) fun s =>
    ([0, 1].foldl (fun s h => s.modHead h fun d => { d with mediaFn := max d.mediaFn v }) s).pairUpdate

/-- R256. The condition of a Severe frame, in the order of R256; none when none holds. `load` tells of the ingress buffer that
it was more than so many percent full. -/
def severeCond (load : Nat → Bool) (wait : Nat) (hold : Bool) : Option Nat :=
  if load 90 then some 0 else if 4096 ≤ wait then some 1 else if hold then some 2 else none

/-- R255, R256, R262. The load of one head in the frame that ended. -/
def State.loadTick (s : State) (h : Nat) : State :=
  let d := s.head h
  let mine := s.cache.waiting.filter fun r => r.head == some h
  let queued := s.ingress h
  let reads := queued.countP fun r => r.kind == .read
  let wait := mine.foldl (fun w r => max w (s.ns - r.recv - r.wake)) d.waitNow
  let some' := d.anyWait || !mine.isEmpty
  let hold := (List.range 16).any fun n => s.holdDirty n
  let load (p : Nat) : Bool :=
    let caps := if s.dual then (512, 256) else (1024, 512)
    decide (p * caps.1 < 100 * d.reqMax) || decide (p * caps.2 < 100 * d.rwdMax)
  let cond := severeCond load wait (d.holdSeen || hold)
  let level := if cond.isSome then 3 else if load 50 || decide (256 ≤ wait) then 2 else if load 25 || some' then 1 else 0
  let s1 := s.modHead h fun d => { d with
    devload := level, waitMax := wait, waitNow := 0, anyWait := !mine.isEmpty, reqMax := reads, rwdMax := queued.length - reads
    holdSeen := hold, belowSevere := if level = 3 then 0 else min 64 (d.belowSevere + 1) }
  s1.gate (level == 3 && decide (64 ≤ d.belowSevere)) fun s =>
    s.record (bHp h) (248 + 12 * h + 5) 0x0702 .warning [(1, cond.getD 0), (4, wait)]

/-- What the heads do at the tick; `late` tells that the durable FNs are updated in the next frame. -/
def State.headTick (s : State) (vres : Nat) (late : Bool) : State :=
  let s1 := (s.gateTick vres).gate (!late) State.mediaFnTick
  ([0, 1].filter fun h => s1.headUsed h && s1.live (bHp h)).foldl State.loadTick s1

/-! ### Maintenance (R75, R470, R472) -/

/-- R470. The backlog is above its limit at a tick: R75 applies from the next, until the tick after it reaches 0. -/
def State.backlogTick (s : State) (backlog busiest : Nat) : State :=
  let m := s.mnt
  let on := decide (0 < backlog) && (m.r75 || m.r75Due)
  let s1 : State := { s with mnt := { m with
    backlog := backlog, r75 := on, r75Due := !on && decide (s.regF bMnt 0x024 0 16 < backlog) } }
  s1.gate (on && !m.r75) fun s => s.record bMnt 337 0x0D11 .warning [(4, backlog), (1, busiest)]

/-- R472. The wake for row bands ends once none is due within 48 h. -/
def State.wakeTick (s : State) : State :=
  s.gate (s.mnt.refreshWake && (s.bandsDue 48).isEmpty) fun s => { s with mnt := { s.mnt with refreshWake := false } }

/-! ### The hold-up flush (R548) -/

/-- R548 step 4. Everything the destage of a flush started has committed; in the error state nothing is left to destage. -/
def State.flushDestaged (s : State) : Bool :=
  s.sec.error || (s.media.crossings.isEmpty && !(s.cache.ways.any fun p => p.2.isDirty)
    && !(s.cache.landing.any fun p => p.2.busy && p.2.st != .released))

/-- R548 steps 2 to 4 at the tick: map 3 is in force, the DRC write queues drain, the module leaves the pair, and the destage ends. -/
def State.flushTick (s : State) : State :=
  let goTo (s : State) (n : Nat) : State :=
    { s with pwr := { s.pwr with flush := s.pwr.flush.map fun f => { f with step := n } } }
  match s.pwr.flush with
  | none => s
  | some f =>
    if f.step = 1 then
      let s1 := [0, 1, 2, 3].foldl (fun s c => [0, 1].foldl (fun s u => (s.wakeSub c u).drainWrites c u) s) s
      goTo (s1.leavePair false) 3
    else if f.step = 3 then s.gate s.fry.resign.isNone fun s => goTo s 4
    else if f.step = 4 then s.gate s.flushDestaged fun s => goTo s 5
    else s

/-! ### The command -/

/-- R97, R99. The tick in the order in which its parts depend on one another. A task that overran is done at the next tick, with the FN of
that frame: its effect waits, and none is skipped. FN itself, the snapshot and the miss counts are always current here (log entry 130). -/
def State.frameTick (s0 : State) (temps : List (Nat × Nat × Int)) (vres : Nat) (journalOk : Bool) (backlog busiest : Nat) : State :=
  let late (i : Nat) : Bool := s0.tt.late.getLsbD i
  let s := s0.frameEnd
  let group1 := s.regs.pendingGroups.getLsbD 1 && !late 1
  let s1 := s.fnAdvance.gate (!late 2) State.bell
  let s1a := if late 7 then s1.censusLate s.tt.fn else s1.censusTick s.tt.fn
  let s2 := (((List.range 54).filter s1a.live).foldl (fun s b => s.count b 2 1) s1a).gate (!late 1) State.groupTick
  let s3 := (s2.ttTick group1 temps (s2.tt.fn - s.tt.fn)).tableTick journalOk (late 4)
  let s4 := ((s3.fryTick).headTick vres (late 3)).backlogTick backlog busiest
  let s5 := ((s4.wakeTick).flushTick).alertTick
  { s5 with pwr := { s5.pwr with uptimeNs := s5.pwr.uptimeNs + 4096 }, tt := { s5.tt with late := 0 } }

/-- R63. FRAME_TICK, while TT is powered. -/
def execFrameTick (temps : List (Nat × Nat × Int)) (vres : Nat) (journalOk : Bool) (backlog busiest : Nat) (s0 : State) : Res :=
  let s := s0.begin
  .next (s.gate (s.live bTt) fun s => s.frameTick temps vres journalOk backlog busiest)

end Sys2Proof.Machine
end

