-- ==== Sys2Proof/Machine/Dispatch.lean ====
section
/-!
DEFINITION. One arm per command: the meaning it calls.
-/
namespace Sys2Proof.Machine

def exec (i : Instr) (s : State) : Host.Outcome State Fault Refusal :=
  match i with
  | .registerWrite m off size be value => Sys2Proof.Machine.execRegisterWrite m off size be value s
  | .setAliasWrite m off size be value => Sys2Proof.Machine.execSetAliasWrite m off size be value s
  | .clearAliasWrite m off size be value => Sys2Proof.Machine.execClearAliasWrite m off size be value s
  | .toggleAliasWrite m off size be value => Sys2Proof.Machine.execToggleAliasWrite m off size be value s
  | .postedWrite m off size be value => Sys2Proof.Machine.execPostedWrite m off size be value s
  | .postedWriteAccept block => Sys2Proof.Machine.execPostedWriteAccept block s
  | .postedWriteTimeout block => Sys2Proof.Machine.execPostedWriteTimeout block s
  | .groupStrobe master mask => Sys2Proof.Machine.execGroupStrobe master mask s
  | .qpush master q word size => Sys2Proof.Machine.execQpush master q word size s
  | .qpushEnd master q word size => Sys2Proof.Machine.execQpushEnd master q word size s
  | .qpop master q size => Sys2Proof.Machine.execQpop master q size s
  | .queueFlush master q => Sys2Proof.Machine.execQueueFlush master q s
  | .cntLowRead master block n => Sys2Proof.Machine.execCntLowRead master block n s
  | .ttFnLoRead master => Sys2Proof.Machine.execTtFnLoRead master s
  | .counterWrap block n inc => Sys2Proof.Machine.execCounterWrap block n inc s
  | .frameTick temps vres journalOk backlog busiest => Sys2Proof.Machine.execFrameTick temps vres journalOk backlog busiest s
  | .crossingGrant cyc work beat => Sys2Proof.Machine.execCrossingGrant cyc work beat s
  | .crossingLate cyc id missing => Sys2Proof.Machine.execCrossingLate cyc id missing s
  | .crossingLaunch cyc id => Sys2Proof.Machine.execCrossingLaunch cyc id s
  | .planeWriteCompletion cyc id mch failedCells => Sys2Proof.Machine.execPlaneWriteCompletion cyc id mch failedCells s
  | .writeLate cyc id mch => Sys2Proof.Machine.execWriteLate cyc id mch s
  | .crossingCommit cyc id => Sys2Proof.Machine.execCrossingCommit cyc id s
  | .landingEntryFree cyc slice entry => Sys2Proof.Machine.execLandingEntryFree cyc slice entry s
  | .readCommand cyc id beat => Sys2Proof.Machine.execReadCommand cyc id beat s
  | .writeSuspend cyc id mch => Sys2Proof.Machine.execWriteSuspend cyc id mch s
  | .writeResume cyc id mch => Sys2Proof.Machine.execWriteResume cyc id mch s
  | .readTransfer cyc id mch errs wrong => Sys2Proof.Machine.execReadTransfer cyc id mch errs wrong s
  | .missingBeat cyc id mch => Sys2Proof.Machine.execMissingBeat cyc id mch s
  | .alternateReferenceRead cyc id => Sys2Proof.Machine.execAlternateReferenceRead cyc id s
  | .reconstructRead cyc id => Sys2Proof.Machine.execReconstructRead cyc id s
  | .altWindowEnd => Sys2Proof.Machine.execAltWindowEnd s
  | .frameOverrun late => Sys2Proof.Machine.execFrameOverrun late s
  | .oscSwitch cause => Sys2Proof.Machine.execOscSwitch cause s
  | .oscDisagree ppm => Sys2Proof.Machine.execOscDisagree ppm s
  | .oscStandbyFail cause => Sys2Proof.Machine.execOscStandbyFail cause s
  | .oscStandbyOk => Sys2Proof.Machine.execOscStandbyOk s
  | .tickLost causeMain causeBackup => Sys2Proof.Machine.execTickLost causeMain causeBackup s
  | .returnMain => Sys2Proof.Machine.execReturnMain s
  | .forceBackup => Sys2Proof.Machine.execForceBackup s
  | .translationProbe dpa => Sys2Proof.Machine.execTranslationProbe dpa s
  | .hdmDecoderCommit head n base size ways gran skip lock => Sys2Proof.Machine.execHdmDecoderCommit head n base size ways gran skip lock s
  | .writeCounterWrap district => Sys2Proof.Machine.execWriteCounterWrap district s
  | .gapMove cyc district => Sys2Proof.Machine.execGapMove cyc district s
  | .districtCheckpoint ok => Sys2Proof.Machine.execDistrictCheckpoint ok s
  | .stripeRetirement cyc => Sys2Proof.Machine.execStripeRetirement cyc s
  | .berthRetirement cyc => Sys2Proof.Machine.execBerthRetirement cyc s
  | .memrd cyc head tag hpa => Sys2Proof.Machine.execMemrd cyc head tag hpa s
  | .memwr cyc head tag hpa data poison => Sys2Proof.Machine.execMemwr cyc head tag hpa data poison s
  | .byteEnableWrite cyc head tag hpa data be poison => Sys2Proof.Machine.execByteEnableWrite cyc head tag hpa data be poison s
  | .commitPageRead cyc head tag off => Sys2Proof.Machine.execCommitPageRead cyc head tag off s
  | .requestAdmit cyc id => Sys2Proof.Machine.execRequestAdmit cyc id s
  | .fillBlock cyc id => Sys2Proof.Machine.execFillBlock cyc id s
  | .victimMoveDone cyc slice entry => Sys2Proof.Machine.execVictimMoveDone cyc slice entry s
  | .backgroundDestage cyc slice bad => Sys2Proof.Machine.execBackgroundDestage cyc slice bad s
  | .lockRange start count => Sys2Proof.Machine.execLockRange start count s
  | .unlockRange start count => Sys2Proof.Machine.execUnlockRange start count s
  | .cleanRange start count => Sys2Proof.Machine.execCleanRange start count s
  | .invalidateRange start count => Sys2Proof.Machine.execInvalidateRange start count s
  | .rangeDone => Sys2Proof.Machine.execRangeDone s
  | .dramChannelFailed ch cause sub dev => Sys2Proof.Machine.execDramChannelFailed ch cause sub dev s
  | .cacheReconfig => Sys2Proof.Machine.execCacheReconfig s
  | .sliceRemoved slice => Sys2Proof.Machine.execSliceRemoved slice s
  | .sliceDrained slice => Sys2Proof.Machine.execSliceDrained slice s
  | .dramDeviceErased ch sub dev cause => Sys2Proof.Machine.execDramDeviceErased ch sub dev cause s
  | .dieFailed mch die cause => Sys2Proof.Machine.execDieFailed mch die cause s
  | .channelFailed mch cause => Sys2Proof.Machine.execChannelFailed mch cause s
  | .rebuildStart die => Sys2Proof.Machine.execRebuildStart die s
  | .rebuildStripe cyc die beat => Sys2Proof.Machine.execRebuildStripe cyc die beat s
  | .rebuildDone die => Sys2Proof.Machine.execRebuildDone die s
  | .correctiveRewrite cyc id beat => Sys2Proof.Machine.execCorrectiveRewrite cyc id beat s
  | .refreshOverdue mch band => Sys2Proof.Machine.execRefreshOverdue mch band s
  | .sentinelRewrite => Sys2Proof.Machine.execSentinelRewrite s
  | .mchTableCopy => Sys2Proof.Machine.execMchTableCopy s
  | .datapathRetried block stage check again kind id => Sys2Proof.Machine.execDatapathRetried block stage check again kind id s
  | .dramReadReturn cyc ch sub id errs dev => Sys2Proof.Machine.execDramReadReturn cyc ch sub id errs dev s
  | .dramWriteIssue cyc ch sub addr => Sys2Proof.Machine.execDramWriteIssue cyc ch sub addr s
  | .macWindowEnd => Sys2Proof.Machine.execMacWindowEnd s
  | .peerRepaired cyc lpn block data poison readable => Sys2Proof.Machine.execPeerRepaired cyc lpn block data poison readable s
  | .sramSweepRead block sram addr errs site a b c both last => Sys2Proof.Machine.execSramSweepRead block sram addr errs site a b c both last s
  | .dramSweepRead cyc ch addr errs again dev last => Sys2Proof.Machine.execDramSweepRead cyc ch addr errs again dev last s
  | .sweepMediaRead cyc mch => Sys2Proof.Machine.execSweepMediaRead cyc mch s
  | .sweepLogicalRead cyc region => Sys2Proof.Machine.execSweepLogicalRead cyc region s
  | .mgtCheckpoint pair => Sys2Proof.Machine.execMgtCheckpoint pair s
  | .mgtLockstep pair => Sys2Proof.Machine.execMgtLockstep pair s
  | .mgtTrap pair cause addr => Sys2Proof.Machine.execMgtTrap pair cause addr s
  | .romRestartDone pair => Sys2Proof.Machine.execRomRestartDone pair s
  | .keyRekey path session payload => Sys2Proof.Machine.execKeyRekey path session payload s
  | .keyFormat path session payload => Sys2Proof.Machine.execKeyFormat path session payload s
  | .keyopStart => Sys2Proof.Machine.execKeyopStart s
  | .repaverPassStart slot => Sys2Proof.Machine.execRepaverPassStart slot s
  | .repaverPage cyc => Sys2Proof.Machine.execRepaverPage cyc s
  | .rekeyDone slot => Sys2Proof.Machine.execRekeyDone slot s
  | .formatDone slot => Sys2Proof.Machine.execFormatDone slot s
  | .repaverBoundarySave => Sys2Proof.Machine.execRepaverBoundarySave s
  | .secServiceRequest word => Sys2Proof.Machine.execSecServiceRequest word s
  | .ideFail head set check => Sys2Proof.Machine.execIdeFail head set check s
  | .keyProg session head stream set dir => Sys2Proof.Machine.execKeyProg session head stream set dir s
  | .kSetGo session head stream set dir => Sys2Proof.Machine.execKSetGo session head stream set dir s
  | .kSetStop session head stream set dir => Sys2Proof.Machine.execKSetStop session head stream set dir s
  | .ferryKeyUpdate => Sys2Proof.Machine.execFerryKeyUpdate s
  | .engineKat engine pass => Sys2Proof.Machine.execEngineKat engine pass s
  | .entropyTestFail => Sys2Proof.Machine.execEntropyTestFail s
  | .debugUnlock level key valid => Sys2Proof.Machine.execDebugUnlock level key valid s
  | .getVersion path => Sys2Proof.Machine.execGetVersion path s
  | .getCapabilities path => Sys2Proof.Machine.execGetCapabilities path s
  | .negotiateAlgorithms path offered => Sys2Proof.Machine.execNegotiateAlgorithms path offered s
  | .getDigests path => Sys2Proof.Machine.execGetDigests path s
  | .getCertificate path slot off len => Sys2Proof.Machine.execGetCertificate path slot off len s
  | .spdmChallenge path slot => Sys2Proof.Machine.execSpdmChallenge path slot s
  | .getMeasurements path index sign => Sys2Proof.Machine.execGetMeasurements path index sign s
  | .keyExchange path slot mutualAuth => Sys2Proof.Machine.execKeyExchange path slot mutualAuth s
  | .spdmFinish path mac chainOk rootOk => Sys2Proof.Machine.execSpdmFinish path mac chainOk rootOk s
  | .spdmHeartbeat path session => Sys2Proof.Machine.execSpdmHeartbeat path session s
  | .keyUpdate path session => Sys2Proof.Machine.execKeyUpdate path session s
  | .endSession path session => Sys2Proof.Machine.execEndSession path session s
  | .getCsr path session pairwise => Sys2Proof.Machine.execGetCsr path session pairwise s
  | .setCertificate path session slot chain => Sys2Proof.Machine.execSetCertificate path session slot chain s
  | .vendorDefinedRequest path session opcode payload => Sys2Proof.Machine.execVendorDefinedRequest path session opcode payload s
  | .getSecurityState m => Sys2Proof.Machine.execGetSecurityState m s
  | .setPassphrase m master current new => Sys2Proof.Machine.execSetPassphrase m master current new s
  | .disablePassphrase m master current => Sys2Proof.Machine.execDisablePassphrase m master current s
  | .freezeSecurityState m => Sys2Proof.Machine.execFreezeSecurityState m s
  | .passphraseSecureErase m master current => Sys2Proof.Machine.execPassphraseSecureErase m master current s
  | .sanitize m => Sys2Proof.Machine.execSanitize m s
  | .secureErase m => Sys2Proof.Machine.execSecureErase m s
  | .eraseDone => Sys2Proof.Machine.execEraseDone s
  | .gpfPhase1 head => Sys2Proof.Machine.execGpfPhase1 head s
  | .gpfPhase2 cyc head => Sys2Proof.Machine.execGpfPhase2 cyc head s
  | .gpfDone cyc head drained => Sys2Proof.Machine.execGpfDone cyc head drained s
  | .flitReceive cyc crcOk tagOk seq sent ack nak wcred pcred bytes => Sys2Proof.Machine.execFlitReceive cyc crcOk tagOk seq sent ack nak wcred pcred bytes s
  | .linkRetrain cyc cause => Sys2Proof.Machine.execLinkRetrain cyc cause s
  | .linkWidth width => Sys2Proof.Machine.execLinkWidth width s
  | .ferryLinkUp input => Sys2Proof.Machine.execFerryLinkUp input s
  | .ferryLinkDown => Sys2Proof.Machine.execFerryLinkDown s
  | .mirrorWrite cyc lpn sector data poison => Sys2Proof.Machine.execMirrorWrite cyc lpn sector data poison s
  | .mirrorAck cyc widx => Sys2Proof.Machine.execMirrorAck cyc widx s
  | .bellMsg lowRate fn delay offset => Sys2Proof.Machine.execBellMsg lowRate fn delay offset s
  | .stateMsg cyc power mediaFn pairFn left => Sys2Proof.Machine.execStateMsg cyc power mediaFn pairFn left s
  | .stateSend cyc => Sys2Proof.Machine.execStateSend cyc s
  | .heartbeatMsg cyc token relayed => Sys2Proof.Machine.execHeartbeatMsg cyc token relayed s
  | .heartbeatSend cyc => Sys2Proof.Machine.execHeartbeatSend cyc s
  | .roleHandover token => Sys2Proof.Machine.execRoleHandover token s
  | .roleAccept token => Sys2Proof.Machine.execRoleAccept token s
  | .roleResign token => Sys2Proof.Machine.execRoleResign token s
  | .roleDepart token => Sys2Proof.Machine.execRoleDepart token s
  | .roleDemoted token => Sys2Proof.Machine.execRoleDemoted token s
  | .fenceMsg claim clean full bitmap suspect token session widx names fn => Sys2Proof.Machine.execFenceMsg claim clean full bitmap suspect token session widx names fn s
  | .silenceTimeout cyc => Sys2Proof.Machine.execSilenceTimeout cyc s
  | .handoverTimeout cyc => Sys2Proof.Machine.execHandoverTimeout cyc s
  | .resignDrainTimeout cyc => Sys2Proof.Machine.execResignDrainTimeout cyc s
  | .resyncPageRequest cyc lpn widx => Sys2Proof.Machine.execResyncPageRequest cyc lpn widx s
  | .resyncPageData cyc lpn data poison => Sys2Proof.Machine.execResyncPageData cyc lpn data poison s
  | .resyncPageZero cyc lpn => Sys2Proof.Machine.execResyncPageZero cyc lpn s
  | .resyncPageBitmap cyc index pages => Sys2Proof.Machine.execResyncPageBitmap cyc index pages s
  | .resyncPageDone cyc => Sys2Proof.Machine.execResyncPageDone cyc s
  | .resyncPageSend cyc => Sys2Proof.Machine.execResyncPageSend cyc s
  | .configAtFnPropose change id target subject value => Sys2Proof.Machine.execConfigAtFnPropose change id target subject value s
  | .configAtFnAck id => Sys2Proof.Machine.execConfigAtFnAck id s
  | .configAtFnRefuse id bell => Sys2Proof.Machine.execConfigAtFnRefuse id bell s
  | .configAtFnCancel id => Sys2Proof.Machine.execConfigAtFnCancel id s
  | .configAtFnSync change target subject value => Sys2Proof.Machine.execConfigAtFnSync change target subject value s
  | .atFnCancelled => Sys2Proof.Machine.execAtFnCancelled s
  | .bargeAtFnPropose ch id launch widx desc => Sys2Proof.Machine.execBargeAtFnPropose ch id launch widx desc s
  | .bargeAtFnAck ch id => Sys2Proof.Machine.execBargeAtFnAck ch id s
  | .bargeAtFnRefuse ch id bell => Sys2Proof.Machine.execBargeAtFnRefuse ch id bell s
  | .bargeAtFnCancel ch id => Sys2Proof.Machine.execBargeAtFnCancel ch id s
  | .bargeAtFnDone ch id => Sys2Proof.Machine.execBargeAtFnDone ch id s
  | .bargeAtFnHalted ch id => Sys2Proof.Machine.execBargeAtFnHalted ch id s
  | .pairStatus m payload => Sys2Proof.Machine.execPairStatus m payload s
  | .pairPromote m payload => Sys2Proof.Machine.execPairPromote m payload s
  | .pairDemote m payload => Sys2Proof.Machine.execPairDemote m payload s
  | .pairHandover m payload => Sys2Proof.Machine.execPairHandover m payload s
  | .pairDetach m payload => Sys2Proof.Machine.execPairDetach m payload s
  | .pairAttach m payload => Sys2Proof.Machine.execPairAttach m payload s
  | .pairResyncRate m payload => Sys2Proof.Machine.execPairResyncRate m payload s
  | .dramRefreshDue cyc ch sub dur => Sys2Proof.Machine.execDramRefreshDue cyc ch sub dur s
  | .mr4Read ch hot0 hot1 dur => Sys2Proof.Machine.execMr4Read ch hot0 hot1 dur s
  | .actMitigation cyc ch sub bank row => Sys2Proof.Machine.execActMitigation cyc ch sub bank row s
  | .rfm cyc ch sub bank needs threshold => Sys2Proof.Machine.execRfm cyc ch sub bank needs threshold s
  | .actTableClear ch sub bank => Sys2Proof.Machine.execActTableClear ch sub bank s
  | .pageIdleExpiry cyc ch sub bank => Sys2Proof.Machine.execPageIdleExpiry cyc ch sub bank s
  | .selfRefreshEntry cyc ch sub => Sys2Proof.Machine.execSelfRefreshEntry cyc ch sub s
  | .selfRefreshExit cyc ch sub => Sys2Proof.Machine.execSelfRefreshExit cyc ch sub s
  | .driftCheck ch drift0 drift1 => Sys2Proof.Machine.execDriftCheck ch drift0 drift1 s
  | .dramRetrain ch ok sub stage lane window ms => Sys2Proof.Machine.execDramRetrain ch ok sub stage lane window ms s
  | .retrainRetry ch => Sys2Proof.Machine.execRetrainRetry ch s
  | .actResumed activity => Sys2Proof.Machine.execActResumed activity s
  | .frequencyChange ch us => Sys2Proof.Machine.execFrequencyChange ch us s
  | .trainRun ch => Sys2Proof.Machine.execTrainRun ch s
  | .trainRunDone ch errs => Sys2Proof.Machine.execTrainRunDone ch errs s
  | .laneFailed head lane cause symbols => Sys2Proof.Machine.execLaneFailed head lane cause symbols s
  | .widthChanged head width l0p us => Sys2Proof.Machine.execWidthChanged head width l0p us s
  | .linkUp head rate width flit => Sys2Proof.Machine.execLinkUp head rate width flit s
  | .linkDown head cause => Sys2Proof.Machine.execLinkDown head cause s
  | .moorEntered head us => Sys2Proof.Machine.execMoorEntered head us s
  | .moorWake head us => Sys2Proof.Machine.execMoorWake head us s
  | .doeRequest head proto index => Sys2Proof.Machine.execDoeRequest head proto index s
  | .doeAbort head => Sys2Proof.Machine.execDoeAbort head s
  | .mctpMessage kind fault => Sys2Proof.Machine.execMctpMessage kind fault s
  | .bgCmdDone ok => Sys2Proof.Machine.execBgCmdDone ok s
  | .recordTake => Sys2Proof.Machine.execRecordTake s
  | .eventRingWrite ok => Sys2Proof.Machine.execEventRingWrite ok s
  | .censusWindowClose => Sys2Proof.Machine.execCensusWindowClose s
  | .censusPublish => Sys2Proof.Machine.execCensusPublish s
  | .recalibrate path payload => Sys2Proof.Machine.execRecalibrate path payload s
  | .recalDone offs ok => Sys2Proof.Machine.execRecalDone offs ok s
  | .capacitorHealthTest => Sys2Proof.Machine.execCapacitorHealthTest s
  | .bankTest cm esr timeout => Sys2Proof.Machine.execBankTest cm esr timeout s
  | .bankMonitor cells vres fell => Sys2Proof.Machine.execBankMonitor cells vres fell s
  | .moorRefreshWake => Sys2Proof.Machine.execMoorRefreshWake s
  | .bargeDoorbell master payload => Sys2Proof.Machine.execBargeDoorbell master payload s
  | .descriptorStart ch => Sys2Proof.Machine.execDescriptorStart ch s
  | .bargeCopy cyc ch sectors lost => Sys2Proof.Machine.execBargeCopy cyc ch sectors lost s
  | .bargeFill cyc ch sectors => Sys2Proof.Machine.execBargeFill cyc ch sectors s
  | .bargeZero cyc ch sectors => Sys2Proof.Machine.execBargeZero cyc ch sectors s
  | .bargeCrc cyc ch sectors => Sys2Proof.Machine.execBargeCrc cyc ch sectors s
  | .bargeComplete ch => Sys2Proof.Machine.execBargeComplete ch s
  | .bargeResume ch => Sys2Proof.Machine.execBargeResume ch s
  | .imageWindowOpen => Sys2Proof.Machine.execImageWindowOpen s
  | .imageCheck => Sys2Proof.Machine.execImageCheck s
  | .imageCheckDone sig => Sys2Proof.Machine.execImageCheckDone sig s
  | .calWindowOpen => Sys2Proof.Machine.execCalWindowOpen s
  | .calWindowClose => Sys2Proof.Machine.execCalWindowClose s
  | .storeWindowWrite master off size be value => Sys2Proof.Machine.execStoreWindowWrite master off size be value s
  | .powerUp miss => Sys2Proof.Machine.execPowerUp miss s
  | .railFault rail mv => Sys2Proof.Machine.execRailFault rail mv s
  | .powerUpRetry miss => Sys2Proof.Machine.execPowerUpRetry miss s
  | .powerDown => Sys2Proof.Machine.execPowerDown s
  | .railWarn rail mv => Sys2Proof.Machine.execRailWarn rail mv s
  | .mainPowerLoss mv => Sys2Proof.Machine.execMainPowerLoss mv s
  | .flushAbort vres => Sys2Proof.Machine.execFlushAbort vres s
  | .idleEntry => Sys2Proof.Machine.execIdleEntry s
  | .pwrReqMoored => Sys2Proof.Machine.execPwrReqMoored s
  | .pwrReqOpen => Sys2Proof.Machine.execPwrReqOpen s
  | .pwrReqOff => Sys2Proof.Machine.execPwrReqOff s
  | .mooredWake cause failed => Sys2Proof.Machine.execMooredWake cause failed s
  | .slotPowerLimit watts => Sys2Proof.Machine.execSlotPowerLimit watts s
  | .powerClassSet path payload => Sys2Proof.Machine.execPowerClassSet path payload s
  | .thermalStep temp => Sys2Proof.Machine.execThermalStep temp s
  | .thermalTrip part ch die temp => Sys2Proof.Machine.execThermalTrip part ch die temp s
  | .coldStart input ms => Sys2Proof.Machine.execColdStart input ms s
  | .startupTimeout ms => Sys2Proof.Machine.execStartupTimeout ms s
  | .coldReset => Sys2Proof.Machine.execColdReset s
  | .softReset m page => Sys2Proof.Machine.execSoftReset m page s
  | .perstAssert head => Sys2Proof.Machine.execPerstAssert head s
  | .perstDeassert head => Sys2Proof.Machine.execPerstDeassert head s
  | .flr head => Sys2Proof.Machine.execFlr head s
  | .cxlReset head => Sys2Proof.Machine.execCxlReset head s
  | .pwrdisAssert => Sys2Proof.Machine.execPwrdisAssert s
  | .pwrdisDeassert => Sys2Proof.Machine.execPwrdisDeassert s
  | .prsntHigh => Sys2Proof.Machine.execPrsntHigh s
  | .inputFault => Sys2Proof.Machine.execInputFault s
  | .ferryPresChange present => Sys2Proof.Machine.execFerryPresChange present s
  | .smbclkLowTimeout => Sys2Proof.Machine.execSmbclkLowTimeout s
  | .identify m => Sys2Proof.Machine.execIdentify m s
  | .identifyMemoryDevice m => Sys2Proof.Machine.execIdentifyMemoryDevice m s
  | .getPartitionInfo m => Sys2Proof.Machine.execGetPartitionInfo m s
  | .getSupportedLogs m => Sys2Proof.Machine.execGetSupportedLogs m s
  | .getLog m log off len => Sys2Proof.Machine.execGetLog m log off len s
  | .getTimestamp m => Sys2Proof.Machine.execGetTimestamp m s
  | .setTimestamp m ns => Sys2Proof.Machine.execSetTimestamp m ns s
  | .getEventRecords m log => Sys2Proof.Machine.execGetEventRecords m log s
  | .clearEventRecords m log all handles => Sys2Proof.Machine.execClearEventRecords m log all handles s
  | .getEventInterruptPolicy m => Sys2Proof.Machine.execGetEventInterruptPolicy m s
  | .setEventInterruptPolicy m policy => Sys2Proof.Machine.execSetEventInterruptPolicy m policy s
  | .getHealthInfo m => Sys2Proof.Machine.execGetHealthInfo m s
  | .getAlertConfig m => Sys2Proof.Machine.execGetAlertConfig m s
  | .setAlertConfig m valid enable life overTemp underTemp volatileErr persistent => Sys2Proof.Machine.execSetAlertConfig m valid enable life overTemp underTemp volatileErr persistent s
  | .getShutdownState m => Sys2Proof.Machine.execGetShutdownState m s
  | .setShutdownState m dirty => Sys2Proof.Machine.execSetShutdownState m dirty s
  | .getPoisonList m dpa len => Sys2Proof.Machine.execGetPoisonList m dpa len s
  | .injectPoison cyc m dpa => Sys2Proof.Machine.execInjectPoison cyc m dpa s
  | .clearPoison cyc m dpa data => Sys2Proof.Machine.execClearPoison cyc m dpa data s
  | .getScanMediaCapabilities m dpa len => Sys2Proof.Machine.execGetScanMediaCapabilities m dpa len s
  | .scanMedia m dpa len => Sys2Proof.Machine.execScanMedia m dpa len s
  | .getScanMediaResults m => Sys2Proof.Machine.execGetScanMediaResults m s
  | .getFwInfo m => Sys2Proof.Machine.execGetFwInfo m s
  | .transferFw m action slot off data => Sys2Proof.Machine.execTransferFw m action slot off data s
  | .activateFw m action slot => Sys2Proof.Machine.execActivateFw m action slot s
  | .regRead m payload => Sys2Proof.Machine.execRegRead m payload s
  | .regWrite m payload => Sys2Proof.Machine.execRegWrite m payload s
  | .regionSetAttr m payload => Sys2Proof.Machine.execRegionSetAttr m payload s
  | .mapSelect m payload => Sys2Proof.Machine.execMapSelect m payload s
  | .censusCtrl m payload => Sys2Proof.Machine.execCensusCtrl m payload s
  | .passphraseUnlock m current => Sys2Proof.Machine.execPassphraseUnlock m current s
  | .prsntLow => Sys2Proof.Machine.execPrsntLow s
  | .railInTolerance rail mv => Sys2Proof.Machine.execRailInTolerance rail mv s
  | .mediaPhyTrainingLost mch back => Sys2Proof.Machine.execMediaPhyTrainingLost mch back s
  | .dramTrainingLost ch sub ok => Sys2Proof.Machine.execDramTrainingLost ch sub ok s
  | .resyncBitmapCleared => Sys2Proof.Machine.execResyncBitmapCleared s
  | .cpmuCounterOverflow head n inc => Sys2Proof.Machine.execCpmuCounterOverflow head n inc s

end Sys2Proof.Machine
end

