-- ==== Sys2Proof/Safety.lean ====
section
/-!
DEFINITION. What counts as a sound state and as a completed command, in the terms the statements use: the canonical form of
the byte memories, the answer of a command, what a command records and sends, and the data it keeps.
-/
namespace Sys2Proof.Machine

/-- DRAM, the parameter store and the firmware store are in canonical form, so that equal contents are equal data. -/
def State.memOk (s : State) : Prop :=
  Mem.wf s.dram = true ∧ Mem.wf s.store = true ∧ Mem.wf s.fwStore = true

/-- The command completes: `exec` answers a next state, and `P` holds of that state. -/
def Answers (c : Instr) (s : State) (P : State → Prop) : Prop := ∃ t, exec c s = .next t ∧ P t

/-- The event path and the counters of `t` are those of `s` after one occurrence of this code (R577–R581). -/
def Recorded (s t : State) (b src code : Nat) (sev : Severity) (items : List Item) : Prop :=
  t.tele = (s.record b src code sev items).tele

/-- What the media, DRAM, the two stores and the cache hold is the same in both states. -/
def DataKept (s t : State) : Prop :=
  (∀ k, t.media.cells.get? k = s.media.cells.get? k) ∧ (∀ a, Mem.read t.dram a = Mem.read s.dram a)
    ∧ (∀ a, Mem.read t.store a = Mem.read s.store a) ∧ (∀ a, Mem.read t.fwStore a = Mem.read s.fwStore a)
    ∧ (∀ set w, t.way set w = s.way set w) ∧ (∀ n e, t.entry n e = s.entry n e)

/-- As DataKept, but that the requests waiting on landing entries may have taken a cause of delay (R249). -/
def ContentKept (s t : State) : Prop :=
  (∀ k, t.media.cells.get? k = s.media.cells.get? k) ∧ (∀ a, Mem.read t.dram a = Mem.read s.dram a)
    ∧ (∀ a, Mem.read t.store a = Mem.read s.store a) ∧ (∀ a, Mem.read t.fwStore a = Mem.read s.fwStore a)
    ∧ (∀ set w, t.way set w = s.way set w)
    ∧ (∀ n e, { t.entry n e with waiters := [] } = { s.entry n e with waiters := [] })

/-- The tables no command of a register or mailbox path may touch by the way: translation, keys, the pair, FN, the power
state. -/
def ControlKept (s t : State) : Prop :=
  t.xl = s.xl ∧ t.sec = s.sec ∧ t.fry = s.fry ∧ t.tt = s.tt ∧ t.pwr = s.pwr

/-- The answers on CXL.mem the command sent, in order: read data and no-data responses. -/
def MemSent (t : State) (l : List Output) : Prop :=
  (t.out.filter fun o => match o with
    | .memData _ _ _ _ _ => true
    | .ndr _ _ _ => true
    | _ => false) = l

/-- The physical pass of channel `c` goes on from stripe `psn` (R288): its position is the next stripe that is no margin, or past the
last one it is back at its start and one more pass is counted. -/
def sweepsOn (s t : State) (c psn : Nat) : Prop :=
  (skipMargin (psn + 1) ≤ sweepEnd → t.integ.sweepPos.getD c 0 = skipMargin (psn + 1))
    ∧ (sweepEnd < skipMargin (psn + 1) → t.integ.sweepPos.getD c 0 = 0
      ∧ t.integ.mediaPasses.getD c 0 = s.integ.mediaPasses.getD c 0 + 1)

/-- A copy of stripe `src` to `dst` has begun (R124, R134): it is in flight, with nothing of it read yet, and a maintenance read of each of
the 17 positions of the source is queued. -/
def copyBegun (s t : State) (kind : CopyKind) (src dst : Nat) : Prop :=
  t.xl.moves = s.xl.moves ++ [{ kind := kind, src := src, dst := dst }]
    ∧ ∀ q < 17, ∃ m ∈ t.media.reads, m.use = .copy src ∧ m.kind = .maintenance ∧ m.psn = src ∧ m.pos = q

/-- Head `h` takes a CXL.mem request for `hpa` in this state and hands it to the slice of the page: the link is awake, PWR is
Open, a decoder gives the DPA, head, slice and XL know its region (R109, R114, R119), user memory is served (R332, R344, R559), no
earlier request for the page or byte-enable merge of the sector waits (R176), and nothing holds the request (R281, R313, R336, R367, R391, R396). -/
def Taken (s : State) (h : Fin 2) (hpa dpa region : Nat) (kind : ReqKind) : Prop :=
  s.deaf h.val = false ∧ (s.hp h.val).moor = 0 ∧ s.pwr.state = 2 ∧ s.pwr.mooring = false
    ∧ s.hdmDecode h.val hpa = some dpa ∧ dpa < windowBase ∧ s.closed = 0 ∧ s.headRegion h.val dpa = some region
    ∧ (s.regionAt (bCs (s.sliceOf (s.setOf (lpnOfDpa dpa)))) dpa).isSome = true
    ∧ (kind = .read ∨ s.mirrored (bHp h.val) region = false ∨ s.refusesMirror = false)
    ∧ (∀ q ∈ s.cache.waiting, lpnOfDpa q.dpa ≠ lpnOfDpa dpa)
    ∧ s.sec.erase ≠ some 0 ∧ s.sec.holdSlots = [] ∧ s.integ.fromPeer = [] ∧ s.needsFetch (lpnOfDpa dpa) = false
    ∧ s.fry.bargeAt = [] ∧ (kind = .read ∨ ∀ t ∈ s.fry.takes, t.lpn ≠ lpnOfDpa dpa)
    ∧ (kind = .read ∨ ∀ p ∈ s.merging, p.2.dpa / 64 ≠ dpa / 64)

/-- The mailbox service takes commands that come over path `m` (R447, R507, R558): the interface is ready, no flush runs, the head
is used, pair A is not restarting (R284), and the module is configured. -/
def Serves (s : State) (m : Master) : Prop :=
  isPath m = true ∧ s.start.mboxReady = true ∧ s.pwr.flush = none ∧ (m = .mboxHp1 → s.dual = true) ∧ s.integ.romA = false
    ∧ s.pst.unconfigured = false

/-- The command sent exactly one thing: the reply to path `m` with this return code and payload. -/
def Replied (t : State) (m : Master) (code : Nat) (payload : List (BitVec 8)) : Prop :=
  t.out = [.reply (masterVal m) code payload]

/-- The SPDM response the block sent first: path, response code, its two parameters and its body (R328). -/
def SpdmAnswered (t : State) (path code p1 p2 : Nat) (body : List (BitVec 8)) : Prop :=
  t.out.head? = some (.reply (16 + path) 0 (leBytes 1 0x13 ++ leBytes 1 code ++ leBytes 1 p1 ++ leBytes 1 p2 ++ body))

/-- The stored role record names this role and the module's token (R386). -/
def RoleWritten (t : State) (role : Nat) : Prop := ∃ r, t.fry.roleRec = some r ∧ r.role = role ∧ r.token = t.fry.token

/-- What the cache, DRAM and the media hold of host data is unchanged. -/
def HostDataKept (s t : State) : Prop := t.cache.ways = s.cache.ways ∧ t.dram = s.dram ∧ t.media.cells = s.media.cells

/-- A hold-up flush began (R235, R548): PWR is in FLUSH with this cause, ending and supply, at its first step; the windows are
closed, no background command runs, no host request waits, and host data is where it was. -/
def FlushBegun (s t : State) (cause : Nat) (halt onBank : Bool) : Prop :=
  t.pwr.state = 5 ∧ (∃ f, t.pwr.flush = some f ∧ f.cause = cause ∧ f.halt = halt ∧ f.onBank = onBank ∧ f.step = 1)
    ∧ t.pwr.onBank = onBank ∧ t.pst.imgOpen = false ∧ t.pst.calOpen = false ∧ t.mbox.bg = none ∧ t.tt.flushMapDue = true
    ∧ (∀ q ∈ t.cache.waiting, ∀ h tag, q.origin ≠ .host h tag) ∧ HostDataKept s t

end Sys2Proof.Machine
end

