-- ==== Sys2Proof/Certificates/Slice0/Obligations.lean ====
section
/-!
DEFINITION. The statements about the block: what each command does to the state the spec gives it, where it completes,
what it keeps, and the rules that hold across all commands.
-/
section Statements
open Sys2Proof Sys2Proof.Machine

/-- For every command c and state s, the step of s with c at the front of its queue is exec of c on s with the queue's
rest. With an empty queue the block idles: the step answers s unchanged. That the waiting commands are taken first in,
first out, and that an empty queue idles, is the model's choice (log entry 10). -/
def Obligations.StepRunsFrontCommand : Prop :=
  (∀ (c : Instr) (rest : List Instr) (s : State),
      step { s with pending := c :: rest } = exec c { s with pending := rest })
    ∧ ∀ s : State, s.pending = [] → step s = .next s

/-- For every command and every state, exec answers a next state, never a fault and never a refusal, and the queue of
waiting commands is the same before and after. The spec answers every case of a command with an effect, a record or a
refusal code, so no run of the block stops. -/
def Obligations.EveryCommandCompletesAndKeepsTheQueue : Prop :=
  ∀ (c : Instr) (s : State), Answers c s fun t => t.pending = s.pending

/-- For every state whose DRAM, parameter store and firmware store are in canonical form (addresses strictly rising,
no entry equal to what an unlisted byte reads as), whichever command waits at the front of the queue, if the step
answers a next state then all three memories are in canonical form in it. So equal contents are always equal data. The
canonical form is the model's; what an unlisted byte of DRAM reads as is R428's zero. -/
def Obligations.EveryStepKeepsMemoryCanonical : Prop :=
  ∀ s t : State, s.memOk → step s = .next t → t.memOk

/-- At reset the three memories are in canonical form and list nothing, no command waits, FN is 0 (TT_FN_LO, TT_FN_HI
of R107), the class of TT_XCAP is 2, no group is pending, the pair is UNPAIRED with no role, every district has START
0, GAP 16,777,216 and a write counter of 0 (R122), writes are gated (PWR_STAT of R552), the programmable alert
thresholds are those of R450, and of the die domains only the supervisor (95) is On. Values the spec states none for
are the model's (log entry 5) and are not claimed here. -/
def Obligations.ResetStateIsSound : Prop :=
  State.reset.memOk ∧ State.reset.dram = [] ∧ State.reset.store = [] ∧ State.reset.pending = []
    ∧ State.reset.tt.fn = 0 ∧ State.reset.tt.cls = 2 ∧ State.reset.regs.pendingGroups = 0
    ∧ State.reset.fry.pstate = .unpaired ∧ State.reset.fry.role = .none
    ∧ (∀ d, (State.reset.district d).start = 0 ∧ (State.reset.district d).gap = 16777216 ∧ (State.reset.district d).wcount = 0)
    ∧ State.reset.pwr.gated = true
    ∧ State.reset.mbox.alerts.life = 90 ∧ State.reset.mbox.alerts.overTemp = 80 ∧ State.reset.mbox.alerts.underTemp = 5
    ∧ ∀ b < 54, State.reset.live b = true ↔ b = bTop ∨ b = bEvq ∨ b = bPwr

/-- For every block, every register of it without RP and WS bits that accepts the write (no REGn_ATTR, whose field
check is R118's, and none of the probe and TAIL registers, which have rows of their own), and every master the Square
lets through while the block is live: a 32-bit write with all four byte enables, at the base offset or at the set,
clear or toggle alias, completes. The RS bits of the shadow copy become the value, the OR, the AND NOT or the XOR of
the value with the old bits; the RI bits of the active copy do the same at once; the other active bits stay. Every
other register of every block, every media codeword, every byte of DRAM and of the stores, the cache, translation,
keys, the pair and the power state are unchanged. Concludes that exec answers a next state for: registerWrite,
setAliasWrite, clearAliasWrite, toggleAliasWrite. -/
def Obligations.RegisterWritesFollowTheAccessTypes : Prop :=
  ∀ (m : Master) (b o : Nat) (v : BitVec 512) (s : State), b < 54 → o < 0x1000 → o % 4 = 0 →
    let off := blkPage b * 0x10000 + o
    let sp := regSpec (blkType b) o
    let written (mode : WriteMode) (t : State) : Prop :=
      (sp.rs ≠ 0 → t.shdW b o = (s.shdW b o &&& ~~~sp.rs) ||| (mode.apply (s.shdW b o) (v.setWidth 32) &&& sp.rs))
        ∧ t.actW b o = (s.actW b o &&& ~~~sp.ri) ||| (mode.apply (s.actW b o) (v.setWidth 32) &&& sp.ri)
        ∧ (∀ b' o', regKey b' o' ≠ off → t.actW b' o' = s.actW b' o' ∧ t.shdW b' o' = s.shdW b' o')
        ∧ DataKept s t ∧ t.xl = s.xl ∧ t.sec = s.sec ∧ t.fry = s.fry ∧ t.pwr = s.pwr
    s.bar2There m = true → s.live b = true → s.regWritable b o = true → sp.rp = 0 → sp.ws = 0 →
    ¬ ((blkType b = 4 ∨ blkType b = 5 ∨ blkType b = 6) ∧ 0x400 ≤ o ∧ o < 0x800 ∧ o % 16 = 4) →
    ¬ (b = bXl ∧ (o = 0x040 ∨ o = 0x044)) → ¬ (b = bBrg ∧ 0x040 ≤ o ∧ o < 0x0c0) →
    (secBlocked m b o = false → Answers (.registerWrite m off 4 0xf v) s (written .plain))
    ∧ (secBlocked m b (o + 0x1000) = false → Answers (.setAliasWrite m (off + 0x1000) 4 0xf v) s (written .set))
    ∧ (secBlocked m b (o + 0x2000) = false → Answers (.clearAliasWrite m (off + 0x2000) 4 0xf v) s (written .clear))
    ∧ (secBlocked m b (o + 0x3000) = false → Answers (.toggleAliasWrite m (off + 0x3000) 4 0xf v) s (written .toggle))

/-- A 32-bit write with all byte enables of a register that has RP bits and no other written bits, in a live block:
while no posted write is in flight in the block, XBUSY becomes 1 with the offset of the write and the value the local
copy shall take, and the local copy does not change yet; while one is in flight, the write changes nothing and
POSTED_WRITE_DROPPED is recorded. When the domain accepts the write, each word takes its value and XBUSY clears. When
10 µs pass instead, XBUSY clears, no word changes and POSTED_WRITE_TIMEOUT is recorded with offset, value and master.
All keep the media, the cache and the memories. Concludes that exec answers a next state for: postedWrite,
postedWriteAccept, postedWriteTimeout. -/
def Obligations.PostedWritesGoToTheirDomain : Prop :=
  (∀ (m : Master) (b o : Nat) (v : BitVec 512) (s : State), b < 54 → o < 0x1000 → o % 4 = 0 → s.bar2There m = true →
    secBlocked m b o = false → s.live b = true → s.regWritable b o = true → (regSpec (blkType b) o).rp ≠ 0 →
    (regSpec (blkType b) o).rs = 0 → (regSpec (blkType b) o).ri = 0 → (regSpec (blkType b) o).ws = 0 →
    let off := blkPage b * 0x10000 + o
    let rp := (regSpec (blkType b) o).rp
    Answers (.postedWrite m off 4 0xf v) s fun t =>
      t.regs.active = s.regs.active ∧ t.regs.shadow = s.regs.shadow ∧ DataKept s t
        ∧ (s.regs.posted.get? b = none → ∃ p, t.regs.posted.get? b = some p ∧ p.master = m ∧ p.off = off
            ∧ p.words = [(o, (s.actW b o &&& ~~~rp) ||| (v.setWidth 32 &&& rp))])
        ∧ (s.regs.posted.has b = true → t.regs.posted = s.regs.posted
            ∧ Recorded (s.bar2Count m true) t b 381 0x0201 .warning [(4, off), (4, (v.setWidth 64 : BitVec 64).toNat), (1, masterVal m)]))
  ∧ (∀ (b : Nat) (p : Posted) (s : State), s.regs.posted.get? b = some p → (p.words.map Prod.fst).Nodup →
      (∀ w ∈ p.words, w.1 < 0x10000) →
      Answers (.postedWriteAccept b) s fun t =>
        t.regs.posted.has b = false ∧ (∀ w ∈ p.words, t.actW b w.1 = w.2) ∧ DataKept s t ∧ t.tele = s.tele)
  ∧ (∀ (b : Nat) (p : Posted) (s : State), s.regs.posted.get? b = some p →
      Answers (.postedWriteTimeout b) s fun t =>
        t.regs.posted.has b = false ∧ t.regs.active = s.regs.active ∧ DataKept s t
          ∧ Recorded s t b 381 0x0202 .error
              [(4, p.off), (if p.size ≤ 4 then 4 else 8, p.value.toNat),
                (1, masterVal p.master)])

/-- For every queue and every master that may use it and that the Square lets through (R38), in a live block. A push
of one whole word, with room and DISCARD 0, appends it with its end mark (QPUSH none, QPUSH_END one). With the queue
full and DISCARD 0, no word is stored, OVERRUN is 1 and DISCARD is 1 after QPUSH and 0 after QPUSH_END. A pop of a
queue whose head word decodes removes it and returns it, with its end mark and truncation in Q_LAST; a head word that
fails its decode is removed and returned poisoned with VALID 0; a pop of an empty queue returns zeros and VALID 0. An
access of another size than one word changes no queue, and such a pop returns zeros. The other queues of the module
are unchanged. Concludes that exec answers a next state for: qpush, qpushEnd, qpop. -/
def Obligations.QueuePushAndPopKeepOrder : Prop :=
  (∀ (m : Master) (q : QueueId) (w : BitVec 512) (s : State), s.bar2There m = true → s.live (qBlock q) = true →
      secBlocked m (qBlock q) (qWin q) = false → secBlocked m (qBlock q) (qWin q + 0x100) = false → mayPush m q = true →
      let old := s.getQ q
      let stored (fin : Bool) : QWord := { word := BitVec.ofNat 512 (w.toNat % 256 ^ qWord q), endMark := fin }
      Answers (.qpush m q w (qWord q)) s (fun t =>
        (∀ q', q' ≠ q → t.getQ q' = s.getQ q')
          ∧ (old.discard = false → old.words.length < qCap q →
              t.getQ q = { old with words := old.words ++ [stored false], openPkt := true })
          ∧ (old.discard = false → old.words.length = qCap q →
              (t.getQ q).words.length = qCap q ∧ (t.getQ q).overrun = true ∧ (t.getQ q).discard = true))
        ∧ Answers (.qpushEnd m q w (qWord q)) s fun t =>
            (∀ q', q' ≠ q → t.getQ q' = s.getQ q')
              ∧ (old.discard = false → old.words.length < qCap q →
                  t.getQ q = { old with words := old.words ++ [stored true], openPkt := false })
              ∧ (old.discard = false → old.words.length = qCap q →
                  (t.getQ q).words.length = qCap q ∧ (t.getQ q).overrun = true ∧ (t.getQ q).discard = false))
  ∧ (∀ (m : Master) (q : QueueId) (s : State), s.bar2There m = true → s.live (qBlock q) = true →
      secBlocked m (qBlock q) (qWin q + 0x200) = false → mayPop m q = true →
      Answers (.qpop m q (qWord q)) s fun t =>
        (∀ q', q' ≠ q → t.getQ q' = s.getQ q')
          ∧ (∀ h rest, (s.getQ q).words = h :: rest → h.bad = false → t.out = [.value h.word]
              ∧ t.getQ q = { s.getQ q with words := rest, lastValid := true, lastEnd := h.endMark, lastTrunc := h.trunc })
          ∧ (∀ h rest, (s.getQ q).words = h :: rest → h.bad = true → t.out = [.poisoned]
              ∧ (t.getQ q).words = rest ∧ (t.getQ q).lastValid = false)
          ∧ ((s.getQ q).words = [] → t.out = [.value 0]
              ∧ t.getQ q = { s.getQ q with lastValid := false, lastEnd := false, lastTrunc := false }))
  ∧ (∀ (m : Master) (q : QueueId) (w : BitVec 512) (n : Nat) (s : State), n ≠ qWord q → s.bar2There m = true →
      s.live (qBlock q) = true → secBlocked m (qBlock q) (qWin q) = false → secBlocked m (qBlock q) (qWin q + 0x100) = false →
      secBlocked m (qBlock q) (qWin q + 0x200) = false →
      Answers (.qpush m q w n) s (fun t => t.getQ = s.getQ) ∧ Answers (.qpushEnd m q w n) s (fun t => t.getQ = s.getQ)
        ∧ Answers (.qpop m q n) s (fun t => t.getQ = s.getQ ∧ t.out = [.value 0]))

/-- For every queue whose DISCARD is 1, whatever room it has, and every master that may push into it through a live
block: a word without end mark is dropped, the stored words stay and DISCARD stays 1; a word with end mark is dropped
too, the stored words stay and DISCARD becomes 0. Concludes that exec answers a next state for: qpush, qpushEnd. -/
def Obligations.DiscardingQueueDropsUntilTheEndMark : Prop :=
  ∀ (m : Master) (q : QueueId) (w : BitVec 512) (s : State), s.bar2There m = true → s.live (qBlock q) = true →
    secBlocked m (qBlock q) (qWin q) = false → secBlocked m (qBlock q) (qWin q + 0x100) = false → mayPush m q = true →
    (s.getQ q).discard = true →
    Answers (.qpush m q w (qWord q)) s (fun t => (t.getQ q).words = (s.getQ q).words ∧ (t.getQ q).discard = true)
      ∧ Answers (.qpushEnd m q w (qWord q)) s (fun t => (t.getQ q).words = (s.getQ q).words ∧ (t.getQ q).discard = false)

/-- For every queue that the flush reaches in a live block: afterwards no word is stored, so WORDS and PACKETS are 0,
OVERRUN is 0, and DISCARD is 1 exactly when the last word the producer pushed was not end-marked; a word pushed next
without end mark is then dropped, and DISCARD stays 1 until an end-marked one is dropped. The other queues are
unchanged. Concludes that exec answers a next state for: queueFlush. -/
def Obligations.QueueFlushFollowsTheOpenPacket : Prop :=
  ∀ (m : Master) (q : QueueId) (s : State), s.bar2There m = true → s.live (qBlock q) = true →
    secBlocked m (qBlock q) (qCtrl q) = false →
    Answers (.queueFlush m q) s fun t =>
      (t.getQ q).words = [] ∧ (t.getQ q).packets = 0 ∧ (t.getQ q).overrun = false
        ∧ (t.getQ q).discard = (s.getQ q).openPkt ∧ (∀ q', q' ≠ q → t.getQ q' = s.getQ q')
        ∧ ((s.getQ q).openPkt = true → ∀ (w w' : BitVec 512),
            ((t.getQ q).push (qCap q) w false).1.words = [] ∧ ((t.getQ q).push (qCap q) w false).1.discard = true
              ∧ ((t.getQ q).push (qCap q) w' true).1.words = [] ∧ ((t.getQ q).push (qCap q) w' true).1.discard = false)

/-- For every value written to TOP_UPDATE in a state whose PENDING bits 31:16 are 0: the command completes, PENDING
bits 31:16 are 0 afterwards, and two values that agree in bits 15:0 lead to the same next state, so the high bits have
no effect at all. Concludes that exec answers a next state for: groupStrobe. -/
def Obligations.StrobesOfGroupsAbove15HaveNoEffect : Prop :=
  ∀ (m : Master) (mask : BitVec 32) (s : State), s.regs.pendingGroups &&& 0xffff0000#32 = 0 →
    Answers (.groupStrobe m mask) s (fun t => t.regs.pendingGroups &&& 0xffff0000#32 = 0)
      ∧ ∀ mask' : BitVec 32, mask &&& 0xffff#32 = mask' &&& 0xffff#32 →
          exec (.groupStrobe m mask) s = exec (.groupStrobe m mask') s

/-- A read of the low half of a block counter returns bits 31:0 of COUNT and latches bits 47:32 with OVF at bit 31;
the count itself and every other counter stay. A read of TT_FN_LO returns bits 31:0 of FN and latches bits 47:32, and
FN stays. An increment that carries an enabled counter of a live block past 2^48 − 1 keeps the low 48 bits and sets
OVF. A write of TOP_UPDATE sets the PENDING bits of groups 0 to 15 that it names, clears none, and changes no shadow
and no active copy. The media, the cache and the memories stay. Concludes that exec answers a next state for:
cntLowRead, ttFnLoRead, counterWrap, groupStrobe. -/
def Obligations.CountersLatchWrapAndStrobe : Prop :=
  (∀ (m : Master) (b n : Nat) (s : State), s.bar2There m = true → s.live b = true → n < 8 →
      let c := s.tele.counters.getD (b * 8 + n) {}
      Answers (.cntLowRead m b n) s fun t => t.out = [.value (BitVec.ofNat 512 (c.count % 2 ^ 32))]
        ∧ t.tele.counters.getD (b * 8 + n) {} =
            { c with latch := some (BitVec.ofNat 32 (c.count / 2 ^ 32 + b2n c.ovf * 2 ^ 31)) }
        ∧ (∀ k, k ≠ b * 8 + n → t.tele.counters.getD k {} = s.tele.counters.getD k {}) ∧ DataKept s t)
  ∧ (∀ (m : Master) (s : State), s.bar2There m = true → s.live bTt = true →
      Answers (.ttFnLoRead m) s fun t => t.out = [.value (BitVec.ofNat 512 (s.tt.fn % 2 ^ 32))]
        ∧ t.tt.fnLatch = BitVec.ofNat 16 (s.tt.fn / 2 ^ 32) ∧ t.tt.fn = s.tt.fn ∧ t.tele = s.tele ∧ DataKept s t)
  ∧ (∀ (b n inc : Nat) (s : State), s.live b = true → n < 8 →
      let c := s.tele.counters.getD (b * 8 + n) {}
      c.enable = true → c.ovf = true → 2 ^ 48 ≤ c.count + inc →
      Answers (.counterWrap b n inc) s fun t =>
        t.tele.counters.getD (b * 8 + n) {} = { c with count := (c.count + inc) % 2 ^ 48, ovf := true }
          ∧ t.tele.evq = s.tele.evq ∧ DataKept s t)
  ∧ (∀ (b n inc : Nat) (s : State), s.live b = true → n < 8 →
      let c := s.tele.counters.getD (b * 8 + n) {}
      c.enable = true → c.ovf = false → 2 ^ 48 ≤ c.count + inc →
      Answers (.counterWrap b n inc) s fun t =>
        Recorded { s with tele := { s.tele with counters := s.tele.counters.set (b * 8 + n) (c.add inc) } } t bCen 373 0x1101
          .info [(2, blkPage b), (1, n), (2, c.event)] ∧ DataKept s t)
  ∧ (∀ (m : Master) (mask : BitVec 32) (s : State),
      Answers (.groupStrobe m mask) s fun t =>
        t.regs.pendingGroups = s.regs.pendingGroups ||| (mask &&& 0xffff#32) ∧ t.regs.shadow = s.regs.shadow
          ∧ t.regs.active = s.regs.active ∧ DataKept s t ∧ ControlKept s t)

/-- When the active reference fails while the other is sound, the other becomes the reference, the failed one loses
its OK bit (a lost lock takes no OK bit), the PLL is locked and OSC_SWITCH is recorded. A standby failure with none
standing clears the standby's OK bit, sets the condition and records it; its end sets the OK bit, clears the condition
and records it. A difference above 100 ppm between two sound references sets the disagreement and records it once; one
within 100 ppm clears it. RETURN is held exactly while XO_BACKUP is the reference and MAIN_OK has stood for 1 s
(244,141 frames); FORCE_BACKUP exactly while XO_MAIN is the reference and BACKUP_OK is 1. A frame overrun with a late
task is counted in TT_MISS3 and recorded with its bitmap. FN, the map and the starts are unchanged, and so is the
data. Concludes that exec answers a next state for: oscSwitch, oscStandbyFail, oscStandbyOk, oscDisagree, returnMain,
forceBackup, frameOverrun. -/
def Obligations.ReferencesSwitchFailAndReturn : Prop :=
  (∀ (cause : OscCause) (s : State), s.tt.okOf (oscOther s.tt.src) = true → cause ≠ .forced →
      Answers (.oscSwitch cause) s fun t => t.tt.src = oscOther s.tt.src ∧ (cause ≠ .lostLock → t.tt.okOf s.tt.src = false) ∧ t.tt.locked = true
        ∧ t.tt.holdover = false ∧ t.tt.fn = s.tt.fn ∧ t.tt.map = s.tt.map ∧ DataKept s t
        ∧ Recorded s t bTt 369 0x0321 .warning [(1, oscVal s.tt.src), (1, causeVal cause)])
  ∧ (∀ (cause : OscCause) (s : State), s.tt.standbyFailed = false → cause ≠ .forced →
      Answers (.oscStandbyFail cause) s fun t => t.tt.src = s.tt.src ∧ t.tt.okOf (oscOther s.tt.src) = false
        ∧ t.tt.standbyFailed = true ∧ t.tt.fn = s.tt.fn ∧ DataKept s t
        ∧ Recorded s t bTt 369 0x0325 .error [(1, oscVal (oscOther s.tt.src)), (1, causeVal cause)])
  ∧ (∀ s : State, s.tt.okOf (oscOther s.tt.src) = false →
      Answers .oscStandbyOk s fun t => t.tt.src = s.tt.src ∧ t.tt.okOf (oscOther s.tt.src) = true
        ∧ t.tt.standbyFailed = false ∧ t.tt.fn = s.tt.fn ∧ DataKept s t
        ∧ Recorded s t bTt 369 0x0326 .info [(1, oscVal (oscOther s.tt.src))])
  ∧ (∀ (ppm : Int) (s : State), s.tt.mainOk = true → s.tt.backupOk = true →
      Answers (.oscDisagree ppm) s fun t => (t.tt.disagree = true ↔ 100 < ppm.natAbs) ∧ DataKept s t
        ∧ t.tt = { s.tt with disagree := t.tt.disagree }
        ∧ (100 < ppm.natAbs → s.tt.disagree = false → Recorded s t bTt 369 0x0322 .warning [(2, signed 2 ppm)])
        ∧ ((ppm.natAbs ≤ 100 ∨ s.tt.disagree = true) → t.tele = s.tele))
  ∧ (∀ s : State, Answers .returnMain s fun t =>
        (t.tt.returnReq = true ↔ s.tt.returnReq = true
          ∨ (s.tt.src = .backup ∧ s.tt.mainOk = true ∧ s.tt.mainOkSince + 244141 ≤ s.frame))
        ∧ t.tt = { s.tt with returnReq := t.tt.returnReq } ∧ t.tele = s.tele ∧ DataKept s t)
  ∧ (∀ s : State, Answers .forceBackup s fun t =>
        (t.tt.forceReq = true ↔ s.tt.forceReq = true ∨ (s.tt.src = .main ∧ s.tt.backupOk = true))
        ∧ t.tt = { s.tt with forceReq := t.tt.forceReq } ∧ t.tele = s.tele ∧ DataKept s t)
  ∧ (∀ (late : BitVec 8) (s : State), late ≠ 0 →
      Answers (.frameOverrun late) s fun t => t.tt.miss3 = sat32 s.tt.miss3 1 ∧ t.tt.overrunNow = true
        ∧ t.tt.fn = s.tt.fn ∧ DataKept s t ∧ Recorded (s.count bTt 0x43 1) t bTt 368 0x0312 .error [(1, late.toNat)])

/-- A MEMRD that its head takes (Taken): if its sector is valid in the resident page and the DRC has room, a read
entry with the sector's address, data, poison and the host's tag enters the queue of the subchannel, and the way's AGE
becomes 0. A mixed block takes places for its burst and for its metadata line. If the sector is not there but the
newest landing entry that holds it exists, the head answers with the entry's data (zeros where poisoned) in the same
command. If it is in neither, the page is resident, no read of the block is in flight and a slot can be reserved, a
media read of the block is reserved in that slot, of kind host, filling that way, with this request joined. A read of
the commit page that reaches an awake head in Open is answered with the head's FN copies of one cycle. All three
misses and hits leave DRAM and every media codeword as they were. Concludes that exec answers a next state for: memrd,
commitPageRead. -/
def Obligations.HostReadsAreServedWhereTheDataIs : Prop :=
  (∀ (cyc tag hpa dpa region w : Nat) (h : Fin 2) (s : State), let r := s.at cyc
      let lpn := lpnOfDpa dpa; let i := sectorOf dpa; let set := r.setOf lpn
      let c := r.setDram set; let a := r.sectorAddr set w i
      Taken r h hpa dpa region .read → r.findWay lpn = some w → (r.way set w).valid.getLsbD i = true →
      (r.uncached set = false ∨ (r.way set w).dirty.getLsbD i = true) → r.lostSet set = false →
      r.readRoom c a (if (r.way set w).mixed (i / 4) then some (r.metaAddr set w) else none) = true →
      Answers (.memrd cyc h tag hpa) s fun t =>
        (∃ d, (t.sub c (subOf a)).readQ = (s.sub c (subOf a)).readQ ++ [d] ∧ d.addr = a ∧ d.data = r.waySector set w i
          ∧ d.poison = (r.way set w).poison.getLsbD i ∧ d.req.origin = .host h tag)
        ∧ (t.way set w).age = 0 ∧ t.dram = s.dram ∧ t.media.cells = s.media.cells ∧ MemSent t [])
  ∧ (∀ (cyc tag hpa dpa region k : Nat) (l : Landing) (h : Fin 2) (s : State), let r := s.at cyc
      let lpn := lpnOfDpa dpa; let i := sectorOf dpa
      Taken r h hpa dpa region .read → (∀ w, r.findWay lpn = some w → (r.way (r.setOf lpn) w).valid.getLsbD i = false) →
      newest ((r.landingsOf lpn).filter fun p => p.2.valid.getLsbD i) = some (k, l) →
      (r.uncached (r.setOf lpn) || r.landingRead (r.setOf lpn)) = true →
      Answers (.memrd cyc h tag hpa) s fun t =>
        MemSent t [.memData h.val tag (if l.poison.getLsbD i then 0 else l.sector i) (l.poison.getLsbD i) (s.head h.val).devload]
          ∧ t.cache.ways = s.cache.ways ∧ t.cache.landing = s.cache.landing ∧ t.dram = s.dram
          ∧ t.media.cells = s.media.cells)
  ∧ (∀ (cyc tag hpa dpa region w step slot : Nat) (chans : List Nat) (susp : Bool) (h : Fin 2) (s : State), let r := s.at cyc
      let lpn := lpnOfDpa dpa; let j := sectorOf dpa / 4; let psn := r.readPsn lpn
      Taken r h hpa dpa region .read → r.findWay lpn = some w →
      (r.way (r.setOf lpn) w).valid.getLsbD (sectorOf dpa) = false →
      ((r.landingsOf lpn).filter fun p => p.2.valid.getLsbD (sectorOf dpa)) = [] →
      (r.media.reads.find? fun m => m.lpn == lpn && m.block == j && m.use == .fill) = none →
      (r.regionAt bXl (dpa / 64 * 64)).isSome = true → r.uncached (r.setOf lpn) = false → r.xlServes lpn = true →
      r.tracked (r.sliceOf (r.setOf lpn)) < 256 →
      r.reserve psn (blockPos psn j) r.now = some (step, chans, slot, susp) → step ≠ 4 →
      Answers (.memrd cyc h tag hpa) s fun t =>
        (∃ m q, t.media.reads = s.media.reads ++ [m] ∧ m.kind = .host ∧ m.lpn = lpn ∧ m.block = j ∧ m.psn = psn
          ∧ m.pos = blockPos psn j ∧ m.step = step ∧ m.chans = chans ∧ m.slot = slot ∧ m.way = some w ∧ m.joined = [q]
          ∧ q.origin = .host h tag)
        ∧ t.dram = s.dram ∧ t.media.cells = s.media.cells ∧ MemSent t [])
  ∧ (∀ (cyc tag off : Nat) (h : Fin 2) (s : State), s.deaf h.val = false → (s.hp h.val).moor = 0 → s.pwr.state = 2 →
      s.pwr.mooring = false → off < 64 →
      Answers (.commitPageRead cyc h tag off) s fun t =>
        MemSent t [.memData h.val tag (BitVec.ofNat 512 (ofBytes ((s.at cyc).commitBytes h.val))) false (s.head h.val).devload]
          ∧ DataKept s t)

/-- A MEMWR that its head takes, of a region that is not mirrored. Under write-back with the page resident, no gating
and no drain, and with room in the DRC and the dirty share: the sector of the page reads the new data, is valid and
dirty, carries the poison indication, and the host gets its NDR in the same command. A byte-enable write of a valid
sector does the same with the enabled bytes merged over the sector. Under write-through or write-around with a landing
entry of the page still open, the page not resident and a place under the commit-wait cap, the sector goes into that
entry, the request joins its waiters, and no NDR is sent before the commit. In each case ACCEPTED_FN of the head
becomes at least the FN, and no media codeword changes. Concludes that exec answers a next state for: memwr,
byteEnableWrite. -/
def Obligations.HostWritesLandInTheCacheOrTheLandingBuffer : Prop :=
  (∀ (cyc tag hpa dpa region w : Nat) (data : Sector) (poison : Bool) (h : Fin 2) (s : State),
      let r := s.at cyc
      let lpn := lpnOfDpa dpa; let i := sectorOf dpa; let set := r.setOf lpn; let n := r.sliceOf set
      let stored (d : Sector) (t : State) : Prop := t.waySector set w i = d
        ∧ (t.way set w).valid.getLsbD i = true ∧ (t.way set w).dirty.getLsbD i = true
        ∧ MemSent t [.ndr h.val tag (s.head h.val).devload] ∧ s.tt.fn ≤ (t.head h.val).acceptedFn
        ∧ t.cache.landing = s.cache.landing ∧ t.media.cells = s.media.cells
        ∧ (∀ set' w', set' ≠ set → w' < 8 → w < 8 → t.way set' w' = s.way set' w')
      Taken r h hpa dpa region .write → r.findWay lpn = some w → (r.region (bCs n) region).policy = 0 →
      r.mirrored (bCs n) region = false → r.fry.sendQ = [] → r.uncached set = false → r.draining = false →
      r.pwr.gated = false → ((r.way set w).isDirty = true ∨ r.dirtyRoom n lpn = true) →
      r.dramRoom (r.setDram set) (r.sectorAddr set w i) = true →
      (Answers (.memwr cyc h tag hpa data poison) s fun t => stored data t ∧ (t.way set w).poison.getLsbD i = poison)
      ∧ ∀ be, be ≠ BitVec.allOnes 64 → (r.way set w).valid.getLsbD i = true →
        Answers (.byteEnableWrite cyc h tag hpa data be poison) s (stored (mergeBytes (r.waySector set w i) data be)))
  ∧ (∀ (cyc tag hpa dpa region k : Nat) (data : Sector) (poison : Bool) (h : Fin 2) (s : State), let r := s.at cyc
      let lpn := lpnOfDpa dpa; let i := sectorOf dpa; let set := r.setOf lpn; let n := r.sliceOf set
      Taken r h hpa dpa region .write → r.findWay lpn = none →
      ((r.region (bCs n) region).policy = 1 ∨ (r.region (bCs n) region).policy = 2) →
      r.mirrored (bCs n) region = false → r.openEntry lpn = some k → r.waitRoom = true →
      Answers (.memwr cyc h tag hpa data poison) s fun t =>
        (t.entryK k).sector i = data ∧ (t.entryK k).valid.getLsbD i = true ∧ (t.entryK k).poison.getLsbD i = poison
          ∧ (∃ q, (t.entryK k).waiters = (s.entryK k).waiters ++ [q] ∧ q.origin = .host h tag) ∧ MemSent t []
          ∧ s.tt.fn ≤ (t.head h.val).acceptedFn ∧ t.media.cells = s.media.cells ∧ t.dram = s.dram)

/-- REQUEST_ADMIT of a waiting read that no earlier request of its page and no hold keeps back, whose sector is valid
in the resident page and for which the DRC has room: the request leaves the waiting list and its read entry enters the
DRC queue. FILL of a block that decoded, with nothing joined, into a way that holds its page and that no landing entry
shadows: every sector of the block that was not valid becomes valid with the block's data and poison bit (one whose
transfer failed its check twice with zeros, poisoned), the read is over, and the sectors that were valid stay valid.
VICTIM_MOVE_DONE ends the move of its landing entry, and nothing else of any entry changes. Concludes that exec
answers a next state for: requestAdmit, fillBlock, victimMoveDone. -/
def Obligations.WaitingRequestsAndFillsReachTheSlice : Prop :=
  (∀ (cyc id w : Nat) (r : HostReq) (s : State), let u := s.at cyc
      let set := u.setOf (lpnOfDpa r.dpa); let i := sectorOf r.dpa; let c := u.setDram set; let a := u.sectorAddr set w i
      (s.cache.waiting.find? fun q => q.id == id) = some r → r.kind = .read → u.behind r = false → u.unadmitted r = false →
      u.findWay (lpnOfDpa r.dpa) = some w → (u.way set w).valid.getLsbD i = true →
      (u.uncached set = false ∨ (u.way set w).dirty.getLsbD i = true) → u.lostSet set = false →
      u.readRoom c a (if (u.way set w).mixed (i / 4) then some (u.metaAddr set w) else none) = true →
      Answers (.requestAdmit cyc id) s fun t =>
        (∀ q ∈ t.cache.waiting, q.id ≠ id)
          ∧ (∃ d, (t.sub c (subOf a)).readQ = (s.sub c (subOf a)).readQ ++ [d] ∧ d.addr = a ∧ d.data = u.waySector set w i
              ∧ d.req.origin = r.origin ∧ d.req.id = r.id)
          ∧ t.dram = s.dram ∧ t.media.cells = s.media.cells)
  ∧ (∀ (cyc id w k : Nat) (m : MediaRead) (d : BitVec 2048) (p : BitVec 4) (s : State), let u := s.at cyc
      let set := u.setOf m.lpn; let i := 4 * m.block + k
      (s.media.reads.find? fun x => x.id == id) = some m → m.use = .fill → m.result = some (d, p) → m.step ≠ 4 →
      m.way = some w → m.entry = none → m.after = none → m.joined = [] → m.block < 16 → k < 4 → id < s.media.nextId →
      u.findWay m.lpn = some w → u.uncached set = false → u.lostSet set = false → u.landingsOf m.lpn = [] →
      Answers (.fillBlock cyc id) s fun t =>
        (t.way set w).valid.getLsbD i = true
          ∧ ((u.way set w).valid.getLsbD i = false →
              t.waySector set w i = (if m.spoiled.getLsbD k then 0 else lineSector d k)
                ∧ (t.way set w).poison.getLsbD i = (m.spoiled.getLsbD k || p.getLsbD k))
          ∧ (∀ x ∈ t.media.reads, x.id ≠ id) ∧ t.media.cells = s.media.cells)
  ∧ (∀ (cyc slice entry : Nat) (s : State), (s.entry slice entry).moving = true →
      Answers (.victimMoveDone cyc slice entry) s fun t =>
        t.entry slice entry = { s.entry slice entry with moving := false }
          ∧ (∀ k, k ≠ slice * 512 + entry → t.entryK k = s.entryK k) ∧ t.cache.ways = s.cache.ways ∧ t.dram = s.dram
          ∧ t.media = s.media)

/-- With the port idle, each operation takes its range: a count of 0 or a range past the user pages answers result 3,
a LOCK outside the regions that allow locks result 2, and in both cases the port is not busy and no page changes;
otherwise the port is busy with result 0. UNLOCK unlocks every resident page of its range at once and keeps data and
state bits. LOCK of one resident page, with fewer locked ways in its set than CS_LOCK_LIMIT, locks it. CLEAN of one
dirty resident page, with room in the eviction pool, makes it clean and leaves a landing entry that holds it.
INVALIDATE of one such page leaves a landing entry and drops the page. RANGE_DONE of an operation that has reached
every page, with no entry of its range short of Released, ends it with result 1 if pages were refused, else 0. A busy
port records an OVERLAP and changes nothing. Concludes that exec answers a next state for: unlockRange, lockRange,
cleanRange, invalidateRange, rangeDone. -/
def Obligations.RangeOperationsActOnEveryPageOfTheRange : Prop :=
  (∀ (op : RangeOp) (start count : Nat) (s : State),
      let command : Instr := match op with
        | .lock => .lockRange start count | .unlock => .unlockRange start count | .clean => .cleanRange start count
        | .invalidate => .invalidateRange start count
      (s.cache.port.busy = true → Answers command s fun t => t.cache = s.cache ∧ DataKept s t)
        ∧ (s.cache.port.busy = false → s.rangeCheck op start count ≠ 0 → Answers command s fun t =>
            t.cache.port.busy = false ∧ t.cache.port.result = s.rangeCheck op start count ∧ DataKept s t)
        ∧ (s.cache.port.busy = false → s.rangeCheck op start count = 0 → Answers command s fun t =>
            t.cache.port.busy = true ∧ t.cache.port.op = op ∧ t.cache.port.start = start ∧ t.cache.port.count = count
              ∧ t.cache.port.result = 0))
  ∧ (∀ (start count set w : Nat) (s : State), s.cache.port.busy = false → s.rangeCheck .unlock start count = 0 → w < 8 →
      start ≤ (s.way set w).lpn → (s.way set w).lpn < start + count →
      (s.cache.ways.filter fun p => p.2.used && p.2.lpn == (s.way set w).lpn) = [(set * 8 + w, s.way set w)] →
      Answers (.unlockRange start count) s fun t => t.way set w = { s.way set w with lock := false }
        ∧ t.cache.port.reached = true ∧ t.cache.port.done = count ∧ t.media.cells = s.media.cells ∧ t.cache.landing = s.cache.landing)
  ∧ (∀ (lpn w : Nat) (s : State), s.cache.port.busy = false → s.rangeCheck .lock lpn 1 = 0 → s.findWay lpn = some w →
      s.lockedIn (s.setOf lpn) < s.regF (bCs (s.sliceOf (s.setOf lpn))) 0x014 0 3 → s.tracked (s.sliceOf (s.setOf lpn)) ≤ 240 →
      Answers (.lockRange lpn 1) s fun t => (t.way (s.setOf lpn) w).lock = true ∧ (t.way (s.setOf lpn) w).lpn = lpn
        ∧ t.cache.port.done = 1 ∧ t.media.cells = s.media.cells)
  ∧ (∀ (lpn set w : Nat) (v : Way) (s : State), s.cache.port.busy = false → s.rangeCheck .clean lpn 1 = 0 → w < 8 →
      (s.cache.ways.filter fun p => p.2.used && p.2.lpn == lpn) = [(set * 8 + w, v)] → s.way set w = v →
      v.isDirty = true →
      s.evictUsed (s.sliceOf set) < 448 → s.landingUsed (s.sliceOf set) < 512 →
      Answers (.cleanRange lpn 1) s (fun t => (t.way set w).dirty = 0 ∧ (t.way set w).used = true
          ∧ (∃ k, (t.entryK k).busy = true ∧ (t.entryK k).lpn = lpn) ∧ t.media.cells = s.media.cells)
        ∧ Answers (.invalidateRange lpn 1) s (fun t => (t.way set w).used = false
          ∧ (∃ k, (t.entryK k).busy = true ∧ (t.entryK k).lpn = lpn) ∧ t.media.cells = s.media.cells))
  ∧ (∀ s : State, s.rangeOver = true → Answers .rangeDone s fun t => t.cache.port.busy = false
        ∧ t.cache.port.done = s.cache.port.done ∧ t.cache.port.result = (if 0 < s.cache.port.refused then 1 else 0)
        ∧ DataKept s t)

/-- BACKGROUND_DESTAGE of a slice that destages and has one dirty page, with room in the eviction pool, leaves the
page clean and a landing entry that holds it, and the walk goes past its set; with no dirty page it changes no page
and no entry. SLICE_REMOVED of a slice at fault level 3 marks it removed and draining, names a serving slice that is
not removed, or disables CXL.mem when none is left; what the landing entries hold stays. SLICE_DRAINED, once no page
of the removed slice is dirty and its landing buffer is empty, drops every page of its sets and ends the drain. Media
codewords stay. Concludes that exec answers a next state for: backgroundDestage, sliceRemoved, sliceDrained. -/
def Obligations.RemovedSlicesAreServedAndDrained : Prop :=
  (∀ (cyc slice set w : Nat) (bad : List (Nat × Nat × Bool)) (v : Way) (s : State), w < 8 → s.way set w = v →
      v.isDirty = true → ((s.waysOf slice).filter fun p => p.2.isDirty) = [(set * 8 + w, v)] →
      (∀ w' < 8, w' ≠ w → (s.way set w').isDirty = false) → (s.cs slice).destaging = true → (s.cs slice).removed = false →
      s.lostSet set = false → s.landingRoom (s.sliceOf set) true = true →
      Answers (.backgroundDestage cyc slice bad) s fun t => (t.way set w).isDirty = false
        ∧ (∃ k, (t.entryK k).busy = true ∧ (t.entryK k).lpn = v.lpn) ∧ (t.cs slice).walk = setIndex set + 1
        ∧ t.media.cells = s.media.cells)
  ∧ (∀ (cyc slice : Nat) (bad : List (Nat × Nat × Bool)) (s : State), (∀ p ∈ s.waysOf slice, p.2.isDirty = false) →
      Answers (.backgroundDestage cyc slice bad) s fun t => t.cache = s.cache ∧ DataKept s t)
  ∧ (∀ (slice : Nat) (s : State), slice < 16 → (s.cs slice).removed = false → s.integ.failedBlocks.contains (bCs slice) = true →
      Answers (.sliceRemoved slice) s fun t => (t.cs slice).removed = true ∧ (t.cs slice).draining = true
        ∧ ((∃ m, (t.cs slice).servedBy = some m ∧ m ≠ slice ∧ (s.cs m).removed = false) ∨ t.start.disabled = true)
        ∧ t.media.cells = s.media.cells
        ∧ ∀ k, { t.entryK k with waiters := [] } = { s.entryK k with waiters := [] })
  ∧ (∀ (slice : Nat) (s : State), (s.cs slice).removed = true → (s.cs slice).draining = true →
      (∀ p ∈ s.waysOf slice, p.2.isDirty = false) → s.landingUsed slice = 0 →
      Answers (.sliceDrained slice) s fun t => (t.cs slice).draining = false ∧ (t.cs slice).removed = true
        ∧ (∀ set w, w < 8 → setSlice set = slice → (t.way set w).used = false) ∧ t.media.cells = s.media.cells)

/-- In the slot guard, a landing entry that can cross and that nothing goes ahead of is granted the slot two on: a
crossing of its stripe in that slot and beat joins those in flight, the entry is Latched, and the slot has one start
more. At the start of the guard before its slot, a crossing with channels not ready is withdrawn: it is in flight no
more, its landing entry is Ready again, and TT_MISS1 counts it. In its beat a crossing not yet launched is launched on
the channels whose dies have not failed, and its entry is Written. A plane that has not completed by the end of its
guard takes the crossing out of flight and its entry back to Ready, and TT_MISS2 counts it. Once every channel has
completed, from slot s + 10 + K on, the commit takes the crossing out of flight and its entry is Released, free from
slot s + 11 + K, with no waiter left. From then on the entry becomes Free. Concludes that exec answers a next state
for: crossingGrant, crossingLate, crossingLaunch, writeLate, crossingCommit, landingEntryFree. -/
def Obligations.CrossingsAreGrantedLaunchedAndCommitted : Prop :=
  (∀ (cyc slice entry beat : Nat) (s : State), let r := s.at cyc; let k := slice * 512 + entry; let l := r.entryK k
      r.inGuard = true → beat < 6 → r.canCross l (r.now + 2) beat = true → r.isNext k l (r.now + 2) beat = true →
      r.xlServes l.lpn = true →
      Answers (.crossingGrant cyc (.landing slice entry) beat) s fun t =>
        (∃ x, t.media.crossings = s.media.crossings ++ [x] ∧ x.id = s.media.nextId ∧ x.work = .landing k
          ∧ x.psn = r.landingPsn l ∧ x.slot = r.now + 2 ∧ x.beat = beat ∧ x.launched = false ∧ x.host = true)
        ∧ t.entryK k = { l with st := .latched } ∧ t.tt.starts.getD (r.now + 2) 0 = s.tt.starts.getD (r.now + 2) 0 + 1
        ∧ t.media.cells = s.media.cells ∧ t.cache.ways = s.cache.ways)
  ∧ (∀ (cyc id k c : Nat) (missing : List Nat) (x : Crossing) (s : State), let r := s.at cyc
      (s.media.crossings.find? fun x => x.id == id) = some x → x.work = .landing k → x.launched = false → r.tt.cyc % 64 = 60 →
      r.now + 1 = x.slot → c ∈ missing → c ∈ x.chans →
      Answers (.crossingLate cyc id missing) s fun t => (∀ y ∈ t.media.crossings, y.id ≠ id) ∧ (t.entryK k).st = .ready
        ∧ t.tt.miss1 = sat32 s.tt.miss1 1 ∧ t.media.cells = s.media.cells ∧ t.cache.ways = s.cache.ways)
  ∧ (∀ (cyc id k : Nat) (x : Crossing) (s : State),
      (s.media.crossings.find? fun x => x.id == id) = some x → x.work = .landing k → x.launched = false →
      (s.at cyc).now = x.slot → (s.at cyc).curBeat = x.beat → s.sec.error = false →
      Answers (.crossingLaunch cyc id) s fun t => { s.liveChans x with launched := true } ∈ t.media.crossings ∧ (t.entryK k).st = .written
        ∧ t.media.cells = s.media.cells ∧ t.cache.ways = s.cache.ways)
  ∧ (∀ (cyc id k mch : Nat) (x : Crossing) (s : State), let r := s.at cyc
      (s.media.crossings.find? fun x => x.id == id) = some x → x.work = .landing k → x.launched = true → r.tt.cyc % 64 = 63 →
      mch ∈ x.chans → mch ∉ x.done → r.now = x.slot + 9 + x.k mch →
      Answers (.writeLate cyc id mch) s fun t => (∀ y ∈ t.media.crossings, y.id ≠ id) ∧ (t.entryK k).st = .ready
        ∧ t.tt.miss2 = sat32 s.tt.miss2 1 ∧ t.media.cells = s.media.cells ∧ t.cache.ways = s.cache.ways)
  ∧ (∀ (cyc id k : Nat) (x : Crossing) (s : State),
      (s.media.crossings.find? fun x => x.id == id) = some x → x.work = .landing k → x.launched = true →
      (∀ c ∈ x.chans, c ∈ x.done) → x.slot + 10 + x.kMax ≤ (s.at cyc).now →
      Answers (.crossingCommit cyc id) s fun t => (∀ y ∈ t.media.crossings, y.id ≠ id) ∧ (t.entryK k).st = .released
        ∧ (t.entryK k).freeAt = x.slot + 11 + x.kMax ∧ (t.entryK k).waiters = [] ∧ t.media.cells = s.media.cells)
  ∧ (∀ (cyc slice entry : Nat) (s : State), (s.entry slice entry).st = .released →
      (s.entry slice entry).freeAt ≤ (s.at cyc).now →
      Answers (.landingEntryFree cyc slice entry) s fun t => (t.entry slice entry).busy = false
        ∧ (∀ k, k ≠ slice * 512 + entry → t.entryK k = s.entryK k) ∧ t.media = s.media ∧ t.cache.ways = s.cache.ways)

/-- In the guard of the slot before, a launched crossing that holds its plane on a channel, with fewer than four
suspensions there, while no write of the channel is suspended yet and a read reserved for the next slot waits on the
plane, is suspended on the channel: the count of its suspensions there rises by one. At the start of the slot after
the one it is suspended for, WRITE_RESUME ends the suspension and keeps the count. In the guard of slot s + 9 + k a
plane that passes reports: the channel holds the crossing's codeword at the stripe, and the channel counts as done; no
other codeword changes. Concludes that exec answers a next state for: writeSuspend, writeResume, planeWriteCompletion.
-/
def Obligations.PlaneWritesSuspendResumeAndComplete : Prop :=
  (∀ (cyc id mch : Nat) (x : Crossing) (s : State), let r := s.at cyc
      (s.media.crossings.find? fun x => x.id == id) = some x → x.launched = true → r.inGuard = true → r.suspending mch = false →
      x.holds mch (r.now + 1) = true → x.k mch < 4 → r.suspendAsked mch x.psn = true →
      Answers (.writeSuspend cyc id mch) s fun t =>
        (∃ y ∈ t.media.crossings, y.id = id ∧ y.k mch = x.k mch + 1 ∧ y.suspended.get? mch = some (r.now + 1)
            ∧ y.done = x.done)
          ∧ t.media.cells = s.media.cells ∧ t.cache = s.cache)
  ∧ (∀ (cyc id mch u : Nat) (x : Crossing) (s : State), (s.media.crossings.find? fun x => x.id == id) = some x →
      x.suspended.get? mch = some u → (s.at cyc).now = u + 1 → (s.at cyc).tt.cyc % 64 = 0 →
      Answers (.writeResume cyc id mch) s fun t =>
        (∃ y ∈ t.media.crossings, y.id = id ∧ y.suspended.get? mch = none ∧ y.k mch = x.k mch ∧ y.done = x.done) ∧ t.media.cells = s.media.cells ∧ t.cache = s.cache)
  ∧ (∀ (cyc id mch : Nat) (x : Crossing) (s : State), let r := s.at cyc
      (s.media.crossings.find? fun x => x.id == id) = some x → x.launched = true → r.inGuard = true → mch ∈ x.chans →
      mch ∉ x.done → x.failed = [] → r.now = x.slot + 9 + x.k mch →
      Answers (.planeWriteCompletion cyc id mch 0) s fun t =>
        t.cell mch x.psn = x.cws.getD mch {} ∧ (∃ y ∈ t.media.crossings, y.id = id ∧ y.done = x.done ++ [mch])
          ∧ (∀ k, k ≠ cellKey mch x.psn → t.media.cells.get? k = s.media.cells.get? k) ∧ t.cache = s.cache ∧ t.dram = s.dram)

/-- In the cycles of a beat outside the guard, a read that may be commanded takes that beat, each channel's sense its
reference code, and the beat of the next slot is taken for its transfer. In that beat its codeword transfers: with
fewer than 14 bit errors, and its generation and MAC accepted, the read holds the line and its poison; with 14 or more
bit errors it holds no line and its step has failed. Data missing at the end of the beat sends a read that is no
maintenance read to the step before reconstruction, with the missing-beat cause of R249 on every joined request, and
TT_MISS0 counts it. In a guard a read whose step 1 failed reserves its step 2 in the first later slot in which the
channel can read the plane without a suspension, or an earlier one with a suspension. A read whose step 2 failed
reserves step 3 on the 16 other channels in one of the next four slots in which all of them can. No codeword, no way
and no landing entry changes. Concludes that exec answers a next state for: readCommand, readTransfer, missingBeat,
alternateReferenceRead, reconstructRead. -/
def Obligations.MediaReadsAreCommandedTransferredAndRetried : Prop :=
  (∀ (cyc id beat : Nat) (m : MediaRead) (s : State), let r := s.at cyc
      s.readOf id = some m → (∀ g, m.use ≠ .logical g) → beat = r.curBeat → r.canCommand m beat = true →
      Answers (.readCommand cyc id beat) s fun t =>
        t.readOf id = some { m with
            beat := some beat, slot := r.now, refs := m.chans.map fun c => (c, r.refCode c m.psn m.atAlternate) }
          ∧ (∀ c ∈ m.chans, (c, r.now + 1, beat) ∈ t.media.transfers) ∧ t.media.cells = s.media.cells ∧ t.cache = s.cache)
  ∧ (∀ (cyc id mch errs : Nat) (wrong : Bool) (m : MediaRead) (s : State), let r := s.at cyc
      s.readOf id = some m → m.step = 1 → m.kind ≠ .maintenance → m.block < 16 → m.lpn < userPages →
      m.beat = some r.curBeat → mch ∈ m.chans → mch ∉ m.got → m.slot + 1 = r.now →
      Answers (.readTransfer cyc id mch errs wrong) s fun t => t.media.cells = s.media.cells ∧ t.cache = s.cache
        ∧ (∀ d p, r.checkCw m.lpn m.block (r.cell mch m.psn) errs wrong = .good d p →
            t.readOf id = some { m with
              got := [mch], corrected := m.corrected.set mch errs, result := some (d, p), word := some (r.cell mch m.psn) })
        ∧ (14 ≤ errs → t.readOf id = some { m with got := [mch], bad := [m.pos], beat := none }))
  ∧ (∀ (cyc id mch : Nat) (m : MediaRead) (s : State), let r := s.at cyc
      s.readOf id = some m → m.kind ≠ .maintenance → m.beat = some r.curBeat → r.tt.cyc % 64 % 10 = 9 → mch ∈ m.chans →
      mch ∉ m.got → m.slot + 1 = r.now →
      Answers (.missingBeat cyc id mch) s fun t => t.media.cells = s.media.cells ∧ t.cache = s.cache
        ∧ t.tt.miss0 = sat32 s.tt.miss0 1
        ∧ t.readOf id = some { m with
            step := 2, bad := [m.pos], beat := none, got := [], alt := false, missed := true
            joined := m.joined.map fun q => { q with causes := q.causes ||| 1#8 } })
  ∧ (∀ (cyc id c i : Nat) (m : MediaRead) (s : State), let r := s.at cyc
      s.readOf id = some m → m.step = 1 → m.bad ≠ [] → m.kind ≠ .maintenance → m.chans = [c] → r.inGuard = true → i < 16 →
      r.takesRead m c (r.now + 1 + i) = true →
      Answers (.alternateReferenceRead cyc id) s fun t => t.media.cells = s.media.cells ∧ t.cache = s.cache
        ∧ (t.mch c).alt = sat32 (s.mch c).alt 1
        ∧ ∃ y, t.readOf id = some y ∧ y.step = 2 ∧ y.chans = m.chans ∧ y.bad = [] ∧ y.beat = none ∧ r.now < y.slot
            ∧ y.slot ≤ r.now + 1 + i ∧ y.suspends = (r.eligible c (dieOf m.psn) (planeOf m.psn) y.slot == some true))
  ∧ (∀ (cyc id i : Nat) (m : MediaRead) (s : State), let r := s.at cyc
      let others := (List.range 17).filter fun q => q != m.pos
      s.readOf id = some m → m.step = 2 → m.bad ≠ [] → m.kind ≠ .maintenance → m.pos < 17 →
      (∀ q ∈ others, r.missing m.psn q = false) → i < 4 →
      (∀ q ∈ others, r.takesRead m (r.assigned (dieOf m.psn) q) (r.now + 1 + i) = true) →
      Answers (.reconstructRead cyc id) s fun t => t.media.cells = s.media.cells ∧ t.cache = s.cache ∧ t.tele = s.tele
        ∧ ∃ y, t.readOf id = some y ∧ y.step = 3 ∧ y.chans = others.map (fun q => r.assigned (dieOf m.psn) q)
            ∧ y.bad = [] ∧ y.got = [] ∧ y.beat = none ∧ r.now < y.slot ∧ y.slot ≤ r.now + 1 + i)

/-- A single-codeword write owed that can begin in the beat begins there: it holds slot and beat, the frame's caps
count the slot, and no codeword changes yet. At an FN that is a multiple of 2^24 the alternate-reference windows of
every channel restart with no die recorded, and the lifetime counts stay; at such an FN the MCH tables are copied with
the FN, with the programs the copy cost the planes, and a line of each sentinel stripe is due to be written at its 16
positions; a stripe of the internal area that is due crosses in a slot and beat that maintenance may start in. A row
of a band that passes its interval is recorded as overdue at once and not again. Concludes that exec answers a next
state for: correctiveRewrite, altWindowEnd, mchTableCopy, sentinelRewrite, crossingGrant, refreshOverdue. -/
def Obligations.OwedRewritesBeginAndAlternateWindowsEnd : Prop :=
  (∀ (cyc id beat : Nat) (w : CwWrite) (s : State), let r := s.at cyc
      (s.media.rewrites.find? fun w => w.id == id) = some w → r.canRewrite w beat = true →
      Answers (.correctiveRewrite cyc id beat) s fun t =>
        { w with slot := some r.now, beat := beat } ∈ t.media.rewrites ∧ r.now ∈ t.tt.cwSlots
          ∧ t.media.cells = s.media.cells ∧ t.cache = s.cache)
  ∧ (∀ s : State, s.tt.fn % 2 ^ 24 = 0 → Answers .altWindowEnd s fun t => t.tele = s.tele ∧ t.media.cells = s.media.cells
        ∧ (∀ c, (t.mch c).altWin = [] ∧ (t.mch c).altRecorded = [] ∧ (t.mch c).alt = (s.mch c).alt
            ∧ (t.mch c).corr = (s.mch c).corr ∧ (t.mch c).uncorr = (s.mch c).uncorr))
  ∧ (∀ s : State, s.tt.fn % 2 ^ 24 = 0 → Answers .mchTableCopy s fun t =>
        t.media.tables = t.media.mchs ∧ t.media.tableFn = s.tt.fn ∧ (∀ c, t.mch c = { s.mch c with planes := (t.mch c).planes })
          ∧ t.media.reads = s.media.reads ∧ t.tele = s.tele ∧ DataKept s t)
  ∧ (∀ s : State, s.pwr.flush = none → s.tt.fn % 2 ^ 24 = 0 → Answers .sentinelRewrite s fun t =>
        (∀ i < 256, ∃ ws, t.media.internal.get? (6442451456 + i) = some ws ∧ ws.length = 16
          ∧ ∀ w ∈ ws, w.internal = true ∧ w.home = factoryHome (6442451456 + i) ∧ w.gen = (s.keySlot 64).cur)
        ∧ t.media.crossings = s.media.crossings ∧ t.tele = s.tele ∧ DataKept s t)
  ∧ (∀ (cyc beat psn : Nat) (ws : List Codeword) (s : State), let r := s.at cyc
      s.media.internal.get? psn = some ws → (∀ x ∈ s.media.crossings, x.work ≠ .internal psn) → r.inGuard = true → beat < 6 →
      r.maintStart psn (r.now + 2) beat = true →
      Answers (.crossingGrant cyc (.internal psn) beat) s fun t => t.media.cells = s.media.cells ∧ t.cache = s.cache
        ∧ ∃ x, t.media.crossings = s.media.crossings ++ [x] ∧ x.work = .internal psn ∧ x.psn = psn ∧ x.slot = r.now + 2
            ∧ x.beat = beat ∧ x.launched = false ∧ x.host = false)
  ∧ (∀ (mch band : Nat) (s : State), mch < 18 → band < 220 →
      let x := (s.mch mch).bands.getD band {}
      let age := x.age s.tt.fn band
      s.interval mch band < age →
      Answers (.refreshOverdue mch band) s fun t => DataKept s t
        ∧ ((t.mch mch).bands.getD band {}).overdue = true
        ∧ (x.overdue = false → Recorded s t (bMch mch) (dieSrc mch 0) 0x0603 .warning
            [(1, 0xff), (2, band), (6, age), (6, s.interval mch band)])
        ∧ (x.overdue = true → t.tele = s.tele))

/-- When a condition of R214 holds for a die that serves a position, the die is out (role 31) and DIE_FAILED is
recorded. With no rebuild target, degradation or substitution of its die number standing, a free spare die of the
number is due to take its position at the next tick; with no free spare the die number runs degraded at the position.
With the die number already degraded, its stripes are lost. A channel at fault level 3 is declared failed: its eight
dies are out, its link is down, the repeat guards it kept go to the next channel that has not failed, with empty
histories. A media link that loses its training falls at once; training regained within 16 frames brings it back. No
codeword, way or landing entry changes. Concludes that exec answers a next state for: dieFailed, channelFailed,
mediaPhyTrainingLost. -/
def Obligations.DieAndChannelFailuresAreTakenToTheSpare : Prop :=
  (∀ (mch die cause : Nat) (s : State), mch < 18 → die < 8 → s.role mch die < 17 → s.dieFails mch die cause = true →
      s.rebuildTarget die = none →
      Answers (.dieFailed mch die cause) s fun t => t.role mch die = 31 ∧ t.media.cells = s.media.cells ∧ t.cache = s.cache
        ∧ ((∀ p ∈ s.media.degraded, p.1 ≠ die) → (∀ x ∈ s.media.substitute, x.1 ≠ die) →
            (∀ sp, s.freeSpare die = some sp →
              t.media.substitute = s.media.substitute ++ [(die, s.role mch die, sp)]
                ∧ Recorded s t (bMch mch) (dieSrc mch die) 0x0621 .error [(1, die), (1, s.role mch die), (1, cause)])
            ∧ (s.freeSpare die = none → t.media.degraded = s.media.degraded ++ [(die, s.role mch die)]))
        ∧ ((∃ p ∈ s.media.degraded, p.1 = die) → die ∈ t.media.lost ∧ t.media.degraded = s.media.degraded))
  ∧ (∀ (mch : Nat) (s : State), mch < 18 → (s.mch mch).failed = false → bMch mch ∈ s.integ.failedBlocks →
      Answers (.channelFailed mch 1) s fun t => (t.mch mch).failed = true ∧ (t.mch mch).phyUp = false
        ∧ (∀ d < 8, t.role mch d = 31)
        ∧ (∀ k, 0 < k → k < 18 → (s.mch ((mch + k) % 18)).failed = false →
            (∀ j, 0 < j → j < k → (s.mch ((mch + j) % 18)).failed = true) → (t.mch ((mch + k) % 18)).takeover = true)
        ∧ (∀ g ∈ t.media.guards, s.guardian g.1 ≠ some mch) ∧ t.media.cells = s.media.cells ∧ t.cache = s.cache)
  ∧ (∀ (mch : Nat) (s : State), mch < 18 → (s.mch mch).failed = false → (s.mch mch).phyUp = true →
      Answers (.mediaPhyTrainingLost mch false) s fun t => (t.mch mch).phyUp = false ∧ (t.mch mch).phyLostAt = some s.tt.fn
        ∧ t.tele = s.tele ∧ DataKept s t)
  ∧ (∀ (mch f : Nat) (s : State), mch < 18 → (s.mch mch).failed = false → (s.mch mch).phyLostAt = some f → s.tt.fn < f + 16 →
      Answers (.mediaPhyTrainingLost mch true) s fun t => (t.mch mch).phyUp = true ∧ (t.mch mch).phyLostAt = none
        ∧ t.tele = s.tele ∧ DataKept s t)

/-- While the media engines run, a die number with a rebuild target and no rebuild gets one: its position is the one
the target serves, and it starts in this frame. For a stripe at the boundary that no crossing writes and that misses
only this position, a maintenance read of its 16 other positions is queued; once that read holds the reconstructed
codeword, the single-codeword write of it to the target is owed and the read is over. Owed, it begins in a maintenance
beat that can take it. Once the boundary has passed the last stripe the rebuild is over and the target die is a
rebuild target no more. Concludes that exec answers a next state for: rebuildStart, rebuildStripe, rebuildDone. -/
def Obligations.RebuildsReconstructStripeByStripe : Prop :=
  (∀ (die dst : Nat) (s : State), s.rebuildTarget die = some dst → s.enginesRun = true → (∀ r ∈ s.media.rebuilds, r.die ≠ die) →
      Answers (.rebuildStart die) s fun t => DataKept s t
        ∧ t.media.rebuilds = s.media.rebuilds ++ [{ die := die, pos := s.role dst die, dstMch := dst, start := s.tt.fn }])
  ∧ (∀ (cyc die beat : Nat) (q : Rebuild) (s : State), let r := s.at cyc
      let psn := skipMargin ((s.mch q.dstMch).rebuild.getD die die)
      let others := (List.range 17).filter fun p => p != q.pos
      (s.media.rebuilds.find? fun q => q.die == die) = some q →
      (∀ w ∈ s.media.rewrites, ¬ (w.kind = .rebuild q.pos ∧ dieOf w.psn = die ∧ w.mch = q.dstMch)) →
      (∀ m ∈ s.media.reads, m.use ≠ .rebuild die) → s.enginesRun = true → psn ≤ lastPsn die → r.crossingOn psn = false →
      r.missing psn q.pos = true → (∀ p ∈ others, r.missing psn p = false) →
      Answers (.rebuildStripe cyc die beat) s fun t => t.media.cells = s.media.cells ∧ t.cache = s.cache
        ∧ ∃ m, t.media.reads = s.media.reads ++ [m] ∧ m.use = .rebuild die ∧ m.kind = .maintenance ∧ m.psn = psn ∧ m.pos = q.pos
            ∧ m.step = 3 ∧ m.chans = others.map (fun p => r.assigned (dieOf psn) p) ∧ m.beat = none ∧ m.result = none)
  ∧ (∀ (cyc die beat : Nat) (q : Rebuild) (m : MediaRead) (cw : Codeword) (s : State),
      (s.media.rebuilds.find? fun q => q.die == die) = some q →
      (∀ w ∈ s.media.rewrites, ¬ (w.kind = .rebuild q.pos ∧ dieOf w.psn = die ∧ w.mch = q.dstMch)) →
      (s.media.reads.filter fun x => x.use == .rebuild die) = [m] → m.result.isSome = true → m.word = some cw →
      Answers (.rebuildStripe cyc die beat) s fun t => t.media.cells = s.media.cells ∧ t.cache = s.cache
        ∧ (∀ x ∈ t.media.reads, x.use ≠ .rebuild die)
        ∧ t.media.rewrites = s.media.rewrites ++ [{ id := s.media.nextId, kind := .rebuild q.pos, mch := q.dstMch, psn := m.psn
                                                    cw := cw }])
  ∧ (∀ (cyc die beat : Nat) (q : Rebuild) (w : CwWrite) (s : State), let r := s.at cyc
      (s.media.rebuilds.find? fun q => q.die == die) = some q →
      (s.media.rewrites.find? fun w => w.kind == .rebuild q.pos && dieOf w.psn == die && w.mch == q.dstMch) = some w →
      r.canRewrite w beat = true →
      Answers (.rebuildStripe cyc die beat) s fun t =>
        { w with slot := some r.now, beat := beat } ∈ t.media.rewrites ∧ r.now ∈ t.tt.cwSlots
          ∧ t.media.cells = s.media.cells ∧ t.cache = s.cache)
  ∧ (∀ (die : Nat) (q : Rebuild) (s : State), (s.media.rebuilds.find? fun q => q.die == die) = some q →
      lastPsn die < skipMargin ((s.mch q.dstMch).rebuild.getD die die) →
      Answers (.rebuildDone die) s fun t => (∀ x ∈ t.media.rebuilds, x.die ≠ die) ∧ die ∉ (t.mch q.dstMch).rebuilding
        ∧ DataKept s t
        ∧ Recorded s t (bMch q.dstMch) (dieSrc q.dstMch die) 0x0624 .info [(1, die), (1, q.pos), (4, s.tt.fn - q.start)])

/-- A DRAM channel that fails, outside a joined pair and with no read held on it: its clean pages are dropped, its
dirty pages keep exactly their dirty blocks, as dirty and poisoned sectors, and no write waits on it any more; the
first of four channels drains toward the geometry of three. A device identified as failed puts its subchannel into
erasure mode, and the first of four channels drains. At a frame's start, when the drain has left no dirty page, every
page is dropped, the drained channels are out of use and failed, and the others are in use. A subchannel that loses
training keeps the frame of the loss; retrained, it forgets it. Concludes that exec answers a next state for:
dramChannelFailed, dramDeviceErased, cacheReconfig, dramTrainingLost. -/
def Obligations.DramFailuresLoseOrPoisonPagesAndDrain : Prop :=
  (∀ (ch : Nat) (s : State), ch < 4 → (s.drc ch).failed = false → bDrc ch ∈ s.integ.failedBlocks → s.joined = false →
      (∀ u < 2, (s.sub ch u).readQ = []) →
      Answers (.dramChannelFailed ch 3 0 0) s fun t => (t.drc ch).failed = true ∧ t.media.cells = s.media.cells
        ∧ (∀ u < 2, (t.sub ch u).writeQ = [] ∧ (t.sub ch u).readQ = [])
        ∧ (ch ∈ s.cache.drams → ∀ set w, w < 8 → s.setDram set = ch → (s.way set w).used = true →
            ((s.way set w).isDirty = false → (t.way set w).used = false)
            ∧ ((s.way set w).isDirty = true → (t.way set w).lpn = (s.way set w).lpn
                ∧ (t.way set w).valid = (s.way set w).dirtyBlocks ∧ (t.way set w).dirty = (s.way set w).dirtyBlocks
                ∧ (t.way set w).poison = (s.way set w).dirtyBlocks))
        ∧ (ch ∈ s.cache.drams → s.cache.drams.length = 4 → s.cache.drainDrams = [] → t.cache.drainDrams = [ch]))
  ∧ (∀ (ch sub dev : Nat) (s : State), ch < 4 → sub < 2 → dev < 5 → s.erases ch sub dev 1 = true → (s.sub ch sub).erased = none →
      Answers (.dramDeviceErased ch sub dev 1) s fun t => (t.sub ch sub).erased = some dev ∧ DataKept s t
        ∧ (s.cache.drams.length = 4 → s.cache.drainDrams = [] → t.cache.drainDrams = [ch]
            ∧ Recorded s t (bDrc ch) (dramSrc ch sub dev) 0x0813 .error [(1, ch), (1, sub), (1, dev), (1, 1)]))
  ∧ (∀ s : State, s.draining = true → (∀ p ∈ s.cache.ways, p.2.isDirty = false) → s.tt.cyc = 0 →
      Answers .cacheReconfig s fun t => t.cache.ways = [] ∧ t.cache.drainDrams = []
        ∧ t.cache.drams = s.cache.drams.filter (fun c => !s.cache.drainDrams.contains c)
        ∧ (∀ c ∈ s.cache.drainDrams, (t.drc c).state = 7 ∧ (t.drc c).failed = true)
        ∧ t.cache.landing = s.cache.landing ∧ t.media.cells = s.media.cells)
  ∧ (∀ (ch sub : Nat) (ok : Bool) (s : State), ch < 4 → sub < 2 → (s.drc ch).failed = false →
      Answers (.dramTrainingLost ch sub ok) s fun t => t.tele = s.tele ∧ DataKept s t ∧ ControlKept s t
        ∧ (t.sub ch sub).lostAt = (if ok then none else some ((s.sub ch sub).lostAt.getD s.tt.fn)))

/-- A refresh interval that falls due while no batch of R415 runs that it could join: with no read held every owed
interval is issued; with reads held it is postponed while no more than the limit are owed, and otherwise all beyond
the limit are issued at once, with the refresh cause of R249 on every held read. One that falls due while such a batch
runs joins it. A reading of MR4 notes of each subchannel whether it is hot. A row whose count reaches the threshold
has its neighbours refreshed: counted, and its entry falls to the lowest count of its table. A management command
takes the threshold off the rolling count. Clearing a table empties it. A row idle for the time programmed is closed.
An idle subchannel of a module in Idle enters self-refresh with nothing owed and nothing queued, and leaves it when
woken. A drift check notes the drift, and asks for a retraining from 1/4 UI on. Media, stores and pages keep their
contents. Concludes that exec answers a next state for: dramRefreshDue, mr4Read, actMitigation, rfm, actTableClear,
pageIdleExpiry, selfRefreshEntry, selfRefreshExit, driftCheck. -/
def Obligations.DramUpkeepFollowsItsRules : Prop :=
  (∀ (cyc ch sub dur : Nat) (s : State), ch < 4 → sub < 2 → (s.sub ch sub).selfRefresh = false → (s.drc ch).state ≠ 0 →
      (s.drc ch).state ≠ 7 → ((s.sub ch sub).forcedTill ≤ (s.at cyc).ns ∨ 8 ≤ (s.sub ch sub).batch) →
      let v := s.sub ch sub
      Answers (.dramRefreshDue cyc ch sub dur) s fun t => DataKept s t
        ∧ (v.readQ = [] → (t.sub ch sub).owed = 0)
        ∧ (v.readQ ≠ [] → v.owed + 1 ≤ s.postponeMax ch sub → (t.sub ch sub).owed = v.owed + 1 ∧ (t.sub ch sub).readQ = v.readQ)
        ∧ (v.readQ ≠ [] → s.postponeMax ch sub < v.owed + 1 → (t.sub ch sub).owed = s.postponeMax ch sub
            ∧ (t.sub ch sub).openRows = []
            ∧ (t.drc ch).forcedCount = satAdd 0xffffff (s.drc ch).forcedCount (v.owed + 1 - s.postponeMax ch sub)
            ∧ ∀ q ∈ (t.sub ch sub).readQ, q.req.causes.getLsbD 6 = true))
  ∧ (∀ (cyc ch sub dur : Nat) (s : State), ch < 4 → sub < 2 → (s.sub ch sub).selfRefresh = false → (s.drc ch).state ≠ 0 →
      (s.drc ch).state ≠ 7 → (s.at cyc).ns < (s.sub ch sub).forcedTill → (s.sub ch sub).batch < 8 →
      Answers (.dramRefreshDue cyc ch sub dur) s fun t => DataKept s t ∧ (t.sub ch sub).owed = (s.sub ch sub).owed
        ∧ (t.sub ch sub).batch = (s.sub ch sub).batch + 1
        ∧ (t.drc ch).forcedCount = satAdd 0xffffff (s.drc ch).forcedCount 1)
  ∧ (∀ (ch dur : Nat) (hot0 hot1 : Bool) (s : State), ch < 4 → s.tt.fn % 32 = 0 →
      Answers (.mr4Read ch hot0 hot1 dur) s fun t => (t.sub ch 0).hot = hot0 ∧ (t.sub ch 1).hot = hot1 ∧ DataKept s t
        ∧ (hot0 = true → (s.sub ch 0).hot = false → (t.sub ch 0).owed = 2 * (s.sub ch 0).owed - min 8 (2 * (s.sub ch 0).owed)))
  ∧ (∀ (cyc ch sub bank row k : Nat) (e : ActEntry) (s : State), ch < 4 → sub < 2 →
      ((s.sub ch sub).acts.getD bank []).find? (fun e => e.2.row == row) = some (k, e) → s.actThreshold ch ≤ e.count →
      (s.sub ch sub).forcedTill ≤ (s.at cyc).ns →
      Answers (.actMitigation cyc ch sub bank row) s fun t => (t.drc ch).mitigations = sat32 (s.drc ch).mitigations 1
        ∧ (∃ low, ((t.sub ch sub).acts.getD bank []).get? k = some { row := e.row, count := low }
            ∧ ∀ x ∈ (s.sub ch sub).acts.getD bank [], low ≤ x.2.count)
        ∧ DataKept s t)
  ∧ (∀ (cyc ch sub bank threshold : Nat) (s : State), ch < 4 → sub < 2 → 0 < threshold →
      threshold ≤ (s.sub ch sub).rfm.getD bank 0 → (s.sub ch sub).forcedTill ≤ (s.at cyc).ns →
      Answers (.rfm cyc ch sub bank true threshold) s fun t => (t.drc ch).rfmCount = sat32 (s.drc ch).rfmCount 1
        ∧ (t.sub ch sub).rfm.getD bank 0 = (s.sub ch sub).rfm.getD bank 0 - threshold ∧ t.tele = s.tele ∧ DataKept s t)
  ∧ (∀ (ch sub bank : Nat) (s : State), ch < 4 → sub < 2 →
      Answers (.actTableClear ch sub bank) s fun t => (t.sub ch sub).acts.getD bank [] = []
        ∧ (∀ b, b ≠ bank → (t.sub ch sub).acts.getD b [] = (s.sub ch sub).acts.getD b []) ∧ t.tele = s.tele ∧ DataKept s t)
  ∧ (∀ (cyc ch sub bank : Nat) (p : Nat × Nat) (s : State), ch < 4 → sub < 2 → (s.sub ch sub).openRows.get? bank = some p →
      p.2 + s.regF (bDrc ch) 0x010 8 8 ≤ (s.at cyc).ns →
      Answers (.pageIdleExpiry cyc ch sub bank) s fun t => (t.sub ch sub).openRows.get? bank = none ∧ t.tele = s.tele
        ∧ DataKept s t)
  ∧ (∀ (cyc ch sub : Nat) (s : State), ch < 4 → sub < 2 → s.pwr.state = 3 → (s.drc ch).state = 3 → (s.sub ch sub).readQ = [] →
      (s.sub ch sub).selfRefresh = false → (s.sub ch sub).idleSince + s.regF (bDrc ch) 0x010 16 8 * 100000 ≤ (s.at cyc).ns →
      Answers (.selfRefreshEntry cyc ch sub) s fun t => (t.sub ch sub).selfRefresh = true ∧ (t.sub ch sub).owed = 0
        ∧ (t.sub ch sub).writeQ = [] ∧ (t.sub ch sub).openRows = [] ∧ t.cache = s.cache ∧ t.media = s.media
        ∧ ((s.sub ch sub).writeQ = [] → t.dram = s.dram))
  ∧ (∀ (cyc ch sub : Nat) (s : State), ch < 4 → sub < 2 → (s.sub ch sub).selfRefresh = true →
      Answers (.selfRefreshExit cyc ch sub) s fun t => (t.sub ch sub).selfRefresh = false ∧ (t.drc ch).state ≠ 4
        ∧ t.tele = s.tele ∧ DataKept s t)
  ∧ (∀ (ch : Nat) (d0 d1 : Int) (s : State), ch < 4 → s.tt.fn % 256 = 0 ∨ (s.sub ch 0).woken = true ∨ (s.sub ch 1).woken = true →
      (s.drc ch).state = 3 →
      Answers (.driftCheck ch d0 d1) s fun t => (t.sub ch 0).drift = d0 ∧ (t.sub ch 1).drift = d1 ∧ DataKept s t
        ∧ ((16 ≤ d0.natAbs ∨ 16 ≤ d1.natAbs) → ch ∈ t.mnt.retrain ∨ ch ∈ t.cache.retrainDrams))

/-- A retraining asked for starts, at once or at its retry, when no more pages than the limit are dirty on the channel
and nothing blocks it: the channel is out of service (STATE 6) and no longer waits. Once none of its pages is dirty
they are dropped; trained, it serves again (STATE 3) with no drift; not trained, it has failed. The next channel of a
frequency change has its writes drained and takes the speed, and the change ends with the last channel. A training run
accepted in STATE 1 or 6 clears the counters and is busy until it ends with the errors counted. A waiting activity
that nothing blocks begins with ACT_RESUMED: a retraining that waited starts as above, and the zero fill of a Sanitize
leaves every sector of DRAM reading as zeros under a new cache key. Concludes that exec answers a next state for:
dramRetrain, retrainRetry, frequencyChange, trainRun, trainRunDone, actResumed. -/
def Obligations.RetrainingFrequencyAndTrainingRuns : Prop :=
  (∀ (ch sub stage lane window ms : Nat) (ok : Bool) (s : State), ch ∉ s.cache.retrainDrams → ch ∈ s.mnt.retrain →
      s.dirtyOn ch ≤ s.regF bMnt 0x028 0 21 → s.blocker 8 = none →
      Answers (.dramRetrain ch ok sub stage lane window ms) s fun t => ch ∈ t.cache.retrainDrams ∧ ch ∉ t.mnt.retrain
        ∧ (t.drc ch).state = 6 ∧ t.tele = s.tele ∧ ContentKept s t)
  ∧ (∀ (ch : Nat) (s : State), s.tt.fn % 2 ^ 16 = 0 → ch ∈ s.mnt.retrainRefused → s.dirtyOn ch ≤ s.regF bMnt 0x028 0 21 →
      s.blocker 8 = none →
      Answers (.retrainRetry ch) s fun t => ch ∈ t.cache.retrainDrams ∧ ch ∉ t.mnt.retrain ∧ ch ∉ t.mnt.retrainRefused
        ∧ (t.drc ch).state = 6 ∧ t.tele = s.tele ∧ ContentKept s t)
  ∧ (∀ (ch sub stage lane window ms : Nat) (s : State), ch ∈ s.cache.retrainDrams → s.dirtyOn ch = 0 →
      Answers (.dramRetrain ch true sub stage lane window ms) s fun t => ch ∉ t.cache.retrainDrams ∧ (t.drc ch).state = 3
        ∧ (∀ u < 2, (t.sub ch u).drift = 0 ∧ (t.sub ch u).lostAt = none)
        ∧ (∀ set w, w < 8 → s.setDram set = ch → (t.way set w).used = false)
        ∧ (∀ k, { t.entryK k with waiters := [] } = { s.entryK k with waiters := [] }) ∧ t.media.cells = s.media.cells)
  ∧ (∀ (ch sub stage lane window ms : Nat) (s : State), ch ∈ s.cache.retrainDrams → s.dirtyOn ch = 0 →
      (∀ u < 2, (s.sub ch u).readQ = []) →
      Answers (.dramRetrain ch false sub stage lane window ms) s fun t => (t.drc ch).failed = true
        ∧ ch ∉ t.cache.retrainDrams ∧ t.media.cells = s.media.cells)
  ∧ (∀ (ch us speed : Nat) (s : State), s.mnt.freqTarget = some speed → s.blocker 9 = none → s.freqNext speed = some ch →
      s.mnt.waiting.has 9 = false →
      Answers (.frequencyChange ch us) s fun t => (t.drc ch).speed = speed ∧ (t.drc ch).state = 3
        ∧ (∀ u < 2, (t.sub ch u).writeQ = [] ∧ (t.sub ch u).owed = 0)
        ∧ t.mnt.freqTarget = (if (t.freqNext speed).isNone then none else some speed)
        ∧ t.cache.ways = s.cache.ways ∧ t.cache.landing = s.cache.landing ∧ t.media = s.media)
  ∧ (∀ (ch : Nat) (s : State), ch < 4 → (s.drc ch).state = 1 ∨ (s.drc ch).state = 6 → (s.drc ch).train.busy = false →
      Answers (.trainRun ch) s fun t => (t.drc ch).train = { (s.drc ch).train with busy := true, counters := [] }
        ∧ t.tele = s.tele ∧ DataKept s t ∧ ControlKept s t)
  ∧ (∀ (ch : Nat) (errs : List (Nat × Nat)) (s : State), ch < 4 → (s.drc ch).train.busy = true →
      Answers (.trainRunDone ch errs) s fun t => (t.drc ch).train.busy = false
        ∧ ((t.drc ch).train.errors = true ↔ ∃ e ∈ errs, e.1 < 80 ∧ 0 < e.2) ∧ t.tele = s.tele ∧ DataKept s t
        ∧ (∀ q n, errs = [(q, n)] → q < 80 →
            (t.drc ch).train.counters.getD q 0 = sat32 ((s.drc ch).train.counters.getD q 0) n))
  ∧ (∀ (since : Nat) (s : State), s.mnt.waiting.get? 12 = some since → s.blocker 12 = none → s.pwr.flush = none →
      Answers (.actResumed 12) s fun t => (∀ c x, t.dramLoad c x = 0) ∧ t.sec.cacheKeyEpoch = s.sec.cacheKeyEpoch + 1
        ∧ t.mnt.waiting.has 12 = false ∧ t.media = s.media ∧ t.store = s.store
        ∧ Recorded s t bMnt (actSource 12) 0x0D03 .info [(1, 12), (4, s.tt.fn - since)])
  ∧ (∀ (since c : Nat) (rest : List Nat) (s : State), s.mnt.waiting.get? 8 = some since → s.blocker 8 = none → s.pwr.flush = none →
      s.mnt.retrain = c :: rest → s.dirtyOn c ≤ s.regF bMnt 0x028 0 21 →
      Answers (.actResumed 8) s fun t => c ∈ t.cache.retrainDrams ∧ (t.drc c).state = 6 ∧ t.mnt.waiting.has 8 = false
        ∧ ContentKept s t)

/-- The burst of a held read that decodes: the read leaves its queue and its head answers with the sector, zeros where
it is poisoned. One that does not decode the first time stays held and is read once more; the second time, outside a
joined pair, a read of a dirty sector is answered with poison. A queued write that may be issued leaves the queue: its
sector, encrypted under the cache key (R319), decrypts to the data written, and every other byte of DRAM is unchanged.
A swept burst without error changes no page; one that fails twice, outside a joined pair, drops a clean sector of its
page and poisons a dirty one. Media keeps its codewords. Concludes that exec answers a next state for: dramReadReturn,
dramWriteIssue, dramSweepRead. -/
def Obligations.DramBurstsAreCorrectedReadAgainOrLost : Prop :=
  (∀ (cyc ch sub id errs dev tag : Nat) (h : Fin 2) (x : DrcRead) (s : State),
      ((s.sub ch sub).readQ.find? fun r => r.req.id == id) = some x → x.req.origin = .host h tag → x.req.mute = false →
      s.deaf h.val = false → s.corrects ch sub errs = true →
      Answers (.dramReadReturn cyc ch sub id errs dev) s fun t =>
        MemSent t [.memData h.val tag (if x.poison then 0 else x.data) x.poison (s.head h.val).devload]
          ∧ (∀ y ∈ (t.sub ch sub).readQ, y.req.id ≠ id) ∧ DataKept s t)
  ∧ (∀ (cyc ch sub id errs dev : Nat) (x : DrcRead) (s : State),
      ((s.sub ch sub).readQ.find? fun r => r.req.id == id) = some x → s.corrects ch sub errs = false → x.retried = false →
      Answers (.dramReadReturn cyc ch sub id errs dev) s fun t => t.out = [] ∧ DataKept s t
        ∧ ((t.sub ch sub).readQ.find? fun r => r.req.id == id) = some { x with retried := true })
  ∧ (∀ (cyc ch sub id errs dev tag : Nat) (h : Fin 2) (x : DrcRead) (s : State),
      ((s.sub ch sub).readQ.find? fun r => r.req.id == id) = some x → x.req.origin = .host h tag → x.req.mute = false →
      s.deaf h.val = false → s.corrects ch sub errs = false → x.retried = true → x.dirty = true → s.joined = false →
      Answers (.dramReadReturn cyc ch sub id errs dev) s fun t =>
        MemSent t [.memData h.val tag 0 true (s.head h.val).devload] ∧ (∀ y ∈ (t.sub ch sub).readQ, y.req.id ≠ id)
          ∧ t.media.cells = s.media.cells)
  ∧ (∀ (cyc ch sub addr : Nat) (p : Nat × Sector) (s : State), let u := s.sub ch sub
      let row (x : Nat) : Option Nat := (u.openRows.get? (bankOf x)).map fun p => p.1
      s.memOk → ch < 4 → sub < 2 → u.selfRefresh = false → (u.readQ = [] ∨ 112 < u.writeQ.length) →
      (u.writeQ.find? fun p => p.1 == addr) = some p →
      (row addr = some (dramRow addr) ∨ ∀ w ∈ u.writeQ, row w.1 ≠ some (dramRow w.1)) →
      Answers (.dramWriteIssue cyc ch sub addr) s fun t => (∀ w ∈ (t.sub ch sub).writeQ, w.1 ≠ addr)
        ∧ t.dramLoad ch addr = p.2
        ∧ (∀ a, a < dramAddr ch addr ∨ dramAddr ch addr + 64 ≤ a → Mem.read t.dram a = Mem.read s.dram a)
        ∧ t.cache = s.cache ∧ t.media.cells = s.media.cells ∧ t.out = [])
  ∧ (∀ (cyc ch addr again dev : Nat) (last : Bool) (s : State), ch < 4 → (s.drc ch).state = 3 →
      (s.sub ch (subOf addr)).selfRefresh = false → s.pwr.state ≠ 4 →
      Answers (.dramSweepRead cyc ch addr 0 again dev last) s fun t => DataKept s t ∧ (t.drc ch).uncorr = (s.drc ch).uncorr
        ∧ t.integ.dramPasses = (if last then satAdd 255 s.integ.dramPasses 1 else s.integ.dramPasses))
  ∧ (∀ (cyc ch addr errs again dev set w i : Nat) (s : State), ch < 4 → (s.drc ch).state = 3 →
      (s.sub ch (subOf addr)).selfRefresh = false → s.pwr.state ≠ 4 → s.corrects ch (subOf addr) errs = false →
      s.corrects ch (subOf addr) again = false → addr < 0x780000000 → s.placeOf ch addr = some (set, w, i) → i < 64 →
      (s.way set w).valid.getLsbD i = true → s.joined = false →
      Answers (.dramSweepRead cyc ch addr errs again dev false) s fun t => t.media.cells = s.media.cells
        ∧ ((s.way set w).dirty.getLsbD i = false → (t.way set w).valid.getLsbD i = false)
        ∧ ((s.way set w).dirty.getLsbD i = true → (t.way set w).poison.getLsbD i = true ∧ (t.way set w).dirty.getLsbD i = true
            ∧ (t.way set w).valid.getLsbD i = true))

/-- The physical pass of a channel passes over a stripe whose die is out, and queues a maintenance read of the
codeword of any other; when that read has passed, or the stripe is passed over, its position moves to the next stripe,
the pass ends after the last one and is counted, and no codeword or page changes. A page of a logical pass has its 17
codewords read; read without failure they move the pass to its next page, and at its end to its start. An SRAM word
without error or with one corrected changes nothing; a tag word lost outside a joined pair drops its page, which
leaves for media with every sector poisoned; a landing sector lost is poisoned; a word lost in both copies of a core
table takes its block to fault level 3. A block that comes from the peer leaves the list of those waited for and fills
an entry of its page. At an FN that is a multiple of 2^20 the window of MAC failures restarts. Concludes that exec
answers a next state for: sweepMediaRead, sweepLogicalRead, sramSweepRead, peerRepaired, macWindowEnd. -/
def Obligations.SweepsReadCheckAndRepair : Prop :=
  (∀ (cyc mch : Nat) (s : State), let psn := s.integ.sweepPos.getD mch 0
      mch < 18 → s.enginesRun = true → psn % 33554432 ≠ 0 → s.integ.rewriting.contains mch = false →
      (∀ m ∈ s.media.reads, m.use ≠ .sweep mch) →
      Answers (.sweepMediaRead cyc mch) s fun t => t.media.cells = s.media.cells ∧ t.cache = s.cache
        ∧ t.media.rewrites = s.media.rewrites
        ∧ (s.sweepSkips mch psn = true → t.media.reads = s.media.reads ∧ sweepsOn s t mch psn)
        ∧ (s.sweepSkips mch psn = false → t.integ.sweepPos = s.integ.sweepPos
            ∧ ∃ m ∈ t.media.reads, m.use = .sweep mch ∧ m.kind = .maintenance ∧ m.psn = psn ∧ m.pos = s.role mch (dieOf psn)
                ∧ m.beat = none ∧ m.result = none))
  ∧ (∀ (cyc mch : Nat) (m : MediaRead) (s : State), mch < 18 → s.integ.rewriting.contains mch = false →
      (s.media.reads.filter fun x => x.use == .sweep mch) = [m] → m.result.isSome = true → m.step ≠ 4 →
      Answers (.sweepMediaRead cyc mch) s fun t => t.media.cells = s.media.cells ∧ t.cache = s.cache
        ∧ t.media.rewrites = s.media.rewrites ∧ (∀ x ∈ t.media.reads, x.use ≠ .sweep mch) ∧ sweepsOn s t mch m.psn)
  ∧ (∀ (cyc region base len : Nat) (s : State), let pos := s.integ.logicalPos.getD region 0
      s.passRange region = some (base, len) → s.enginesRun = true → s.integ.logicalNow < s.logicalCap → region < 64 →
      pos < len → 0 < pos ∨ s.passDue region = true → (∀ m ∈ s.media.reads, m.use ≠ .logical region) →
      Answers (.sweepLogicalRead cyc region) s fun t => t.media.cells = s.media.cells
        ∧ t.integ.logicalPos = s.integ.logicalPos ∧ t.integ.logicalNow = s.integ.logicalNow + 1
        ∧ ∀ q < 17, ∃ m ∈ t.media.reads, m.use = .logical region ∧ m.psn = s.readPsn (base + pos) ∧ m.pos = q)
  ∧ (∀ (cyc region base len : Nat) (s : State), let pos := s.integ.logicalPos.getD region 0
      let rs := s.media.reads.filter fun m => m.use == .logical region
      s.passRange region = some (base, len) → region < 64 → rs ≠ [] →
      (∀ m ∈ rs, m.result.isSome = true ∧ m.step ≠ 4 ∧ m.erred = false) →
      Answers (.sweepLogicalRead cyc region) s fun t => t.media.cells = s.media.cells
        ∧ t.integ.logicalPos.getD region 0 = (if pos + 1 < len then pos + 1 else 0)
        ∧ ∀ m ∈ t.media.reads, m.use ≠ .logical region)
  ∧ (∀ (block sram addr errs site a b c : Nat) (both last : Bool) (s : State), block < 54 → s.live block = true → errs < 2 →
      Answers (.sramSweepRead block sram addr errs site a b c both last) s fun t => DataKept s t ∧ ControlKept s t
        ∧ t.integ.sramPasses = (if last then satAdd 0xffff s.integ.sramPasses 1 else s.integ.sramPasses))
  ∧ (∀ (block sram addr errs a b : Nat) (both : Bool) (s : State), block < 54 → s.live block = true → 2 ≤ errs →
      s.landingRoom (s.sliceOf a) true = true → (s.way a b).used = true → s.joined = false →
      Answers (.sramSweepRead block sram addr errs 0 a b 0 both false) s fun t => (t.way a b).used = false
        ∧ t.media.cells = s.media.cells
        ∧ ∃ e, (t.entry (s.sliceOf a) e).lpn = (s.way a b).lpn ∧ (t.entry (s.sliceOf a) e).poison = BitVec.allOnes 64
            ∧ (t.entry (s.sliceOf a) e).valid = BitVec.allOnes 64)
  ∧ (∀ (block sram addr errs a b c : Nat) (both : Bool) (s : State), block < 54 → s.live block = true → 2 ≤ errs → c < 64 →
      (s.entry a b).busy = true → (s.entry a b).valid.getLsbD c = true →
      Answers (.sramSweepRead block sram addr errs 1 a b c both false) s fun t => (t.entry a b).poison.getLsbD c = true
        ∧ (t.entry a b).data = (s.entry a b).data ∧ t.cache.ways = s.cache.ways ∧ t.media.cells = s.media.cells)
  ∧ (∀ (block sram addr errs a b c : Nat) (s : State), block < 54 → s.live block = true → 2 ≤ errs →
      Answers (.sramSweepRead block sram addr errs 2 a b c true false) s fun t => block ∈ t.integ.failedBlocks ∧ DataKept s t
        ∧ Recorded s t block (blkSource block) 0x0802 .error [(1, sram), (4, addr), (1, 2)])
  ∧ (∀ (cyc lpn block : Nat) (data : BitVec 2048) (poison : BitVec 4) (s : State), let n := s.pageSlice lpn
      block < 16 → lpn * 16 + block ∈ s.integ.fromPeer → s.landingRoom n true = true →
      Answers (.peerRepaired cyc lpn block data poison true) s fun t => lpn * 16 + block ∉ t.integ.fromPeer
        ∧ t.media.cells = s.media.cells
        ∧ ∃ e, (t.entry n e).lpn = lpn ∧ (t.entry n e).valid &&& blockMask block 15 = blockMask block 15)
  ∧ (∀ s : State, s.tt.fn % 2 ^ 20 = 0 → Answers .macWindowEnd s fun t =>
        t.integ = { s.integ with macFails := 0, macStorm := false } ∧ t.tele = s.tele ∧ DataKept s t)

/-- A transfer that fails its check in a live block is discarded, counted and recorded, and nothing else changes when
the retry passes. When the retry fails the block is at fault level 3: a host read that waits is answered with poison,
a host write that waits is accepted poisoned, a crossing not yet launched is withdrawn. A checkpoint of a management
pair notes its time and no other pair's. A lockstep mismatch is counted and noted with its time; a second within 1 s
restarts the pair from ROM, as a trap does at once, and a background command of pair A ends with Retry Required. The
restart's end resumes the pair. Concludes that exec answers a next state for: datapathRetried, mgtCheckpoint,
mgtLockstep, mgtTrap, romRestartDone. -/
def Obligations.DatapathRetriesAndManagementPairs : Prop :=
  (∀ (block stage check kind id : Nat) (s : State), block < 54 → s.live block = true →
      Answers (.datapathRetried block stage check false kind id) s fun t => DataKept s t ∧ ControlKept s t
        ∧ t.integ = s.integ ∧ Recorded (s.count block 6 1) t block (blkSource block) 0x0831 .warning [(1, stage), (1, check)])
  ∧ (∀ (block stage check id tag : Nat) (h : Fin 2) (q : HostReq) (s : State), block < 54 → s.live block = true →
      (s.cache.waiting.find? fun q => q.id == id && q.kind == .read) = some q → q.origin = .host h tag → q.mute = false →
      s.deaf h.val = false →
      Answers (.datapathRetried block stage check true 0 id) s fun t => block ∈ t.integ.failedBlocks
        ∧ MemSent t [.memData h.val tag 0 true (s.head h.val).devload] ∧ (∀ x ∈ t.cache.waiting, x.id ≠ id)
        ∧ t.media.cells = s.media.cells)
  ∧ (∀ (block stage check id : Nat) (q : HostReq) (s : State), block < 54 → s.live block = true →
      (s.cache.waiting.find? fun q => q.id == id && q.kind != .read) = some q →
      Answers (.datapathRetried block stage check true 1 id) s fun t => block ∈ t.integ.failedBlocks
        ∧ { q with poison := true } ∈ t.cache.waiting ∧ t.out = [] ∧ t.cache.ways = s.cache.ways
        ∧ t.media.cells = s.media.cells)
  ∧ (∀ (block stage check id : Nat) (x : Crossing) (s : State), block < 54 → s.live block = true →
      (s.media.crossings.find? fun x => x.id == id && !x.launched) = some x →
      Answers (.datapathRetried block stage check true 2 id) s fun t => block ∈ t.integ.failedBlocks
        ∧ (∀ y ∈ t.media.crossings, y.id ≠ id) ∧ t.media.cells = s.media.cells ∧ t.cache.ways = s.cache.ways)
  ∧ (∀ (pair : Nat) (s : State), pair < 2 → Answers (.mgtCheckpoint pair) s fun t => t.tele = s.tele ∧ DataKept s t
        ∧ t.integ = (if pair = 0 then { s.integ with ckptA := s.uptimeUs } else { s.integ with ckptB := s.uptimeUs }))
  ∧ (∀ (pair : Nat) (s : State), pair < 2 → let last := if pair = 0 then s.integ.lockstepA else s.integ.lockstepB
      let ckpt := if pair = 0 then s.integ.ckptA else s.integ.ckptB
      Answers (.mgtLockstep pair) s fun t => DataKept s t
        ∧ (if pair = 0 then t.integ.lockstepA else t.integ.lockstepB) = some s.uptimeUs
        ∧ Recorded (s.count bMgt 0x40 1) t bMgt (if pair = 0 then 352 else 360) 0x0861 .error [(1, pair), (4, s.uptimeUs - ckpt)]
        ∧ (∀ f, last = some f → s.uptimeUs ≤ f + 1000000 → (if pair = 0 then t.integ.romA else t.integ.romB) = true)
        ∧ ((∀ f, last = some f → f + 1000000 < s.uptimeUs) → t.integ.romA = s.integ.romA ∧ t.integ.romB = s.integ.romB))
  ∧ (∀ (pair cause addr : Nat) (s : State), pair < 2 → Answers (.mgtTrap pair cause addr) s fun t =>
        (if pair = 0 then t.integ.romA else t.integ.romB) = true ∧ DataKept s t
        ∧ Recorded s t bMgt (if pair = 0 then 352 else 360) 0x0862 .error [(1, pair), (1, cause), (4, addr)]
        ∧ (∀ b, pair = 0 → s.mbox.bg = some b → t.out = [.reply (2 + b.1) rcRetry []] ∧ t.mbox.bg = none))
  ∧ (∀ (pair : Nat) (s : State), pair < 2 → Answers (.romRestartDone pair) s fun t => t.tele = s.tele ∧ DataKept s t
        ∧ t.integ = (if pair = 0 then { s.integ with romA := false } else { s.integ with romB := false }))

/-- Whatever the placement key (the mixing functions are free): each LPN below 3 × 2^31 has a district below 384 and
an offset below 2^24 from which lpnOf gives the LPN back, and each such district and offset is that of exactly one LPN
below 3 × 2^31. In a district with START below N and GAP at most N, each offset has a slot of at most N that is not
the gap and from which offOf gives the offset back, and each slot that is not the gap is that of one offset. Different
districts have no PSN in common. In each stripe, the 16 data blocks and the parity sit at 17 different positions, and
posBlock gives the block back. -/
def Obligations.PlacementIsABijectionOfPages : Prop :=
  (∀ l, l < 3 * 2 ^ 31 → (distOf l).1 < 384 ∧ (distOf l).2 < 2 ^ 24 ∧ lpnOf (distOf l).1 (distOf l).2 = l)
  ∧ (∀ d o, d < 384 → o < 2 ^ 24 → lpnOf d o < 3 * 2 ^ 31 ∧ distOf (lpnOf d o) = (d, o))
  ∧ (∀ (x : District) (o : Nat), x.start < distN → x.gap ≤ distN → o < distN →
      x.slotOf o ≤ distN ∧ x.slotOf o ≠ x.gap ∧ x.offOf (x.slotOf o) = o)
  ∧ (∀ (x : District) (p : Nat), x.start < distN → x.gap ≤ distN → p ≤ distN → p ≠ x.gap →
      x.offOf p < distN ∧ x.slotOf (x.offOf p) = p)
  ∧ (∀ d d' p p' : Nat, p ≤ distN → p' ≤ distN → psnOf d p = psnOf d' p' → d = d' ∧ p = p')
  ∧ (∀ psn j, j < 16 → blockPos psn j < 17 ∧ blockPos psn j ≠ parityPos psn ∧ posBlock psn (blockPos psn j) = some j)

/-- The commit of a gap move, for every district whose START is below N and GAP at most N: for GAP g from 1 to N, GAP
becomes g − 1 and START stays; for GAP 0, GAP becomes N and START (START + 1) mod N; PENDING falls by one. The page in
the slot the move copies from (slot g − 1, or N for GAP 0) is afterwards in the slot it copies to (slot g, or 0), and
every other page of the district keeps its slot. Every other district keeps all its values. -/
def Obligations.AGapMoveMovesExactlyOnePage : Prop :=
  ∀ (d : Nat) (s : State), (s.district d).start < distN → (s.district d).gap ≤ distN →
    let x := s.district d
    let y := (s.gapCommit d).district d
    (1 ≤ x.gap → y.gap = x.gap - 1 ∧ y.start = x.start ∧ x.next = (x.gap - 1, x.gap))
      ∧ (x.gap = 0 → y.gap = distN ∧ y.start = (x.start + 1) % distN ∧ x.next = (distN, 0))
      ∧ y.pending = x.pending - 1 ∧ y.wcount = x.wcount ∧ y.frozen = x.frozen
      ∧ (∀ o < distN, y.slotOf o = if x.slotOf o = x.next.1 then x.next.2 else x.slotOf o)
      ∧ ∀ e, e ≠ d → (s.gapCommit d).district e = s.district e

/-- A probe of a user DPA shows the district, offset, slot and PSN that the active state gives its page, and one
outside user memory shows that; neither changes a table. A decoder commit that passes every check installs the
decoder; one that fails leaves the decoders and is recorded with its cause. The commit of a crossing that wraps a
write counter restarts it at 0 and raises PENDING, or, at 15, drops the move and counts it in XL_GAP_LOST. A gap move
of a district with PENDING, not frozen and with none in flight, and a stripe retirement with a spare stripe free,
begin a copy of the right source to the right target: maintenance reads of the source's 17 positions are queued, and
the tables and the codewords stay until the copy commits. A berth retirement takes the next spare berth, and then
copies stripe by stripe, from the stripe's own spare where it has one. A checkpoint that verifies is the older of the
two slots' new content; one that does not leaves the store as it was. Concludes that exec answers a next state for:
translationProbe, hdmDecoderCommit, writeCounterWrap, gapMove, stripeRetirement, berthRetirement, districtCheckpoint.
-/
def Obligations.TranslationCommandsFollowTheirRules : Prop :=
  (∀ (dpa : Nat) (s : State), dpa < windowBase → let l := dpa / 4096
      Answers (.translationProbe dpa) s fun t => DataKept s t ∧ t.xl.probeDone = true ∧ t.xl.probeOut = false
        ∧ t.xl.probePsn = s.psnOfLpn l ∧ t.xl.probeDistrict = (distOf l).1 ∧ t.xl.probeOffset = (distOf l).2
        ∧ t.xl.probeSlot = (s.district (distOf l).1).slotOf (distOf l).2
        ∧ t.xl.districts = s.xl.districts ∧ t.xl.berths = s.xl.berths ∧ t.xl.stripes = s.xl.stripes ∧ t.xl.moves = s.xl.moves)
  ∧ (∀ (dpa : Nat) (s : State), windowBase ≤ dpa % 2 ^ 45 →
      Answers (.translationProbe dpa) s fun t => DataKept s t ∧ t.xl.probeDone = true ∧ t.xl.probeOut = true
        ∧ t.xl.probePsn = 0 ∧ t.xl.districts = s.xl.districts)
  ∧ (∀ (h : Fin 2) (n base size ways gran skip : Nat) (lock : Bool) (s : State),
      let cause := s.hdmCause h.val n base size ways gran skip
      (cause = 0 → Answers (.hdmDecoderCommit h n base size ways gran skip lock) s fun t => t.out = [.decoder h.val n true] ∧ t.tele = s.tele ∧ DataKept s t
        ∧ (t.hp h.val).hdms.get? n = some { base := base, size := size, ways := ways, gran := gran, locked := lock
                                            dpa := (if n = 0 then 0 else s.hdmEnd h.val (n - 1)) + skip }
        ∧ ∀ k, k ≠ n → (t.hp h.val).hdms.get? k = (s.hp h.val).hdms.get? k)
      ∧ (cause ≠ 0 → Answers (.hdmDecoderCommit h n base size ways gran skip lock) s fun t => t.out = [.decoder h.val n false] ∧ t.hps = s.hps ∧ DataKept s t
        ∧ Recorded s t (bHp h.val) (248 + 12 * h.val + 2) 0x0c21 .warning [(1, n), (1, cause - 1)]))
  ∧ (∀ (d k : Nat) (x : Crossing) (s : State), d < 384 → (s.district d).wcount = 63 →
      (s.media.crossings.find? fun x => s.commitsIn d x) = some x → x.work = .landing k → x.repeated = false →
      Answers (.writeCounterWrap d) s fun t => (t.district d).wcount = 0 ∧ (t.entryK k).st = .released
        ∧ (t.district d).pending = min 15 ((s.district d).pending + 1) ∧ (t.district d).gap = (s.district d).gap
        ∧ t.xl.gapLost = sat32 s.xl.gapLost ((s.district d).pending + 1 - 15) ∧ (∀ e, e ≠ d → t.district e = s.district e)
        ∧ t.media.cells = s.media.cells)
  ∧ (∀ (cyc d : Nat) (s : State), let r := s.at cyc; let x := s.district d
      let src := s.remap (psnOf d x.next.1); let dst := s.remap (psnOf d x.next.2)
      d < 384 → s.enginesRun = true → 0 < x.pending → x.frozen = false → s.districtMoving d = false → r.crossingOn src = false →
      s.copyFree src dst = true →
      Answers (.gapMove cyc d) s fun t => t.media.cells = s.media.cells ∧ t.cache.ways = s.cache.ways
        ∧ t.xl.districts = s.xl.districts ∧ copyBegun s t (.gapMove d) src dst)
  ∧ (∀ (cyc psn : Nat) (s : State), let r := s.at cyc; let dst := 6459228672 + s.xl.nextStripe
      (s.xl.retireQ.find? fun e => !e.1) = some (false, psn) → s.xl.full = false → s.enginesRun = true →
      s.stripesFull = false → (∀ m ∈ s.xl.moves, m.kind ≠ .stripeRetire) → r.crossingOn psn = false → s.copyFree psn dst = true →
      Answers (.stripeRetirement cyc) s fun t => t.media.cells = s.media.cells ∧ t.cache.ways = s.cache.ways
        ∧ t.xl.stripes = s.xl.stripes ∧ t.xl.nextStripe = s.xl.nextStripe + 1 ∧ t.xl.retireQ = s.xl.retireQ.erase (false, psn)
        ∧ copyBegun s t .stripeRetire psn dst)
  ∧ (∀ (cyc b : Nat) (s : State), s.xl.berth = none → (s.xl.retireQ.find? fun e => e.1) = some (true, b) →
      s.xl.full = false → s.enginesRun = true → (∀ m ∈ s.xl.moves, m.kind ≠ .berthRetire) →
      (berthTable s.xl.berths b (12616193 + s.xl.nextBerth)).length ≤ 65536 → s.xl.nextBerth < 1789056 →
      Answers (.berthRetirement cyc) s fun t => t.xl.berth = some (b, 12616193 + s.xl.nextBerth) ∧ t.xl.boundary = 0
        ∧ t.xl.nextBerth = s.xl.nextBerth + 1 ∧ t.xl.berths = s.xl.berths ∧ DataKept s t)
  ∧ (∀ (cyc b k : Nat) (s : State), let r := s.at cyc; let u := s.xl.boundary
      let src := (s.stripeMap (b * 512 + u)).getD (b * 512 + u)
      s.xl.berth = some (b, k) → s.enginesRun = true → u < 512 → (∀ m ∈ s.xl.moves, m.kind ≠ .berthRetire) →
      r.crossingOn src = false → s.copyFree src (k * 512 + u) = true →
      Answers (.berthRetirement cyc) s fun t => t.media.cells = s.media.cells ∧ t.xl.boundary = u
        ∧ copyBegun s t .berthRetire src (k * 512 + u))
  ∧ (∀ (ok : Bool) (s : State), s.tt.fn % 244140 = 0 → s.memOk → let a := if s.xl.ckptSeq % 2 = 0 then 0x1000 else 0
      Answers (.districtCheckpoint ok) s fun t => t.xl.districts = s.xl.districts ∧ t.dram = s.dram ∧ t.media.cells = s.media.cells
        ∧ (ok = true → t.xl.ckptSeq = (s.xl.ckptSeq + 1) % 2 ^ 32 ∧ t.xl.ckptFn = s.tt.fn
            ∧ (∀ i < 4096, Mem.read t.store (a + i) = s.ckptBytes.getD i 0)
            ∧ ∀ x, x < a ∨ a + 4096 ≤ x → Mem.read t.store x = Mem.read s.store x)
        ∧ (ok = false → t.xl.ckptSeq = s.xl.ckptSeq ∧ t.store = s.store))

/-- KEY_REKEY and KEY_FORMAT need a Crypto Officer session; one that R311 refuses is answered with its code and queues
nothing; one that is taken with nothing else queued is answered with F0, the next FN, and waits. At its start the slot
has a new key set drawn, F0 the next FN, and the generation it had; a format's pages leave the cache and its requests
are held. At F0 the generation becomes its successor (1 to 255 in a ring) and the drawn key set its key. From F0 + 2
the pass starts at the slot's lowest page. The codeword of block 0 of its next page is read. A page of the current
generation, or blank, is passed over; one of an older generation is taken to a landing entry by a rekey and listed to
be blanked by a format. At its end no previous generation is live and the slot is free. The key record is written at
its end, and every 2^20 frames with the boundary; it holds a drawn key set as the current one. Concludes that exec
answers a next state for: keyRekey, keyFormat, keyopStart, repaverPassStart, repaverPage, rekeyDone, formatDone,
repaverBoundarySave. -/
def Obligations.KeyOperationsRunFromRequestToEnd : Prop :=
  (∀ (session : Nat) (payload : List (BitVec 8)) (s : State), Serves s .spdm → payload.length = 4 →
      let slot := pnum payload 0 1
      let both (P : Bool → State → Prop) : Prop :=
        Answers (.keyRekey .spdm session payload) s (P false) ∧ Answers (.keyFormat .spdm session payload) s (P true)
      (s.coSession session = false → both fun _ t => Replied t .spdm rcSecurity [] ∧ t.sec = s.sec ∧ DataKept s t)
      ∧ (s.coSession session = true → slot < 64 → pnum payload 1 3 = 0 → s.sec.erase = none → s.pwr.state ≠ 4 →
          (s.keyOpCheck slot false ≠ 0 → both fun _ t => t.sec = s.sec ∧ DataKept s t
            ∧ Replied t .spdm (detailCode (0x10 + s.keyOpCheck slot false)) (leBytes 4 (0x10 + s.keyOpCheck slot false)))
          ∧ (s.keyOpCheck slot false = 0 → s.slotMirrored slot = false → s.sec.queue = [] → (∀ p ∈ s.sec.slots, p.2.op = 0) →
            both fun format t => Replied t .spdm rcSuccess (leBytes 4 0 ++ leBytes 6 (s.tt.fn + 1)) ∧ DataKept s t
              ∧ t.sec = { s.sec with queue := [(slot, format)] })))
  ∧ (∀ (k : Nat) (format : Bool) (rest : List (Nat × Bool)) (s : State), s.sec.queue = (k, format) :: rest →
      (∀ p ∈ s.sec.slots, p.2.op = 0) → s.blocker (if format then 6 else 5) = none →
      s.mnt.waiting.has (if format then 6 else 5) = false → s.sec.drbgOk = true → s.sec.error = false → s.pwr.flush = none →
      Answers .keyopStart s fun t => t.sec.queue = rest ∧ (t.keySlot k).op = (if format then 2 else 1)
        ∧ (t.keySlot k).f0 = s.tt.fn + 1 ∧ (t.keySlot k).cur = (s.keySlot k).cur ∧ (t.keySlot k).curKey = (s.keySlot k).curKey
        ∧ (t.keySlot k).newKey.isSome = true ∧ (∀ j, j ≠ k → t.keySlot j = s.keySlot j) ∧ t.media.cells = s.media.cells
        ∧ (format = false → t.cache = s.cache)
        ∧ (format = true → k ∈ t.sec.holdSlots ∧ ∀ set w, w < 8 → s.inSlot k (s.way set w).lpn = true → (t.way set w).used = false))
  ∧ (∀ (k key : Nat) (s : State), (s.keySlot k).newKey = some key → (s.keySlot k).f0 ≤ s.tt.fn →
      let x := s.keySlot k; let y := (s.genAdvance k).keySlot k
      y.cur = nextGen x.cur ∧ y.curKey = key ∧ y.newKey = none ∧ (x.op = 1 → y.prevLive = true ∧ y.prevKey = x.curKey)
        ∧ (x.op = 2 → y.prevLive = false ∧ y.prevKey = 0 ∧ y.lastFormat = x.f0) ∧ k ∉ (s.genAdvance k).sec.holdSlots)
  ∧ (∀ g, 1 ≤ g → g ≤ 255 → nextGen g = if g = 255 then 1 else g + 1)
  ∧ (∀ (k : Nat) (s : State), k < 64 → (s.keySlot k).op ≠ 0 → (s.keySlot k).newKey = none → (s.keySlot k).passing = false →
      (s.keySlot k).f0 + 2 ≤ s.tt.fn → (∀ p ∈ s.sec.slots, p.2.passing = false) →
      Answers (.repaverPassStart k) s fun t => (t.keySlot k).passing = true ∧ DataKept s t ∧ t.tele = s.tele
        ∧ (t.keySlot k).boundary = (s.nextLpn k 0).getD userPages ∧ ∀ j, j ≠ k → t.keySlot j = s.keySlot j)
  ∧ (∀ (cyc k lpn : Nat) (s : State), let psn := s.readPsn lpn
      s.passSlot = some k → s.nextLpn k (s.keySlot k).boundary = some lpn → 0 < s.sec.batch → s.media.rebuilds = [] →
      s.pwr.flush = none → s.pwr.state ≠ 4 → s.districtMoving (distOf lpn).1 = false →
      (∀ m ∈ s.media.reads, ∀ l, m.use ≠ .repave l) →
      Answers (.repaverPage cyc) s fun t => t.sec = { s.sec with batch := s.sec.batch - 1 } ∧ t.cache = s.cache
        ∧ t.media.cells = s.media.cells
        ∧ ∃ m ∈ t.media.reads, m.use = .repave lpn ∧ m.kind = .maintenance ∧ m.psn = psn ∧ m.pos = blockPos psn 0)
  ∧ (∀ (cyc k lpn : Nat) (m : MediaRead) (w : Codeword) (s : State), let n := s.sliceOf (s.setOf lpn)
      s.passSlot = some k → s.nextLpn k (s.keySlot k).boundary = some lpn → s.pwr.flush = none →
      (s.media.reads.filter fun m => m.use == .repave lpn) = [m] → m.result.isSome = true → m.step ≠ 4 → m.word = some w →
      (w.gen = 0 ∨ w.gen = (s.keySlot k).cur ∨ (s.keySlot k).op = 2 ∨ s.landingRoom n true = true) →
      Answers (.repaverPage cyc) s fun t => (t.keySlot k).boundary = (s.nextLpn k (lpn + 1)).getD userPages
        ∧ t.media.cells = s.media.cells
        ∧ (w.gen = 0 ∨ w.gen = (s.keySlot k).cur → t.sec.blank = s.sec.blank ∧ t.cache = s.cache
            ∧ (t.keySlot k).pages = (s.keySlot k).pages)
        ∧ (w.gen ≠ 0 → w.gen ≠ (s.keySlot k).cur →
            (t.keySlot k).pages = (s.keySlot k).pages + (if (s.keySlot k).op = 1 then 1 else 0)
            ∧ ((s.keySlot k).op = 2 → t.sec.blank = s.sec.blank ++ [lpn])
            ∧ ((s.keySlot k).op ≠ 2 → ∃ e, (t.entry n e).lpn = lpn ∧ (t.entry n e).kind = .rekey)))
  ∧ (∀ (k : Nat) (s : State), k < 64 → s.passEnded k = true →
      let ended (t : State) : Prop := (t.keySlot k).op = 0 ∧ (t.keySlot k).passing = false
        ∧ (t.keySlot k).prevLive = false ∧ (t.keySlot k).prevKey = 0 ∧ (t.keySlot k).cur = (s.keySlot k).cur
        ∧ (∀ j, j ≠ k → t.keySlot j = s.keySlot j) ∧ t.sec.recSlots = (t.sec.slots.map fun p => (p.1, p.2.advanced)) ∧ t.cache = s.cache
        ∧ t.media.cells = s.media.cells
      ((s.keySlot k).op = 1 → Answers (.rekeyDone k) s ended) ∧ ((s.keySlot k).op = 2 → Answers (.formatDone k) s ended))
  ∧ (∀ s : State, s.tt.fn % 2 ^ 20 = 0 → s.passSlot.isSome = true →
      Answers .repaverBoundarySave s fun t => t.sec.recSlots = (s.sec.slots.map fun p => (p.1, p.2.advanced)) ∧ t.sec.slots = s.sec.slots
        ∧ t.sec.keyrecSeq = (s.sec.keyrecSeq + 1) % 2 ^ 32 ∧ t.sec.keyrecFn = s.tt.fn ∧ t.cache = s.cache
        ∧ t.media.cells = s.media.cells)

/-- A service request to SEC with its queues empty is taken and one response is pushed. In a session, KEY_PROG
programs a key set of a stream and direction, K_SET_GO starts one that is programmed and makes the direction secure,
and K_SET_STOP stops it and zeroizes its key; the other streams and sets stay. An IDE failure makes both directions of
the head's CXL.cachemem stream insecure, so that the head takes and answers nothing. The lead counts a ferry key
update when it is due. A media engine that fails its test is out of service: degraded operation when its partner is
sound, and otherwise the error state, in which every key, session and stream is zeroized and no page stays in the
cache; an IDE engine that fails takes its head's streams down. A failed entropy test stops the DRBG. A valid debug
unlock raises the level. The media and DRAM, and outside the error state the stores and the cache, keep their
contents. Concludes that exec answers a next state for: secServiceRequest, keyProg, kSetGo, kSetStop, ideFail,
ferryKeyUpdate, engineKat, entropyTestFail, debugUnlock. -/
def Obligations.SecurityServicesAndLinkKeys : Prop :=
  (∀ (word : BitVec 512) (s : State), s.live bSec = true → s.sec.reqQ.words = [] → s.sec.reqQ.discard = false →
      s.sec.respQ.words = [] → s.sec.respQ.discard = false →
      Answers (.secServiceRequest word) s fun t => t.sec.reqQ.words = [] ∧ t.sec.respQ.words.length = 1 ∧ DataKept s t)
  ∧ (∀ (session head stream set dir : Nat) (s : State), s.ideOk head stream dir = true → set < 2 →
      (∃ x ∈ s.sec.sessions, x.id = session) →
      let key (h i d : Nat) : Nat := (h * 4 + i) * 2 + d
      let x := s.sec.ide.getD (key head stream dir) {}
      Answers (.keyProg session head stream set dir) s (fun t => t.tele = s.tele ∧ DataKept s t
          ∧ t.sec.ide.getD (key head stream dir) {} = { x with prog0 := x.prog0 || set == 0, prog1 := x.prog1 || set == 1 }
          ∧ ∀ k, k ≠ key head stream dir → t.sec.ide.getD k {} = s.sec.ide.getD k {})
      ∧ ((if set = 0 then x.prog0 else x.prog1) = true →
          Answers (.kSetGo session head stream set dir) s fun t => DataKept s t
            ∧ t.sec.ide.getD (key head stream dir) {} = { x with active := some (set == 1), insecure := false }
            ∧ (∀ k, k ≠ key head stream dir → t.sec.ide.getD k {} = s.sec.ide.getD k {})
            ∧ Recorded s t bCry (290 + head) 0x0922 .info [(1, stream), (1, set), (1, dir)])
      ∧ Answers (.kSetStop session head stream set dir) s (fun t => t.tele = s.tele ∧ DataKept s t
          ∧ t.sec.ide.getD (key head stream dir) {} = { x with
              prog0 := x.prog0 && set != 0, prog1 := x.prog1 && set != 1, active := if x.active = some (set == 1) then none else x.active }
          ∧ ∀ k, k ≠ key head stream dir → t.sec.ide.getD k {} = s.sec.ide.getD k {}))
  ∧ (∀ (head set check : Nat) (s : State), head < 2 → (s.sec.ide.getD (head * 8) {}).active.isSome = true →
      Answers (.ideFail head set check) s fun t => t.deaf head = true ∧ DataKept s t
        ∧ (∀ d < 2, (t.sec.ide.getD (head * 8 + d) {}).insecure = true ∧ (t.sec.ide.getD (head * 8 + d) {}).active = none)
        ∧ Recorded s t bCry (290 + head) 0x0921 .error [(1, 0), (1, set), (1, check)])
  ∧ (∀ s : State, s.sec.ferrySession = true → s.isLead = true → 2 ^ 36 * (s.sec.ferryUpdates + 1) ≤ max s.sec.ferryTx s.sec.ferryRx →
      Answers .ferryKeyUpdate s fun t => t.sec = { s.sec with ferryUpdates := s.sec.ferryUpdates + 1 } ∧ DataKept s t
        ∧ Recorded s t bCry 292 0x0932 .info [(4, s.sec.ferryUpdates + 1)])
  ∧ (∀ (engine : Nat) (s : State), engine < 8 → engine ∉ s.sec.enginesBad →
      Answers (.engineKat engine false) s fun t => engine ∈ t.sec.enginesBad ∧ t.media.cells = s.media.cells ∧ t.dram = s.dram
        ∧ ((engine ^^^ 1) ∉ s.sec.enginesBad → DataKept s t ∧ t.sec.degraded = true ∧ t.sec.error = s.sec.error ∧ t.sec.slots = s.sec.slots)
        ∧ ((engine ^^^ 1) ∈ s.sec.enginesBad → s.sec.error = false → t.sec.error = true ∧ t.sec.drbgOk = false
            ∧ t.sec.cacheKey = false ∧ t.sec.sessions = [] ∧ t.sec.ide = [] ∧ t.sec.queue = []
            ∧ (∀ set w, w < 8 → (t.way set w).used = false)
            ∧ ∀ p ∈ t.sec.slots, p.2.curKey = 0 ∧ p.2.prevKey = 0 ∧ p.2.newKey = none))
  ∧ (∀ (h : Nat) (s : State), h < 2 → 8 + h ∉ s.sec.enginesBad →
      Answers (.engineKat (8 + h) false) s fun t => 8 + h ∈ t.sec.enginesBad ∧ DataKept s t ∧ t.sec.degraded = true
        ∧ t.sec.error = s.sec.error ∧ ∀ k < 8, (t.sec.ide.getD (h * 8 + k) {}).active = none
            ∧ ((s.sec.ide.getD (h * 8 + k) {}).active.isSome = true → (t.sec.ide.getD (h * 8 + k) {}).insecure = true))
  ∧ (∀ (engine : Nat) (s : State), Answers (.engineKat engine true) s fun t => t.sec = s.sec ∧ t.tele = s.tele ∧ DataKept s t)
  ∧ (∀ s : State, s.sec.drbgOk = true → Answers .entropyTestFail s fun t => DataKept s t
        ∧ t.sec = { s.sec with drbgOk := false, degraded := true } ∧ Recorded s t bCry 295 0x0962 .error [(1, 0)])
  ∧ (∀ (level key : Nat) (s : State), level = 1 ∨ level = 2 →
      Answers (.debugUnlock level key true) s fun t => t.sec = { s.sec with debug := max s.sec.debug level } ∧ DataKept s t
        ∧ Recorded s t bCry 296 0x0971 .warning [(1, level), (1, key)])

/-- On a path the mailbox serves. Get Security State reports the state word. Set and Disable Passphrase are refused
while locked or frozen; with the current passphrase right (or none set) they set or remove it, and a wrong one counts
an attempt and changes nothing else. Unlock ends the locked state with the right user passphrase; after five failed
attempts it is refused. Freeze holds from then on. Sanitize, Secure Erase and, with the master passphrase, Passphrase
Secure Erase start in the background: every key slot gets a new key set for the next FN, no page stays in the cache,
the poison list is empty and the user passphrase is gone after the last of them; Sanitize also leaves DRAM zero. At
the completion point the service ends, and after a Sanitize every stripe it covers reads blank, with the home tag that
its place gives it (log entry 166). Concludes that exec answers a next state for: getSecurityState, setPassphrase,
disablePassphrase, passphraseUnlock, freezeSecurityState, sanitize, secureErase, passphraseSecureErase, eraseDone. -/
def Obligations.PassphrasesLockFreezeAndErase : Prop :=
  (∀ (m : Master) (s : State), Serves s m →
      Answers (.getSecurityState m) s fun t => Replied t m rcSuccess (leBytes 4 s.secState) ∧ t.sec = s.sec ∧ DataKept s t)
  ∧ (∀ (m : Master) (master : Bool) (current new : BitVec 256) (s : State), Serves s m →
      s.sec.pass.locked = true ∨ s.sec.pass.frozen = true →
      Answers (.setPassphrase m master current new) s (fun t => Replied t m rcSecurity [] ∧ t.sec = s.sec ∧ DataKept s t)
        ∧ Answers (.disablePassphrase m master current) s (fun t => Replied t m rcSecurity [] ∧ t.sec = s.sec ∧ DataKept s t))
  ∧ (∀ (m : Master) (master : Bool) (current new : BitVec 256) (s : State), Serves s m →
      s.sec.pass.locked = false → s.sec.pass.frozen = false → s.sec.drbgOk = true → (master = false → s.sec.pass.attemptsUser < 5) →
      let p := s.sec.pass; let old := if master then p.master else p.user
      (old = none ∨ old = some current →
        Answers (.setPassphrase m master current new) s fun t => Replied t m rcSuccess [] ∧ t.cache = s.cache
          ∧ t.media.cells = s.media.cells ∧ t.sec.slots = s.sec.slots
          ∧ t.sec.pass = if master then { p with master := some new, saltMaster := s.draws }
              else { p with user := some new, salt := s.draws })
      ∧ (old = some current → Answers (.disablePassphrase m master current) s fun t => Replied t m rcSuccess []
          ∧ t.cache = s.cache ∧ t.media.cells = s.media.cells
          ∧ t.sec.pass = if master then { p with master := none } else { p with user := none })
      ∧ (old.isSome = true → old ≠ some current →
        Answers (.setPassphrase m master current new) s (fun t => Replied t m rcPassphrase [] ∧ DataKept s t
            ∧ t.sec.pass = if master then { p with attemptsMaster := p.attemptsMaster + 1 }
                else { p with attemptsUser := p.attemptsUser + 1 })
          ∧ Answers (.disablePassphrase m master current) s (fun t => Replied t m rcPassphrase [] ∧ DataKept s t
            ∧ t.sec.pass = if master then { p with attemptsMaster := p.attemptsMaster + 1 }
                else { p with attemptsUser := p.attemptsUser + 1 })))
  ∧ (∀ (m : Master) (current : BitVec 256) (s : State), Serves s m → s.sec.pass.locked = true →
      (s.sec.pass.user = some current → s.sec.pass.attemptsUser < 5 → s.sec.error = false →
        Answers (.passphraseUnlock m current) s fun t => Replied t m rcSuccess [] ∧ DataKept s t
          ∧ t.sec = { s.sec with pass := { s.sec.pass with locked := false } })
      ∧ (5 ≤ s.sec.pass.attemptsUser →
        Answers (.passphraseUnlock m current) s fun t => Replied t m rcSecurity [] ∧ t.sec = s.sec ∧ DataKept s t))
  ∧ (∀ (m : Master) (s : State), Serves s m → s.sec.pass.locked = false →
      Answers (.freezeSecurityState m) s fun t => Replied t m rcSuccess [] ∧ t.sec.pass = { s.sec.pass with frozen := true }
        ∧ t.cache = s.cache ∧ t.media.cells = s.media.cells)
  ∧ (∀ (m : Master) (current : BitVec 256) (s : State), Serves s m →
      s.sec.pass.locked = false → s.sec.drbgOk = true → s.sec.error = false → s.mbox.bg = none → s.pwr.state ≠ 4 →
      (∀ n < 4, (s.brg n).cur = none) →
      let erased (svc : Nat) (t : State) : Prop := .reply (masterVal m) rcBackground [] ∈ t.out ∧ t.sec.erase = some svc
        ∧ (∀ k < 64, (t.keySlot k).op = 2 ∧ (t.keySlot k).newKey.isSome = true ∧ (t.keySlot k).f0 = s.tt.fn + 1
            ∧ (t.keySlot k).prevLive = false)
        ∧ (∀ set w, w < 8 → (t.way set w).used = false) ∧ t.integ.list = [] ∧ t.sec.swkEpoch = s.sec.swkEpoch + 1
        ∧ t.media.cells = s.media.cells
      (Answers (.sanitize m) s fun t => erased 0 t ∧ (s.blocker 12 = none → t.dram = [])) ∧ Answers (.secureErase m) s (erased 1)
      ∧ (s.sec.pass.frozen = false → s.sec.pass.master = some current → s.sec.pass.attemptsMaster < 5 →
          Answers (.passphraseSecureErase m true current) s fun t => erased 2 t ∧ t.sec.pass.user = none))
  ∧ (∀ (svc : Nat) (s : State), s.sec.erase = some svc → s.eraseEnds svc = true →
      Answers .eraseDone s fun t => t.sec.erase = none ∧ t.cache = s.cache ∧ t.dram = s.dram
        ∧ (svc = 0 → (∀ c psn, psn < 2 ^ 33 → t.cell c psn = if s.blanked psn then { home := s.blankHome psn } else s.cell c psn)
            ∧ ∀ p ∈ t.sec.slots, p.2.op = 0)
        ∧ (svc ≠ 0 → t.media = s.media ∧ Recorded s t bSec 294 0x0953 .info
            [(1, svc), (4, s.tt.fn - (s.mbox.bg.map fun b => b.2.2).getD s.tt.fn)]))

/-- On a path on which the responder answers, while pair A runs. GET_VERSION begins a connection and ends the path's
sessions; GET_CAPABILITIES and NEGOTIATE_ALGORITHMS follow in order, and a message out of order is answered as
unexpected. On a negotiated connection, digests, certificates, challenges and measurements of the slots and indices
that exist are answered, and nothing of the security state changes. KEY_EXCHANGE with the DRBG running, no handshake
open and a session free opens a handshake, which FINISH with verification data, chain and root right turns into a
session: the Crypto Officer's when both ends authenticated over a host path. Inside a session, HEARTBEAT, KEY_UPDATE,
END_SESSION are answered; inside an officer's session, GET_CSR and SET_CERTIFICATE of slot 1. A vendor-defined request
runs its vendor command, and one of the officer's outside an officer's session is refused. Message codes are those of
SPDM 1.3, PRESUMED (log entry 29). Concludes that exec answers a next state for: getVersion, getCapabilities,
negotiateAlgorithms, getDigests, getCertificate, spdmChallenge, getMeasurements, keyExchange, spdmFinish,
spdmHeartbeat, keyUpdate, endSession, getCsr, setCertificate, vendorDefinedRequest. -/
def Obligations.SpdmConnectionsSessionsAndOfficerCommands : Prop :=
  (∀ (path : Nat) (s : State), s.spdmUp path = true → s.integ.romA = false →
      Answers (.getVersion path) s (fun t => SpdmAnswered t path 0x04 0 0 (leBytes 1 0 ++ leBytes 1 1 ++ leBytes 2 0x1300)
        ∧ t.conn path = { version := true } ∧ (∀ x ∈ t.sec.sessions, x.path ≠ path) ∧ DataKept s t)
      ∧ ((s.conn path).version = true → Answers (.getCapabilities path) s fun t => (t.out.head?).isSome = true
        ∧ t.conn path = { s.conn path with caps := true } ∧ t.sec.sessions = s.sec.sessions ∧ DataKept s t)
      ∧ ((s.conn path).version = false → Answers (.getCapabilities path) s fun t => SpdmAnswered t path 0x7f 4 0 []
        ∧ t.sec = s.sec ∧ DataKept s t)
      ∧ ((s.conn path).version = true → (s.conn path).caps = true → Answers (.negotiateAlgorithms path true) s fun t =>
        (t.out.head?).isSome = true ∧ t.conn path = { s.conn path with algs := true } ∧ t.sec.sessions = s.sec.sessions
          ∧ DataKept s t))
  ∧ (∀ (path slot off len index : Nat) (sign : Bool) (s : State), s.spdmUp path = true → s.integ.romA = false →
      (s.conn path).up = true → s.hasChain slot = true → off < (s.chain slot).length → 1 ≤ index → index ≤ 6 →
      let part := ((s.chain slot).drop off).take (min len 0xffff)
      Answers (.getDigests path) s (fun t => t.sec = s.sec ∧ DataKept s t ∧ SpdmAnswered t path 0x01 3
          (([0, 1].filter s.hasChain).foldl (fun m k => m + 2 ^ k) 0)
          (([0, 1].filter s.hasChain).flatMap fun k => digestBytes (shaBytes (s.chain k))))
      ∧ Answers (.getCertificate path slot off len) s (fun t => t.sec = s.sec ∧ DataKept s t ∧ SpdmAnswered t path 0x02 slot 0
          (leBytes 2 part.length ++ leBytes 2 ((s.chain slot).length - off - part.length) ++ part))
      ∧ Answers (.spdmChallenge path slot) s (fun t => t.sec = s.sec ∧ DataKept s t ∧ (t.out.head?).isSome = true)
      ∧ Answers (.getMeasurements path index sign) s (fun t => t.sec = s.sec ∧ DataKept s t ∧ ∃ fresh, SpdmAnswered t path 0x60 0 0
          (leBytes 1 1 ++ leBytes 3 (s.measureBlock index).length ++ s.measureBlock index ++ fresh)))
  ∧ (∀ (path slot : Nat) (mutualAuth : Bool) (s : State), s.spdmUp path = true → s.integ.romA = false →
      (s.conn path).up = true → s.hasChain slot = true → s.sec.drbgOk = true → (s.conn path).handshake = none →
      s.sessionsOf (path == 3) < (if path = 3 then 1 else 4) →
      Answers (.keyExchange path slot mutualAuth) s fun t => t.sec.nextSession = s.sec.nextSession + 1 ∧ DataKept s t
        ∧ (t.conn path).handshake = some (s.sec.nextSession, mutualAuth || path == 3) ∧ t.sec.sessions = s.sec.sessions)
  ∧ (∀ (path id : Nat) (both chainOk rootOk : Bool) (s : State), s.spdmUp path = true → s.integ.romA = false →
      (s.conn path).handshake = some (id, both) → (both = true → chainOk = true ∧ rootOk = true) →
      Answers (.spdmFinish path true chainOk rootOk) s fun t => SpdmAnswered t path 0x65 0 0 [] ∧ DataKept s t
        ∧ (t.conn path).handshake = none
        ∧ t.sec.sessions = s.sec.sessions ++ [{ id := id, path := path, mutualAuth := both, co := both && path != 3 }])
  ∧ (∀ (path id : Nat) (s : State), s.spdmUp path = true → s.integ.romA = false → (s.spdmSession path id).isSome = true →
      Answers (.spdmHeartbeat path id) s (fun t => SpdmAnswered t path 0x68 0 0 [] ∧ t.sec = s.sec ∧ DataKept s t)
      ∧ Answers (.keyUpdate path id) s (fun t => SpdmAnswered t path 0x69 1 0 [] ∧ DataKept s t
          ∧ t.sec.sessions = s.sec.sessions.map fun x => if x.id = id ∧ x.path = path then { x with updates := x.updates + 1 } else x)
      ∧ Answers (.endSession path id) s (fun t => SpdmAnswered t path 0x6c 0 0 [] ∧ DataKept s t ∧ t.spdmSession path id = none))
  ∧ (∀ (path id slot : Nat) (chain : List (BitVec 8)) (s : State), s.spdmUp path = true → s.integ.romA = false →
      (s.spdmSession path id).isSome = true → s.coSession id = true →
      Answers (.getCsr path id true) s (fun t => (t.out.head?).isSome = true ∧ t.sec = s.sec ∧ DataKept s t)
      ∧ (slot = 1 → chain ≠ [] → Answers (.setCertificate path id slot chain) s fun t =>
          t.sec = { s.sec with certSlot1 := chain } ∧ SpdmAnswered t path 0x6e 1 0 [] ∧ DataKept s t)
      ∧ (slot ≠ 1 → Answers (.setCertificate path id slot chain) s fun t => t.sec = s.sec ∧ SpdmAnswered t path 0x7f 1 0 []))
  ∧ (∀ (path id : Nat) (payload : List (BitVec 8)) (s : State), s.spdmUp path = true → (s.conn path).up = true → Serves s .spdm →
      (s.spdmSession path id).isSome = true → payload.length = 4 → pnum payload 0 1 < 64 → pnum payload 1 3 = 0 →
      s.sec.erase = none → s.pwr.state ≠ 4 → s.keyOpCheck (pnum payload 0 1) false = 0 → s.slotMirrored (pnum payload 0 1) = false →
      s.sec.queue = [] → (∀ p ∈ s.sec.slots, p.2.op = 0) → id ≠ 0 →
      (s.coSession id = true → Answers (.vendorDefinedRequest path id 0xC061 payload) s fun t =>
          t.sec = { s.sec with queue := [(pnum payload 0 1, true)] } ∧ DataKept s t
          ∧ t.out.head? = some (.reply (masterVal .spdm) rcSuccess (leBytes 4 0 ++ leBytes 6 (s.tt.fn + 1))))
      ∧ (s.coSession id = false → Answers (.vendorDefinedRequest path id 0xC061 payload) s fun t => t.sec = s.sec ∧ DataKept s t
          ∧ t.out.head? = some (.reply (masterVal .spdm) rcSecurity [])))

/-- On a head in use. A lane that fails enters the failed mask with its counts and LANE_FAILED. A narrower width is
taken and WIDTH_CHANGED is recorded; every request of the head that waits at a width change, a loss or a new training
of the link counts under cause 4. LINK_UP gives rate, width and flit mode, and a link that first settles below 32 GT/s
or x4 also records RATE_BELOW_BOUND. LINK_DOWN clears rate and width, and the keys of the head's IDE streams. While
PWR waits for Moored, a drained head goes to 2.5 GT/s x1 and keeps its former rate and width; with the last head PWR
is Moored, every DRAM subchannel is in self-refresh, every domain that works is in its Moored state, and the retention
store holds registers and channel tables. A head at the low rate that holds requests returns to its former rate and
width and takes them in the order it received them. Concludes that exec answers a next state for: laneFailed,
widthChanged, linkUp, linkDown, moorEntered, moorWake. -/
def Obligations.HostLinksTrainNarrowAndMoor : Prop :=
  (∀ (head : Fin 2) (lane cause symbols : Nat) (s : State), s.headUsed head.val = true → (s.hp head.val).inReset = false →
      (s.headLanes head.val).1 ≤ lane → lane < (s.headLanes head.val).1 + (s.headLanes head.val).2 →
      (s.hp head.val).laneFail.getLsbD lane = false → (cause = 0 ∧ s.regF (bHp head.val) 0x01c 0 16 < symbols ∨ cause = 1) →
      Answers (.laneFailed head lane cause symbols) s fun t =>
        (t.hp head.val).laneFail = (s.hp head.val).laneFail ||| BitVec.ofNat 16 (2 ^ lane)
        ∧ (t.hp head.val).laneCorr.getD lane 0 = min 0xffffffff ((s.hp head.val).laneCorr.getD lane 0 + symbols)
        ∧ (t.hp head.val).laneAlign.getD lane 0
            = (if cause = 1 then min 0xffff ((s.hp head.val).laneAlign.getD lane 0 + 1) else (s.hp head.val).laneAlign.getD lane 0)
        ∧ (t.hp head.val).rate = (s.hp head.val).rate ∧ (t.hp head.val).width = (s.hp head.val).width
        ∧ Recorded s t (bHp head.val) (hpSrc head.val 0) 0x0C01 .error [(1, lane), (1, cause), (4, symbols)]
        ∧ DataKept s t ∧ ControlKept s t)
  ∧ (∀ (head : Fin 2) (width us : Nat) (l0p : Bool) (s : State), let p := s.hp head.val
      s.headUsed head.val = true → p.rate ≠ 0 → p.moor = 0 → width < p.width → width ∈ [1, 2, 4, 8] →
      (l0p = true → width = s.l0pWidth head.val) →
      Answers (.widthChanged head width l0p us) s fun t => (t.hp head.val).width = width ∧ (t.hp head.val).rate = p.rate
        ∧ (t.hp head.val).l0p = (p.l0p || l0p) ∧ (t.hp head.val).slow = belowBound p.rate width
        ∧ t.cache.waiting = (s.cache.waiting.map fun r =>
            if r.ofHead head.val then { r with causes := r.causes ||| 16#8 } else r)
        ∧ (belowBound p.rate width = false ∨ p.slow = true →
            Recorded s t (bHp head.val) (hpSrc head.val 0) 0x0C02 .warning [(1, p.width), (1, width), (1, b2n (!l0p)), (4, us)])
        ∧ t.cache.ways = s.cache.ways ∧ t.media.cells = s.media.cells ∧ t.dram = s.dram ∧ t.out = [])
  ∧ (∀ (head : Fin 2) (rate width flit : Nat) (s : State), s.headUsed head.val = true → (s.hp head.val).inReset = false →
      (s.hp head.val).moor = 0 → 2 ≤ rate → rate ≤ 5 → flit ≤ 2 → width ∈ [1, 2, 4, 8, 16] →
      width ≤ (s.headLanes head.val).2 →
      Answers (.linkUp head rate width flit) s fun t => (t.hp head.val).rate = rate ∧ (t.hp head.val).width = width
        ∧ (t.hp head.val).flit = flit ∧ (t.hp head.val).slow = (decide (rate < 4) || decide (width < 4))
        ∧ (∀ k, k ≠ head.val → t.hp k = s.hp k)
        ∧ t.cache.waiting = (s.cache.waiting.map fun r =>
            if r.ofHead head.val then { r with causes := r.causes ||| 16#8 } else r)
        ∧ ContentKept s t ∧ t.xl = s.xl ∧ t.sec = s.sec ∧ t.tt = s.tt ∧ t.pwr = s.pwr
        ∧ t.tele = (let u := s.record (bHp head.val) (hpSrc head.val 1) 0x0C11 .info [(1, rate), (1, width), (1, flit)]
            if (rate < 4 ∨ width < 4) ∧ (s.hp head.val).slow = false
            then (u.record (bHp head.val) (hpSrc head.val 1) 0x0C13 .warning [(1, rate), (1, width)]).tele else u.tele))
  ∧ (∀ (head : Fin 2) (cause : Nat) (s : State), s.headUsed head.val = true → (s.hp head.val).rate ≠ 0 →
      Answers (.linkDown head cause) s fun t => (t.hp head.val).rate = 0 ∧ (t.hp head.val).width = 0
        ∧ (t.hp head.val).slow = false ∧ (t.hp head.val).held = (s.hp head.val).held
        ∧ (∀ k, (t.sec.ide.getD k {}).active = if k / 8 = head.val then none else (s.sec.ide.getD k {}).active)
        ∧ Recorded s t (bHp head.val) (hpSrc head.val 1) 0x0C12 .error [(1, cause)]
        ∧ t.cache.waiting = (s.cache.waiting.map fun r =>
            if r.ofHead head.val then { r with causes := r.causes ||| 16#8 } else r)
        ∧ ContentKept s t ∧ t.xl = s.xl ∧ t.tt = s.tt ∧ t.pwr = s.pwr)
  ∧ (∀ (head : Fin 2) (us : Nat) (s : State), s.pwr.mooring = true → s.pwr.state = 2 ∨ s.pwr.state = 3 →
      s.headUsed head.val = true → (s.hp head.val).moor = 0 → (∀ l ∈ s.cache.landing, l.2.st = .free) →
      s.headDrained head.val = true →
      Answers (.moorEntered head us) s fun t => (t.hp head.val).moor = 2 ∧ (t.hp head.val).rate = 1 ∧ (t.hp head.val).width = 1
        ∧ (t.hp head.val).formerRate = (s.hp head.val).rate ∧ (t.hp head.val).formerWidth = (s.hp head.val).width
        ∧ ((∃ k < 2, k ≠ head.val ∧ s.headUsed k = true ∧ (s.hp k).moor ≠ 2) → t.pwr = s.pwr ∧ t.drcs = s.drcs
            ∧ Recorded s t (bHp head.val) (hpSrc head.val 3) 0x0C31 .info [(4, us)])
        ∧ ((∀ k < 2, k ≠ head.val → s.headUsed k = true → (s.hp k).moor = 2) → t.pwr.state = 4 ∧ t.pwr.mooring = false
            ∧ (∀ c < 4, ∀ u < 2, (t.sub c u).selfRefresh = true ∧ (t.sub c u).openRows = [] ∧ (t.sub c u).owed = 0)
            ∧ (∀ d < 96, d ∉ s.pwr.domFailed → t.pwr.domains.getD d 0 = s.moorDomain d)
            ∧ (∃ c, t.retained = some (s.regs, c, s.media.mchs)) ∧ t.media.cells = s.media.cells ∧ t.store = s.store))
  ∧ (∀ (head : Fin 2) (us : Nat) (s : State), s.headUsed head.val = true → (s.hp head.val).held ≠ [] → (s.hp head.val).moor ≠ 0 →
      s.pwr.state ≠ 4 →
      Answers (.moorWake head us) s fun t => ∃ u : State,
        u.hp head.val = { (s.hp head.val).rise with
          held := [], wakeUs := min 0xffff us, wakeCause := 1, wakes := min 0xffffffff ((s.hp head.val).wakes + 1) }
        ∧ (u.hp head.val).moor = 0 ∧ (u.hp head.val).rate = (s.hp head.val).formerRate
        ∧ (u.hp head.val).width = (s.hp head.val).formerWidth ∧ u.pwr = { s.pwr with mooring := false }
        ∧ Recorded s u (bHp head.val) (hpSrc head.val 3) 0x0C32 .info [(1, 1), (4, us)] ∧ DataKept s u ∧ u.out = []
        ∧ t = (s.hp head.val).held.foldl
            (fun s q => s.takeHeld head q 16#8) u)
  ∧ (∀ (head : Fin 2) (us : Nat) (s : State), s.headUsed head.val = true → (s.hp head.val).held ≠ [] → s.pwr.state = 4 →
      Answers (.moorWake head us) s fun t => ∃ u : State, u.pwr.state = 2 ∧ u.pwr.mooring = false
        ∧ (∀ k < 2, (u.hp k).moor = 0 ∧ ((s.hp k).moor ≠ 0 →
            (u.hp k).rate = (s.hp k).formerRate ∧ (u.hp k).width = (s.hp k).formerWidth))
        ∧ (u.hp head.val).held = [] ∧ (u.hp head.val).wakeUs = min 0xffff us
        ∧ (∀ c < 4, ∀ k < 2, (u.sub c k).selfRefresh = false) ∧ u.cache.ways = s.cache.ways
        ∧ u.cache.landing = s.cache.landing ∧ u.cache.waiting = s.cache.waiting ∧ u.media.cells = s.media.cells
        ∧ u.dram = s.dram
        ∧ t = (s.hp head.val).held.foldl
            (fun s q => s.takeHeld head q 16#8) u)

/-- GPF Phase 1 is acknowledged at once and changes nothing else. Phase 2 notes when it came and the acceptance FN of
the last write taken; once every write the head had received by then has completed and that FN is durable (in the
pair, while joined) the head responds, records GPF_DONE with the time taken, and GPF_LATE where it took longer than 10
µs (13.3 µs while gated). A CPMU counter that an increment carries past 2^48 − 1 wraps and raises vector 6. A DOE
Discovery or CDAT object is answered with vector 5, an SPDM object is in progress until its answer, and an abort ends
it. An MCTP packet fault is recorded; a control message is answered with a free reply (log entry 2); a CCI or SPDM
message is in progress until its command answers. Host data, translation, keys, the pair and power stay. CDAT
structures follow log entry 28 (PRESUMED). Concludes that exec answers a next state for: gpfPhase1, gpfPhase2,
gpfDone, cpmuCounterOverflow, doeRequest, doeAbort, mctpMessage. -/
def Obligations.FlushesAndSideBandServicesOfAHeadAnswer : Prop :=
  (∀ (head : Fin 2) (s : State), s.headUsed head.val = true → s.deaf head.val = false →
      Answers (.gpfPhase1 head) s fun t => t = { s with out := [.gpf head.val 1] })
  ∧ (∀ (cyc : Nat) (head : Fin 2) (s : State), s.headUsed head.val = true → s.deaf head.val = false →
      (s.head head.val).gpf = none →
      Answers (.gpfPhase2 cyc head) s fun t =>
        (t.head head.val).gpf = some ((s.at cyc).ns, (s.head head.val).acceptedFn)
        ∧ t.out = [] ∧ t.tele = s.tele ∧ t.cache = s.cache ∧ t.media = s.media ∧ (∀ k, k ≠ head.val → t.head k = s.head k))
  ∧ (∀ (cyc drained start f : Nat) (head : Fin 2) (s : State), s.deaf head.val = false →
      (s.head head.val).gpf = some (start, f) → s.gpfDrained head.val start = true →
      let ns := (s.at cyc).ns - start
      (s.joined = false → f ≤ (s.head head.val).mediaFn) → (s.joined = true → f ≤ (s.head head.val).pairFn) →
      Answers (.gpfDone cyc head drained) s fun t => t.out = [.gpf head.val 2] ∧ (t.head head.val).gpf = none
        ∧ t.cache = s.cache ∧ t.media = s.media
        ∧ (ns ≤ (if s.pwr.gated then 13300 else 10000) →
            Recorded s t (bHp head.val) (hpSrc head.val 5) 0x0703 .info [(4, ns), (4, drained)])
        ∧ ((if s.pwr.gated then 13300 else 10000) < ns →
            t.tele = ((s.record (bHp head.val) (hpSrc head.val 5) 0x0703 .info [(4, ns), (4, drained)]).record (bHp head.val)
              (hpSrc head.val 5) 0x0704 .error [(4, ns), (4, s.commitState head.val)]).tele))
  ∧ (∀ (head : Fin 2) (n inc : Nat) (s : State), let c := (s.hp head.val).cpmu.getD n {}
      s.headUsed head.val = true → n < 4 → c.frozen = false → 2 ^ 48 ≤ c.count + inc →
      Answers (.cpmuCounterOverflow head n inc) s fun t => t.out = [.msix head.val 6]
        ∧ (t.hp head.val).cpmu.getD n {} = { c with count := (c.count + inc) % 2 ^ 48 }
        ∧ (∀ k, k ≠ n → (t.hp head.val).cpmu.getD k {} = (s.hp head.val).cpmu.getD k {}) ∧ t.tele = s.tele ∧ t.cache = s.cache)
  ∧ (∀ (head : Fin 2) (index : Nat) (s : State), s.headUsed head.val = true → (s.hp head.val).inReset = false →
      (s.hp head.val).doeBusy = false →
      Answers (.doeRequest head 0 index) s (fun t => t = { s with out := [.reply (16 + head.val) 0
          (if index = 0 then leBytes 4 0x01000001 else if index = 1 then leBytes 4 0x02010001
           else if index = 2 then leBytes 4 0x03020001 else leBytes 4 0x00021e98), .msix head.val 5] })
        ∧ (∀ proto, proto = 1 ∨ proto = 2 → Answers (.doeRequest head proto index) s fun t => (t.hp head.val).doeBusy = true
            ∧ t.out = [] ∧ t.tele = s.tele ∧ t.cache = s.cache)
        ∧ Answers (.doeRequest head 3 index) s (fun t => ∃ bs, t = { s with out := [.reply (16 + head.val) 0 bs, .msix head.val 5] }
            ∧ bs.take 4 = leBytes 4 ((if index < (s.cdat head.val).length then index + 1 else 0xffff) * 65536)
            ∧ (0 < index → bs.drop 4 = (s.cdat head.val).getD (index - 1) [])))
  ∧ (∀ (head : Fin 2) (s : State), s.headUsed head.val = true →
      Answers (.doeAbort head) s fun t => t.hp head.val = { s.hp head.val with doeBusy := false } ∧ t.out = []
        ∧ t.tele = s.tele ∧ t.cache = s.cache)
  ∧ (∀ (kind : Nat) (s : State), s.start.mboxReady = true → s.pwr.state ∈ [2, 3, 4] → s.mbox.mctpBusy = false → kind < 3 →
      (∀ c, Answers (.mctpMessage kind (some c)) s fun t =>
        Recorded s t bMgt 255 0x0C71 .warning [(1, min c 1)] ∧ t.mbox = s.mbox ∧ t.out = [] ∧ DataKept s t ∧ ControlKept s t)
      ∧ (kind = 0 → Answers (.mctpMessage kind none) s fun t => t.out = [.reply (masterVal .mctp) 0
            (leBytes 64 (Config.draw s.draws).toNat)] ∧ t.draws = s.draws + 1 ∧ t.mbox = s.mbox ∧ t.tele = s.tele)
      ∧ (kind ≠ 0 → Answers (.mctpMessage kind none) s fun t => t.mbox = { s.mbox with mctpBusy := true } ∧ t.out = []
            ∧ t.tele = s.tele ∧ DataKept s t ∧ ControlKept s t))

/-- A flit that is next in order, with CRC and tag right, is accepted, acknowledged and its credits taken; any other
is discarded and NAKed, and the third tag failure in a row takes the link down. A retrain and a width change are
counted and recorded, and delay the writes that wait for an acknowledgment under cause 5. The link going down ends the
session, and returns a join to the states before it. A join takes one step per command (log entry 27): training, SPDM
(ends with JOIN_REFUSED when it fails or the module is locked), FENCE, the slew, the FN step of R377, the sync of
R378, session and role record, and the agreed entry with fresh credits. At FENCE: two leads keep the higher token's,
an equal pair does not join, a lead joins a follower of no higher token, is STRANDED below one of a higher token and
keeps its own token (log entry 117), and two without a lead do not join. Concludes that exec answers a next state for:
flitReceive, linkWidth, linkRetrain, ferryLinkDown, ferryLinkUp, fenceMsg. -/
def Obligations.FerryLinkAcceptsFlitsRetrainsAndJoins : Prop :=
  (∀ (cyc seq sent wcred pcred bytes : Nat) (ack : Option Nat) (s : State), s.fry.rate ≠ 0 → s.sec.ferrySession = true →
      s.promoting = false →
      let tx := max s.fry.txSeq sent
      let nak := ferryOut 0 [s.fry.rxSeq % 2 ^ 32, 3, s.fry.wcredOwed / 8, s.fry.pcredOwed] []
      (seq = s.fry.rxSeq + 1 → Answers (.flitReceive cyc true true seq sent ack false wcred pcred bytes) s fun t =>
          t.fry.rxSeq = seq ∧ t.fry.txSeq = tx ∧ t.fry.tagFails = 0 ∧ t.fry.pcred = s.fry.pcred + pcred
          ∧ t.fry.ackSeq = (match ack with | some a => max s.fry.ackSeq (min a tx) | none => s.fry.ackSeq)
          ∧ (s.fry.sendQ = [] → t.fry.wcred = s.fry.wcred + 8 * wcred)
          ∧ ferryOut 0 [seq % 2 ^ 32, 1, s.fry.wcredOwed / 8, s.fry.pcredOwed] [] ∈ t.out ∧ HostDataKept s t)
      ∧ ((∀ tagOk nakIn, Answers (.flitReceive cyc false tagOk seq sent ack nakIn wcred pcred bytes) s fun t => t.out = [nak]
            ∧ t.fry.rxSeq = s.fry.rxSeq ∧ t.fry.tagFails = s.fry.tagFails ∧ HostDataKept s t))
      ∧ (∀ nakIn, seq ≠ s.fry.rxSeq + 1 →
          Answers (.flitReceive cyc true true seq sent ack nakIn wcred pcred bytes) s fun t => t.out = [nak]
            ∧ t.fry.rxSeq = s.fry.rxSeq ∧ t.fry.tagFails = 0 ∧ HostDataKept s t)
      ∧ (∀ nakIn, Answers (.flitReceive cyc true false seq sent ack nakIn wcred pcred bytes) s fun t => t.fry.rxSeq = s.fry.rxSeq
            ∧ (s.fry.tagFails < 2 → t.out = [nak] ∧ t.fry.tagFails = s.fry.tagFails + 1 ∧ t.fry.rate = s.fry.rate)
            ∧ (2 ≤ s.fry.tagFails → t.fry.rate = 0 ∧ t.sec.ferrySession = false ∧ t.out = [])))
  ∧ (∀ (width : Nat) (s : State), s.fry.rate ≠ 0 → width ∈ [1, 2, 4, 8] → width ≠ s.fry.width →
      Answers (.linkWidth width) s fun t => t.fry = { s.ferryDelay.fry with width := width, retrains := min 0xffffffff (s.fry.retrains + 1) }
        ∧ Recorded s t bFry 272 0x0A03 .warning [(1, s.fry.width), (1, width)] ∧ t.cache = s.cache)
  ∧ (∀ (cyc cause : Nat) (s : State), s.fry.rate ≠ 0 →
      (cause = 0 ∧ 16 ≤ s.fry.resends ∨ cause = 1 ∧ ∃ f, s.fry.replayFullAt = some f ∧ f + 4096 ≤ (s.at cyc).ns) →
      Answers (.linkRetrain cyc cause) s fun t => t.fry = { s.ferryDelay.fry with
          resends := 0, replayFullAt := none, retrains := min 0xffffffff (s.fry.retrains + 1) }
        ∧ Recorded s t bFry 273 0x0A11 .warning [(1, cause)] ∧ t.cache = s.cache)
  ∧ (∀ (s : State),
      (s.fry.rate ≠ 0 → Answers .ferryLinkDown s fun t => t.fry.rate = 0 ∧ t.sec.ferrySession = false ∧ t.fry.token = s.fry.token
          ∧ (s.fry.pstate = .joining → t.fry.pstate = (s.fry.before.getD (.joining, s.fry.role)).1
              ∧ t.fry.role = (s.fry.before.getD (.joining, s.fry.role)).2)
          ∧ (s.fry.pstate ≠ .joining → t.fry.pstate = s.fry.pstate ∧ t.fry.role = s.fry.role)
          ∧ Recorded s t bFry 272 0x0A02 .warning [(1, 0)] ∧ HostDataKept s t)
      ∧ (s.fry.rate = 0 → s.pairCfg = true → s.start.ferryPres = true → s.fry.downRecorded = false →
          Answers .ferryLinkDown s fun t => t.fry = { s.fry with downRecorded := true }
            ∧ Recorded s t bFry 272 0x0A02 .warning [(1, 0)]))
  ∧ (∀ (rate width delay : Nat) (s : State), s.pairCfg = true → 8 ≤ s.start.step → s.start.ferryPres = true → rate ∈ [1, 2] →
      width ∈ [1, 2, 4, 8] → s.mayJoin = true →
      Answers (.ferryLinkUp (.train rate width delay)) s fun t => t.fry.rate = rate ∧ t.fry.width = width
        ∧ t.fry.delay = delay % 2 ^ 32 ∧ t.fry.pstate = .joining ∧ t.fry.joinStep = 2 ∧ t.fry.before = some (s.fry.pstate, s.fry.role)
        ∧ Recorded s t bFry 272 0x0A01 .info [(1, rate), (1, width), (4, delay)] ∧ HostDataKept s t)
  ∧ (∀ (serial : Nat) (tables : Bool) (s : State), s.fry.pstate = .joining → s.fry.joinStep = 2 →
      (s.sec.pass.locked = false → Answers (.ferryLinkUp (.spdm true serial tables)) s fun t => t.sec.ferrySession = true
          ∧ t.sec.ferryTx = 0 ∧ t.fry.rxSeq = 0 ∧ t.fry.joinSerial = serial ∧ t.fry.joinStep = 3
          ∧ (s.fry.rate ≠ 0 → s.sec.error = false → ∃ fields, t.out = [ferryOut 6 fields []]))
      ∧ (∀ ok, ok = false ∨ s.sec.pass.locked = true → Answers (.ferryLinkUp (.spdm ok serial tables)) s fun t => t.fry.rate = 0
          ∧ t.fry.pstate = (s.fry.before.getD (.joining, s.fry.role)).1
          ∧ t.tele = ((s.record bFry 276 0x0A42 .error [(1, 2), (1, 1)]).record bFry 272 0x0A02 .warning [(1, 3)]).tele))
  ∧ (∀ (s : State), s.fry.pstate = .joining →
      (s.fry.joinStep = 4 → s.isLead = true ∨ s.fry.offset.natAbs ≤ 10 →
        Answers (.ferryLinkUp .slew) s fun t => t = { s with out := [], fry := { s.fry with joinStep := 5 } })
      ∧ (∀ ahead fn, s.fry.joinStep = 5 → s.fry.joinFn = none → Answers (.ferryLinkUp (.fnStep ahead fn)) s fun t =>
          t.fry.joinFn = (if s.isLead then some (s.tt.fn + 16, max s.tt.fn fn + 64) else some (s.tt.fn + max 1 ahead, fn))
          ∧ t.tt = s.tt)
      ∧ (∀ target, s.fry.joinStep = 6 → Answers (.ferryLinkUp (.sync target)) s fun t => t.fry.joinStep = 7
          ∧ (s.isLead = false → t.out = []))
      ∧ (∀ id, s.fry.joinStep = 7 → Answers (.ferryLinkUp (.session id)) s fun t => t.fry.joinStep = 8
          ∧ t.fry.session = id % 2 ^ 64 ∧ t.fry.peerSerial = s.fry.joinSerial ∧ RoleWritten t (if s.isLead then 1 else 2))
      ∧ (∀ kind, s.fry.joinStep = 8 → Answers (.ferryLinkUp (.enter kind)) s fun t => t.fry.joinStep = 9
          ∧ t.fry.wcred = 8192 ∧ t.fry.pcred = 64 ∧ t.fry.sendQ = [] ∧ t.fry.widxNext = 1
          ∧ t.fry.pendingRole = some (if t.fry.joinKind = 0 then .joined else .resyncing, s.fry.role))
      ∧ Answers (.ferryLinkUp .fail) s (fun t => t.fry.rate = 0
          ∧ t.tele = ((s.record bFry 276 0x0A42 .error [(1, s.fry.joinStep), (1, 2)]).record bFry 272 0x0A02 .warning [(1, 3)]).tele))
  ∧ (∀ (claim token session widx names fn : Nat) (clean full bitmap suspect : Bool) (s : State), s.fry.pstate = .joining →
      s.fry.joinStep = 3 → fn < 2 ^ 48 →
      let before := s.fry.before.getD (.stranded, .none)
      Answers (.fenceMsg claim clean full bitmap suspect token session widx names fn) s fun t =>
        t.fry.peerToken = token ∧ HostDataKept s t
        ∧ (s.claimsLead = true → claim = 1 → token = s.fry.token → t.fry.pstate = before.1 ∧ t.fry.role = before.2 ∧ t.fry.rate = 0)
        ∧ (s.claimsLead = true → token < s.fry.token ∨ token = s.fry.token ∧ claim ≠ 1 → s.fry.tablesOk = true →
            t.fry.role = .lead ∧ t.fry.token = s.fry.token ∧ t.fry.joinStep = 4)
        ∧ (s.claimsLead = true → token < s.fry.token ∨ token = s.fry.token ∧ claim ≠ 1 → s.fry.tablesOk = false → t.fry.rate = 0
            ∧ t.tele = ((s.record bFry 276 0x0A42 .error [(1, 3), (1, 0)]).record bFry 272 0x0A02 .warning [(1, 3)]).tele)
        ∧ (s.claimsLead = true → claim = 1 → s.fry.token < token → t.fry.role = .follower ∧ t.fry.token = token
            ∧ t.fry.joinStep = 4)
        ∧ (s.claimsLead = true → claim ≠ 1 → s.fry.token < token → t.fry.pstate = .stranded ∧ t.fry.role = .none
            ∧ t.fry.token = s.fry.token ∧ t.fry.rate = 0 ∧ RoleWritten t 3)
        ∧ (s.claimsLead = false → claim = 1 → s.fry.token ≤ token → t.fry.role = .follower ∧ t.fry.token = token
            ∧ t.fry.joinStep = 4)
        ∧ (s.claimsLead = false → claim ≠ 1 ∨ token < s.fry.token → t.fry.pstate = before.1 ∧ t.fry.role = before.2
            ∧ t.fry.rate = 0))

/-- On a joined pair whose link is up. BELL gives the follower its offset and the cable delay, starts a slew beyond
100 ns, and takes the link down when the FN differs. The lead's STATE goes out at slot 4 and the follower's at slot 1,
with the durable FN values; a STATE received gives the peer's power and durability, raises PAIR_DURABLE_FN on the lead
to the least of what both modules and the acks allow, and on the follower to the lead's value, never down. HEARTBEAT
goes out at slot 8 with role, state, token and the oldest record to relay; one received restarts the silence timer,
shows the peer's token, and demotes a lead of a lower token. A MIRROR_WRITE takes the next index and hands its sectors
to their slice in order. A MIRROR_ACK takes the messages it covers out of the send queue, and answers each write that
waited only for it. Concludes that exec answers a next state for: bellMsg, stateSend, stateMsg, heartbeatSend,
heartbeatMsg, mirrorWrite, mirrorAck. -/
def Obligations.PairMessagesCarryBellStateAndMirroredWrites : Prop :=
  (∀ (lowRate : Bool) (fn delay : Nat) (offset : Int) (s : State), s.fry.role = .follower → s.joined = true →
      s.fry.rate = (if lowRate then 1 else 2) →
      Answers (.bellMsg lowRate fn delay offset) s fun t => t.fry.offset = offset ∧ t.cache = s.cache ∧ t.media = s.media
        ∧ (fn = s.tt.fn → t.fry.tracking = true ∧ t.fry.delay = delay % 2 ^ 32 ∧ t.fry.heardNs = s.ns ∧ t.fry.rate = s.fry.rate
            ∧ t.fry.slewing = (decide (100 < offset.natAbs) || (s.fry.slewing && decide (10 < offset.natAbs)))
            ∧ (100 < offset.natAbs → s.fry.slewing = false →
                Recorded s t bFry 275 0x0A31 .warning [(4, signed 4 offset)]))
        ∧ (fn ≠ s.tt.fn → t.fry.rate = 0 ∧ t.sec.ferrySession = false ∧ t.fry.pstate = s.fry.pstate
            ∧ (offset.natAbs ≤ 100 → t.tele = ((s.record bFry 275 0x0A32 .error [(6, s.tt.fn), (6, fn)]).record bFry 272 0x0A02
                .warning [(1, 2)]).tele)))
  ∧ (∀ (cyc : Nat) (s : State), s.fry.rate ≠ 0 → s.joined = true → s.sec.error = false → s.fry.sendQ = [] →
      (s.at cyc).slot = (if s.isLead then 4 else 1) →
      Answers (.stateSend cyc) s fun t => HostDataKept s t ∧ ∃ bits left, t.out = [ferryOut 4 [bits, (s.head 0).mediaFn,
          if s.isLead then (t.head 0).pairFn else 0, s.fry.widxSent, left] []]
        ∧ (s.isLead = true → s.pairCfg = true → s.fry.pstate = .joined → s.fry.pendingRole = none → ∀ h < 2,
            (t.head h).pairFn = max (s.head h).pairFn (min (s.head h).mediaFn (min s.fry.peerMediaFn (s.tt.fn - 1)))))
  ∧ (∀ (cyc power mediaFn pairFn left : Nat) (s : State), s.fry.rate ≠ 0 → s.joined = true → s.pairCfg = true →
      Answers (.stateMsg cyc power mediaFn pairFn left) s fun t => t.fry.peerPower = power ∧ t.fry.peerMediaFn = mediaFn
        ∧ t.fry.leftReported = left % 2 ^ 33 ∧ t.fry.heardNs = (s.at cyc).ns ∧ t.tele = s.tele ∧ HostDataKept s t
        ∧ (s.isLead = true → s.fry.pstate = .joined → s.fry.pendingRole = none → ∀ h < 2,
            (t.head h).pairFn = max (s.head h).pairFn
              (s.fry.sendQ.foldl (fun f m => min f (m.fn - 1)) (min (s.head h).mediaFn (min mediaFn (s.tt.fn - 1)))))
        ∧ (s.isLead = false → s.fry.pendingRole = none → ∀ h < 2, (t.head h).pairFn = max (s.head h).pairFn pairFn))
  ∧ (∀ (cyc : Nat) (s : State), s.fry.rate ≠ 0 → s.joined = true → s.sec.error = false → (s.at cyc).slot = 8 →
      Answers (.heartbeatSend cyc) s fun t => HostDataKept s t ∧ t.tele.evq.relay = s.tele.evq.relay.drop 1
        ∧ ∃ payload, ferryOut 10 [roleVal s.fry.role, pstateVal s.fry.pstate, s.fry.token, b2n (!s.tele.evq.relay.isEmpty)] payload
            ∈ t.out)
  ∧ (∀ (cyc token : Nat) (s : State), s.fry.rate ≠ 0 → s.joined = true →
      (token ≤ s.fry.token ∨ s.isLead = false →
        Answers (.heartbeatMsg cyc token none) s (fun t => t.fry = { s.fry with heardNs := (s.at cyc).ns, peerToken := token }
            ∧ t.tele = s.tele)
        ∧ ∀ w, Answers (.heartbeatMsg cyc token (some w)) s fun t => t.fry.peerToken = token
            ∧ t.tele.evq = Evq.put 8 s.tele.evq (Record.ofWord w).source [Record.ofWord w] ∧ (Record.ofWord w).relayed = true)
      ∧ (s.fry.token < token → s.isLead = true → ∀ relayed,
          Answers (.heartbeatMsg cyc token relayed) s fun t => t.fry.role = .follower ∧ t.fry.token = token
            ∧ t.fry.pstate = s.fry.pstate ∧ RoleWritten t 2 ∧ HostDataKept s t))
  ∧ (∀ (cyc lpn sector : Nat) (data : List Sector) (poison : BitVec 4) (s : State), s.fry.rate ≠ 0 → s.joined = true →
      s.fry.role = .follower → s.promoting = false → 0 < data.length → data.length ≤ 4 → sector + data.length ≤ 64 → lpn < userPages →
      Answers (.mirrorWrite cyc lpn sector data poison) s fun t => ∃ u : State,
        let is := (List.range data.length).map fun i => sector + i
        u.fry = { s.fry with
          widxNext := s.fry.widxNext + 1, applyBy := s.fry.applyBy.set s.fry.widxNext is
          durableBy := s.fry.durableBy.set s.fry.widxNext is }
        ∧ u.cache = s.cache ∧ u.media = s.media ∧ u.dram = s.dram ∧ u.out = []
        ∧ t = (List.range data.length).foldl (fun v i =>
            ({ v with cache := { v.cache with nextReq := v.cache.nextReq + 1 } } : State).submit
              { id := v.cache.nextReq, origin := .mirror s.fry.widxNext, dpa := lpn * 4096 + 64 * (sector + i), kind := .write
                data := data.getD i 0, be := BitVec.allOnes 64, poison := poison.getLsbD i, recv := v.ns, admitNs := v.ns
                region := (v.regionAt bXl (lpn * 4096 + 64 * (sector + i))).getD 0 }) u)
  ∧ (∀ (cyc widx : Nat) (s : State), s.fry.rate ≠ 0 → s.joined = true → s.isLead = true → widx ≤ s.fry.widxSent →
      s.fry.handover = none → s.fry.resign = none → (∀ m ∈ s.fry.sendQ, ∀ x ∈ m.waits, ∀ w, x.1.origin ≠ .mirror w) →
      Answers (.mirrorAck cyc widx) s fun t => t.fry.widxAcked = max s.fry.widxAcked widx
        ∧ t.fry.sendQ = (s.fry.sendQ.filter fun m => decide (widx < m.widx)) ∧ HostDataKept s t
        ∧ (∀ m ∈ s.fry.sendQ, m.widx ≤ widx → ∀ r c h tag, (r, some c) ∈ m.waits → r.origin = .host h tag → r.mute = false →
            s.deaf h.val = false → ∃ load, .ndr h.val tag load ∈ t.out))

/-- On a pair member. A follower that gets HANDOVER or RESIGN with a higher token, or that hears nothing until the
silence timer ends, writes its role record as lead with the new token and leads at the next tick, unless SEC is in
error or the module locked; a lead that gets DEPART or hears nothing splits; a lead that gets ACCEPT follows from the
next tick. A lead that sees a higher token demotes. A handover without ACCEPT for 4 frames, and a resignation that
could not drain in 50 µs, leave the module STRANDED; the latter keeps its unacknowledged pages as suspects and sends
RESIGN with the next token. Over a path the mailbox serves: PAIR_STATUS reports; PROMOTE, DEMOTE, HANDOVER, DETACH,
ATTACH and RESYNC_RATE act where R387 accepts them, and otherwise are refused and change nothing of the pair.
Concludes that exec answers a next state for: roleHandover, roleResign, roleAccept, roleDepart, roleDemoted,
silenceTimeout, handoverTimeout, resignDrainTimeout, pairStatus, pairPromote, pairDemote, pairHandover, pairDetach,
pairAttach, pairResyncRate. -/
def Obligations.PairRolesChangeByTokensAndCommands : Prop :=
  (∀ (token : Nat) (s : State), s.fry.rate ≠ 0 → s.joined = true → s.fry.role = .follower → s.fry.token < token →
      s.fry.pendingRole = none →
      (s.sec.error = false → s.sec.pass.locked = false →
        Answers (.roleHandover token) s (fun t => t.fry.token = token ∧ RoleWritten t 1 ∧ ferryOut 5 [2, token] [] ∈ t.out
            ∧ t.fry.pendingRole = some (s.fry.pstate, .lead) ∧ t.fry.role = .follower ∧ HostDataKept s t)
        ∧ Answers (.roleResign token) s (fun t => t.fry.token = token ∧ RoleWritten t 1
            ∧ t.fry.pendingRole = some (.splitLead, .lead) ∧ t.fry.role = .follower ∧ HostDataKept s t))
      ∧ (s.sec.error = true ∨ s.sec.pass.locked = true →
        Answers (.roleHandover token) s (fun t => t.fry.token = s.fry.token ∧ t.fry.pendingRole = some (.stranded, .none)
            ∧ RoleWritten t 3)
        ∧ Answers (.roleResign token) s (fun t => t.fry.token = s.fry.token ∧ t.fry.pendingRole = some (.stranded, .none)
            ∧ RoleWritten t 3)))
  ∧ (∀ (token f : Nat) (s : State), s.fry.handoverFn = some f → s.isLead = true → token = s.fry.token + 1 →
      Answers (.roleAccept token) s fun t => t.fry.token = token ∧ RoleWritten t 2 ∧ t.fry.handover = none
        ∧ t.fry.handoverFn = none ∧ t.fry.pendingRole = some (s.fry.pstate, .follower) ∧ t.fry.role = .lead ∧ HostDataKept s t)
  ∧ (∀ (token : Nat) (s : State), s.fry.rate ≠ 0 → s.joined = true → s.isLead = true → token ≤ s.fry.token →
      s.fry.pendingRole = none →
      Answers (.roleDepart token) s fun t => t.fry.peerToken = token ∧ t.fry.pendingRole = some (.splitLead, .lead)
        ∧ RoleWritten t 1 ∧ t.fry.token = s.fry.token ∧ t.fry.sendQ = s.ferryDelay.fry.sendQ ∧ HostDataKept s t)
  ∧ (∀ (token : Nat) (s : State), s.fry.rate ≠ 0 →
      (s.isLead = false ∨ token ≤ s.fry.token → Answers (.roleDemoted token) s fun t =>
          t = { s with out := [], fry := { s.fry with peerToken := token } })
      ∧ (s.isLead = true → s.fry.token < token → s.fry.pstate ≠ .joining → Answers (.roleDemoted token) s fun t =>
          HostDataKept s t ∧ (s.joined = true → t.fry.token = token ∧ t.fry.role = .follower ∧ RoleWritten t 2)
          ∧ (s.joined = false → t.fry.token = s.fry.token ∧ t.fry.role = .none ∧ t.fry.pstate = .stranded ∧ RoleWritten t 3)))
  ∧ (∀ (cyc : Nat) (s : State), (s.at cyc).silenceNs = 65280 →
      (s.joined = true → s.isLead = true → s.fry.pendingRole = none → Answers (.silenceTimeout cyc) s fun t =>
          t.fry.pendingRole = some (.splitLead, .lead) ∧ RoleWritten t 1 ∧ t.fry.token = s.fry.token ∧ HostDataKept s t)
      ∧ (s.joined = true → s.isLead = false → s.fry.pendingRole = none → s.sec.error = false → s.sec.pass.locked = false →
          Answers (.silenceTimeout cyc) s fun t => t.fry.pendingRole = some (.splitLead, .lead) ∧ RoleWritten t 1
            ∧ t.fry.token = s.fry.token + 1 ∧ HostDataKept s t)
      ∧ (s.fry.pstate = .joining → Answers (.silenceTimeout cyc) s fun t => t.fry.rate = 0
          ∧ t.fry.pstate = (s.fry.before.getD (.joining, s.fry.role)).1))
  ∧ (∀ (cyc f : Nat) (s : State), s.fry.handoverFn = some f → f + 4 ≤ s.tt.fn →
      Answers (.handoverTimeout cyc) s fun t => t.fry.pstate = .stranded ∧ t.fry.role = .none ∧ t.fry.handover = none
        ∧ RoleWritten t 3 ∧ (∀ m ∈ s.fry.sendQ, t.fry.marked m.lpn = true) ∧ t.fry.sendQ = [])
  ∧ (∀ (cyc t0 : Nat) (detach : Bool) (s : State), s.fry.resign = some (t0, detach) → t0 + 50000 ≤ (s.at cyc).ns →
      Answers (.resignDrainTimeout cyc) s fun t => t.fry.pstate = .stranded ∧ t.fry.role = .none ∧ t.fry.resign = none
        ∧ t.fry.token = s.fry.token + 1 ∧ RoleWritten t 2 ∧ t.fry.sendQ = [] ∧ (∀ m ∈ s.fry.sendQ, m.lpn ∈ t.fry.suspects)
        ∧ (s.fry.rate ≠ 0 → s.sec.error = false → ferryOut 5 [3, s.fry.token + 1] [] ∈ t.out))
  ∧ (∀ (m : Master) (payload : List (BitVec 8)) (s : State), Serves s m →
      (payload.length = 0 → Answers (.pairStatus m payload) s fun t => t.fry = s.fry ∧ Replied t m rcSuccess (leBytes 4 0
          ++ leBytes 1 (pstateVal s.fry.pstate) ++ leBytes 1 (roleVal s.fry.role) ++ leBytes 2 0 ++ leBytes 8 s.fry.token
          ++ leBytes 8 s.fry.peerToken ++ leBytes 8 s.fry.session ++ leBytes 8 s.resyncLeft))
      ∧ (payload.length = 8 → let token := pnum payload 0 8
          (s.pairCfg = true → s.fry.pstate ≠ .joining → s.fry.token < token → s.fry.peerToken < token →
            Answers (.pairPromote m payload) s fun t => Replied t m rcSuccess (leBytes 4 0) ∧ t.fry.token = token
              ∧ RoleWritten t 1 ∧ t.fry.pendingRole = some (if s.joined then s.fry.pstate else .splitLead, .lead)
              ∧ HostDataKept s t)
          ∧ (token ≤ s.fry.token ∨ token ≤ s.fry.peerToken ∨ s.fry.pstate = .joining ∨ s.pairCfg = false →
            Answers (.pairPromote m payload) s fun t => Replied t m (detailCode 2) (leBytes 4 2) ∧ t.fry = s.fry)
          ∧ (s.isLead = true → s.fry.pstate ≠ .joining → s.fry.token ≤ token → Answers (.pairDemote m payload) s fun t =>
              .reply (masterVal m) rcSuccess (leBytes 4 0) ∈ t.out ∧ t.fry.token = token ∧ t.fry.role = .none
              ∧ t.fry.pstate = .stranded ∧ RoleWritten t 3)
          ∧ (s.isLead = false ∨ token < s.fry.token → Answers (.pairDemote m payload) s fun t =>
              Replied t m (detailCode 2) (leBytes 4 2) ∧ t.fry = s.fry))
      ∧ (payload.length = 0 →
          (s.isLead = true → s.fry.pstate = .joined → s.fry.handover = none → s.fry.resign = none → s.fry.pendingRole = none →
            Answers (.pairHandover m payload) s fun t => .reply (masterVal m) rcSuccess (leBytes 4 0) ∈ t.out
              ∧ t.fry.handover = some s.ns ∧ t.fry.role = .lead
              ∧ (s.fry.sendQ = [] → s.fry.rate ≠ 0 → s.sec.error = false → s.fry.handoverFn = none →
                  ferryOut 5 [1, s.fry.token + 1] [] ∈ t.out ∧ t.fry.handoverFn = some s.tt.fn))
          ∧ (s.isLead = false ∨ s.fry.pstate ≠ .joined → Answers (.pairHandover m payload) s fun t =>
              Replied t m (detailCode 2) (leBytes 4 2) ∧ t.fry = s.fry)
          ∧ (s.pairCfg = true → Answers (.pairDetach m payload) s fun t => t.fry.detached = true ∧ t.fry.attachAsked = false
              ∧ .reply (masterVal m) rcSuccess (leBytes 4 0) ∈ t.out
              ∧ (s.joined = true → s.isLead = true → s.fry.resign = none → s.fry.sendQ = [] → t.fry.pstate = .stranded
                  ∧ t.fry.token = s.fry.token + 1 ∧ RoleWritten t 2)
              ∧ (s.joined = true → s.isLead = false → s.fry.resign = none → t.fry.pstate = .stranded ∧ t.fry.role = .none
                  ∧ RoleWritten t 3))
          ∧ (s.pairCfg = true → Answers (.pairAttach m payload) s fun t => Replied t m rcSuccess (leBytes 4 0)
              ∧ t.fry = { s.fry with detached := false, attachAsked := true })
          ∧ (s.pairCfg = false → ∀ c, c = Instr.pairDetach m payload ∨ c = Instr.pairAttach m payload →
              Answers c s fun t => Replied t m (detailCode 2) (leBytes 4 2) ∧ t.fry = s.fry))
      ∧ (payload.length = 4 → pnum payload 1 3 = 0 → 1 ≤ pnum payload 0 1 → pnum payload 0 1 ≤ 50 →
          Answers (.pairResyncRate m payload) s fun t => Replied t m rcSuccess (leBytes 4 0) ∧ t.fry = s.fry
            ∧ t.actW bFry 0x044 = BitVec.ofNat 32 (pnum payload 0 1)))

/-- While a resync runs over an up link. Bitmap pages received enter the lead's bitmap, and the follower's merged
bitmap. The lead begins to take the next page of its bitmap: the sectors it holds, and one merge read for each block
not wholly held. Once every block is read it sends the page (kind 2 for a page of zeros, else kind 1), clears its bit
and counts it; with none left it sends kind 4 once. The follower that receives a page notes it as fetched and writes
its 64 sectors, with poison, in order; a page of zeros likewise. Kind 4 leads the follower to answer once every page
it received is durable, and the answered lead to enter JOINED at the next tick. A request of a joined peer for a page,
whose writes up to the index given are applied, is taken likewise, and answered with the page as it stands. The
bitmap's clearing ends by its own command. Concludes that exec answers a next state for: resyncPageBitmap,
resyncPageSend, resyncPageData, resyncPageZero, resyncPageDone, resyncPageRequest, resyncBitmapCleared. -/
def Obligations.ResyncPagesGoOutAndComeIn : Prop :=
  (∀ (cyc index : Nat) (pages : List Nat) (s : State), s.fry.rate ≠ 0 → s.fry.pstate = .resyncing → s.promoting = false → index < 196608 →
      Answers (.resyncPageBitmap cyc index pages) s fun t => t.cache = s.cache ∧ t.media = s.media ∧ t.tele = s.tele ∧ t.out = []
        ∧ (s.isLead = true → ∀ p, t.fry.marked p = true ↔ s.fry.marked p = true ∨ ∃ b ∈ pages, b < 32768 ∧ p = index * 32768 + b)
        ∧ (s.isLead = false → ∀ p, p ∈ t.fry.merged ↔ p ∈ s.fry.merged ∨ ∃ b ∈ pages, b < 32768 ∧ p = index * 32768 + b))
  ∧ (∀ (cyc : Nat) (s : State), s.fry.pstate = .resyncing → s.isLead = true → s.fry.rate = 2 →
      s.fry.pendingRole = none → s.fry.resyncNow < s.resyncCap → s.sec.error = false → s.fry.sendQ = [] →
      s.resyncFits = true →
      (s.nextResync = none → s.fry.doneSent = false → s.fry.takes = [] → Answers (.resyncPageSend cyc) s fun t => HostDataKept s t
          ∧ t.fry.doneSent = true ∧ ferryOut 7 [4, s.fry.resyncSent, s.fry.widxSent] [] ∈ t.out)
      ∧ (∀ lpn i, s.nextResync = some lpn → s.fry.takes = [] → s.mayTake lpn = true → i < 64 → s.sectorHere lpn i = none →
          (∀ q < 17, s.missing (s.readPsn lpn) q = false) → Answers (.resyncPageSend cyc) s fun t => HostDataKept s t
          ∧ t.fry.takes = [{ lpn := lpn, answer := false, present := (List.range 64).map fun k => s.sectorHere lpn k }]
          ∧ (∀ p, t.fry.marked p = s.fry.marked p) ∧ t.fry.resyncSent = s.fry.resyncSent ∧ t.fry.pcred = s.fry.pcred
          ∧ ∃ m ∈ t.media.reads, m.use = .page lpn ∧ m.kind = .merge ∧ m.block = i / 4 ∧ m.step = 1)
      ∧ (∀ p, (s.fry.takes.find? fun x => !x.answer) = some p → s.taken p = true → 0 < s.fry.pcred →
          Answers (.resyncPageSend cyc) s fun t => HostDataKept s t
          ∧ t.fry.marked p.lpn = false ∧ (∀ l, l ≠ p.lpn → t.fry.marked l = s.fry.marked l)
          ∧ t.fry.takes = (s.fry.takes.filter fun x => x.lpn != p.lpn)
          ∧ t.fry.resyncSent = s.fry.resyncSent + 1 ∧ t.fry.resyncNow = s.fry.resyncNow + 1 ∧ t.fry.doneSent = false
          ∧ (s.zeroPage p.lpn (s.takeSectors p) = true → ferryOut 7 [2, p.lpn, s.fry.widxSent] [] ∈ t.out
              ∧ t.fry.pcred = s.fry.pcred)
          ∧ (s.zeroPage p.lpn (s.takeSectors p) = false → t.fry.pcred = s.fry.pcred - 1
              ∧ ferryOut 7 [1, p.lpn, s.fry.widxSent] (pageBytes (s.takeSectors p)) ∈ t.out)))
  ∧ (∀ (cyc lpn : Nat) (s : State), s.takesPage lpn = true →
      let page (data : Nat → Sector) (poison : BitVec 64) (t : State) : Prop := ∃ u : State,
        u.fry.fetched = (if s.fry.fetched.contains lpn then s.fry.fetched else s.fry.fetched ++ [lpn])
        ∧ lpn ∉ u.fry.merged ∧ lpn ∉ u.fry.fetching ∧ u.fry.pageOwed.get? lpn = some (List.range 64) ∧ u.cache = s.cache
        ∧ u.media = s.media ∧ u.dram = s.dram ∧ u.out = []
        ∧ t = (List.range 64).foldl (fun v i =>
            ({ v with cache := { v.cache with nextReq := v.cache.nextReq + 1 } } : State).submit
              { id := v.cache.nextReq, origin := .page, dpa := lpn * 4096 + 64 * i, kind := .write, data := data i
                be := BitVec.allOnes 64, poison := poison.getLsbD i, recv := v.ns, admitNs := v.ns
                region := (v.regionAt bXl (lpn * 4096 + 64 * i)).getD 0 }) u
      (∀ data poison, data.length = 64 →
        Answers (.resyncPageData cyc lpn data poison) s fun t => page (fun i => data.getD i 0) poison t)
      ∧ Answers (.resyncPageZero cyc lpn) s fun t => page (fun _ => 0) 0 t)
  ∧ (∀ (cyc : Nat) (s : State), s.fry.rate ≠ 0 → s.fry.pstate = .resyncing →
      (s.isLead = true → s.fry.doneSent = true → s.nextResync = none → Answers (.resyncPageDone cyc) s fun t =>
          t.fry.pendingRole = some (.joined, .lead) ∧ t.cache = s.cache ∧ t.out = [])
      ∧ (s.fry.role = .follower → s.fry.pageOwed = [] → s.sec.error = false → s.fry.pendingRole = none → Answers (.resyncPageDone cyc) s fun t =>
          t.fry.pendingRole = some (.joined, .follower) ∧ t.out = [ferryOut 7 [4, s.fry.fetched.length, s.fry.widxSent] []]
          ∧ t.fry.mergedHere = true ∧ t.cache = s.cache)
      ∧ (s.fry.role = .follower → s.fry.pageOwed ≠ [] → s.promoting = false → Answers (.resyncPageDone cyc) s fun t =>
          t.fry.doneRecv = true ∧ t.fry.pendingRole = s.fry.pendingRole ∧ t.out = [] ∧ t.cache = s.cache))
  ∧ (∀ (cyc lpn widx : Nat) (s : State), s.fry.rate ≠ 0 → s.joined = true → lpn < userPages →
      widx ≤ s.fry.widxSent → s.needsFetch lpn = false → s.sec.error = false → s.fry.sendQ = [] →
      (∀ i, i < 64 → s.sectorHere lpn i = none → s.mayTake lpn = true → (∀ q < 17, s.missing (s.readPsn lpn) q = false) →
        Answers (.resyncPageRequest cyc lpn widx) s fun t => HostDataKept s t ∧ t.out = [] ∧ t.fry.pcred = s.fry.pcred
          ∧ t.fry.takes = s.fry.takes ++ [{ lpn := lpn, answer := true, present := (List.range 64).map fun k => s.sectorHere lpn k }]
          ∧ ∃ m ∈ t.media.reads, m.use = .page lpn ∧ m.kind = .merge ∧ m.block = i / 4 ∧ m.step = 1)
      ∧ (∀ p, (s.fry.takes.find? fun x => x.answer && x.lpn == lpn) = some p → s.taken p = true → 0 < s.fry.pcred →
        Answers (.resyncPageRequest cyc lpn widx) s fun t => HostDataKept s t ∧ t.fry.pcred = s.fry.pcred - 1
          ∧ t.fry.takes = (s.fry.takes.filter fun x => x.lpn != lpn)
          ∧ t.out = [ferryOut 7 [1, lpn, s.fry.widxSent] (pageBytes (s.takeSectors p))]))
  ∧ (∀ (s : State), Answers .resyncBitmapCleared s fun t => t = { s with out := [], fry := { s.fry with clearing := false } })

/-- On a joined pair whose link is up. A follower within its bell limit, with no change pending, the target ahead and
its own rules met, acks a proposed change and holds it; else it refuses. The lead holds an acked change and answers
its command with the target; a refusal, or no ack by the tick of target − 2, records AT_FN_CANCELLED with its cause,
applies nothing and answers DETAIL 4. A cancel drops the follower's change, and a sync of a join is held. A barge
proposal is checked likewise: acked, the follower's channel waits for the launch with the descriptor; refused or
cancelled, the lead's channel halts with status 7 and the follower's is free. DONE of the peer is noted; HALTED puts
the destination pages into the lead's bitmap for resync, or frees the follower's channel and has it take those pages
from the lead. Concludes that exec answers a next state for: configAtFnPropose, configAtFnAck, configAtFnRefuse,
configAtFnCancel, atFnCancelled, configAtFnSync, bargeAtFnPropose, bargeAtFnAck, bargeAtFnRefuse, bargeAtFnCancel,
bargeAtFnDone, bargeAtFnHalted. -/
def Obligations.ChangesAtAStatedFnAreAgreedOrCancelled : Prop :=
  (∀ (change id target subject value : Nat) (s : State), s.fry.rate ≠ 0 → s.joined = true → s.fry.role = .follower →
      s.sec.error = false →
      let ok : Prop := s.inLimit = true ∧ s.fry.atFn = none ∧ s.tt.fn + 1 < target ∧ s.changeOk change subject value = true
      Answers (.configAtFnPropose change id target subject value) s fun t => HostDataKept s t ∧ t.xl = s.xl
        ∧ (ok → t.out = [ferryOut 8 [2, change, id, target, subject, value] []] ∧ t.fry.atFnShow = (target, id, 2, false)
            ∧ t.fry.atFn = some { change := change, id := id, target := target, subject := subject, value := value, stage := 2 })
        ∧ (¬ ok → t.out = [ferryOut 8 [3, change, id, target, subject, value] []] ∧ t.fry.atFnShow = (target, id, 5, false)
            ∧ t.fry.atFn = s.fry.atFn))
  ∧ (∀ (a : AtFn) (s : State), s.fry.rate ≠ 0 → s.fry.atFn = some a →
      (s.isLead = true → a.stage = 1 → s.tt.fn + 2 < a.target → Answers (.configAtFnAck a.id) s fun t =>
          t.fry.atFn = some { a with stage := 2 } ∧ t.fry.atFnShow = (a.target, a.id, 2, false) ∧ HostDataKept s t
          ∧ t.mbox.owed = none
          ∧ (∀ m opcode, s.mbox.owed = some (m, opcode) → t.out = [.reply (masterVal m) rcSuccess
              (leBytes 4 0 ++ (leBytes 6 a.target ++ if opcode = 0xC010 then leBytes 1 a.id else []))]))
      ∧ (s.isLead = true → a.stage = 1 → ∀ bell, Answers (.configAtFnRefuse a.id bell) s fun t => t.fry.atFn = none
          ∧ t.fry.atFnShow = (a.target, a.id, 5, false) ∧ HostDataKept s t
          ∧ (s.mbox.owed = none → Recorded s t bFry 278 0x0A62 .warning [(1, a.id), (1, if bell then 2 else 1)])
          ∧ (∀ m opcode, s.mbox.owed = some (m, opcode) → t.out = [.reply (masterVal m) (detailCode 4) (leBytes 4 4)]))
      ∧ (s.isLead = false → Answers (.configAtFnCancel a.id) s fun t => t.fry.atFn = none
          ∧ t.fry.atFnShow = (a.target, a.id, 4, false) ∧ t.tele = s.tele ∧ HostDataKept s t)
      ∧ (s.isLead = true → a.stage = 1 → a.target ≤ s.tt.fn + 2 → s.sec.error = false → s.fry.bargeAt = [] →
          Answers .atFnCancelled s fun t => t.fry.atFn = none ∧ t.mbox.owed = none ∧ HostDataKept s t
            ∧ ferryOut 8 [4, a.change, a.id, a.target, a.subject, a.value] [] ∈ t.out
            ∧ (s.mbox.owed = none → Recorded s t bFry 278 0x0A62 .warning [(1, a.id), (1, 0)])))
  ∧ (∀ (ch : Nat) (b : BargeAtFn) (s : State), ch < 4 → s.fry.rate ≠ 0 → s.sec.error = false → s.fry.atFn = none →
      s.fry.bargeAt = [(ch, b)] → b.mine = true → b.stage = 1 → b.launch ≤ s.tt.fn + 2 →
      Answers .atFnCancelled s fun t => t.fry.bargeAt = [] ∧ (t.brg ch).state = 2 ∧ (t.brg ch).haltStatus = 7 ∧ HostDataKept s t
        ∧ ferryOut 9 [4, ch, b.id, b.launch, b.widx] [] ∈ t.out)
  ∧ (∀ (change target subject value : Nat) (s : State), s.fry.rate ≠ 0 → s.fry.pstate = .joining → s.fry.role = .follower →
      6 ≤ s.fry.joinStep → subject < 64 → (change = 1 ∨ change = 3 ∧ (s.keySlot subject).lastFormat < value) →
      Answers (.configAtFnSync change target subject value) s fun t => t.fry.syncs = s.fry.syncs ++ [{
          change := change, id := 0, target := target, subject := subject, value := value, stage := 2 }]
        ∧ t.tele = s.tele ∧ t.cache = s.cache)
  ∧ (∀ (ch id launch widx : Nat) (desc : BitVec 512) (s : State), s.fry.rate ≠ 0 → s.joined = true → s.fry.role = .follower →
      ch < 4 → s.sec.error = false →
      let d : Descriptor := { word := desc, endMark := true, index := 0 }
      let ok : Prop := s.inLimit = true ∧ s.tt.fn + 1 < launch ∧ (s.brg ch).state = 0 ∧ (s.brg ch).cur = none
        ∧ (s.brg ch).out = false ∧ s.bargeCheck ch d true = 0
      Answers (.bargeAtFnPropose ch id launch widx desc) s fun t => HostDataKept s t
        ∧ (ok → t.out = [ferryOut 9 [2, ch, id, launch, widx] []] ∧ (t.brg ch).state = 3 ∧ (t.brg ch).cur = some d
            ∧ (t.brg ch).peer = true ∧ t.fry.bargeAt.get? ch = some { id := id, desc := d, mine := false, launch := launch
                                                                      widx := widx, stage := 2, dst := d.dst, len := d.len })
        ∧ (¬ ok → t.out = [ferryOut 9 [3, ch, id, launch, widx] []] ∧ t.brg ch = s.brg ch ∧ t.fry.bargeAt = s.fry.bargeAt))
  ∧ (∀ (ch : Nat) (b : BargeAtFn) (s : State), ch < 4 → s.fry.rate ≠ 0 → s.fry.bargeAt.get? ch = some b →
      (b.mine = true → b.stage = 1 → s.tt.fn + 2 < b.launch → Answers (.bargeAtFnAck ch b.id) s fun t =>
          t.fry.bargeAt.get? ch = some { b with stage := 2 } ∧ t.barge = s.barge ∧ t.tele = s.tele ∧ HostDataKept s t)
      ∧ (b.mine = true → b.stage = 1 → ∀ bell, Answers (.bargeAtFnRefuse ch b.id bell) s fun t => HostDataKept s t
          ∧ (t.brg ch).state = 2 ∧ (t.brg ch).haltStatus = 7 ∧ (t.brg ch).cur = none ∧ t.fry.atFnShow = (b.launch, b.id, 5, true))
      ∧ (b.mine = false → b.stage = 2 → Answers (.bargeAtFnCancel ch b.id) s fun t => t.tele = s.tele ∧ HostDataKept s t
          ∧ (t.brg ch).state = 0 ∧ (t.brg ch).cur = none ∧ t.fry.atFnShow = (b.launch, b.id, 4, true))
      ∧ (b.mine = true → b.stage = 3 → b.doneHere = false → Answers (.bargeAtFnDone ch b.id) s fun t =>
          t.fry.bargeAt.get? ch = some { b with donePeer := true } ∧ t.barge = s.barge ∧ t.tele = s.tele)
      ∧ (b.mine = true → b.stage = 3 → b.doneHere = true → ∀ d, (s.brg ch).cur = some d →
          Answers (.bargeAtFnDone ch b.id) s fun t => (t.brg ch).state = 0 ∧ (t.brg ch).cur = none ∧ HostDataKept s t)
      ∧ (b.mine = true → b.stage = 3 → b.doneHere = false → s.isLead = true → Answers (.bargeAtFnHalted ch b.id) s fun t =>
          (∀ p ∈ pagesOf b.dst b.len, t.fry.marked p = true) ∧ (s.fry.pstate = .joined → t.fry.pstate = .resyncing)
          ∧ t.barge = s.barge ∧ HostDataKept s t)
      ∧ (b.mine = false → b.stage = 3 → s.joined = true → s.isLead = false → Answers (.bargeAtFnHalted ch b.id) s fun t =>
          (∀ p ∈ pagesOf b.dst b.len, p ∈ t.fry.merged ∧ p ∉ t.fry.fetched) ∧ t.fry.pstate = .resyncing
          ∧ (t.brg ch).state = 0 ∧ (t.brg ch).cur = none ∧ HostDataKept s t))

/-- A doorbell sets TAIL, over a mailbox path with a reply, from the bus without, and wakes a Moored module. An idle
channel with a released descriptor takes it: it halts with the status of the first failing check, waits in state 3 for
the launch it proposes where the destination is mirrored on a joined lead, and otherwise runs. While it runs, a source
sector that no cache, landing entry or read block holds has its block's read begun. COPY puts a clean source sector
into staging, and then writes it; a poisoned or unreadable source sector halts the channel with status 1. FILL writes
the pattern repeated, ZERO zeros, as whole-sector writes handed to the slice; k sectors within length and rate advance
the count by k. CRC sums a clean source sector. With all moved and no write outstanding, the descriptor completes: the
record is pushed, a CRC shows its result, IRQ raises vector 8. RESUME frees a halted channel. Concludes that exec
answers a next state for: bargeDoorbell, descriptorStart, bargeFill, bargeZero, bargeCopy, bargeCrc, bargeComplete,
bargeResume. -/
def Obligations.BargeDescriptorsAreCheckedMovedAndCompleted : Prop :=
  (∀ (m : Master) (payload : List (BitVec 8)) (s : State), pnum payload 0 1 < 4 →
      (Serves s m → payload.length = 4 → pnum payload 1 1 = 0 → Answers (.bargeDoorbell m payload) s fun t =>
          (t.brg (pnum payload 0 1)).tail = pnum payload 2 2 % 65536 ∧ .reply (masterVal m) rcSuccess (leBytes 4 0) ∈ t.out
          ∧ (s.pwr.state = 4 → t.pwr.state = 2) ∧ (s.pwr.state ≠ 4 → t.pwr = s.pwr ∧ t.cache = s.cache)
          ∧ t.cache.ways = s.cache.ways ∧ t.cache.landing = s.cache.landing)
      ∧ (isPath m = false → s.live bBrg = true ∨ s.pwr.state = 4 → Answers (.bargeDoorbell m payload) s fun t =>
          (t.brg (pnum payload 0 1)).tail = pnum payload 2 2 % 65536 ∧ (s.pwr.state = 4 → t.pwr.state = 2)
          ∧ t.cache.ways = s.cache.ways ∧ t.cache.landing = s.cache.landing))
  ∧ (∀ (ch : Nat) (w : QWord) (rest : List QWord) (s : State), ch < 4 → (s.brg ch).state = 0 → (s.brg ch).cur = none →
      (s.brg ch).head ≠ (s.brg ch).tail → s.live bBrg = true → s.pwr.flush = none → s.pwr.state = 2 ∨ s.pwr.state = 3 →
      (s.brg ch).desc.words = w :: rest →
      let d : Descriptor := { word := w.word, endMark := w.endMark && !w.bad, index := (s.brg ch).head }
      Answers (.descriptorStart ch) s fun t => HostDataKept s t ∧ (t.brg ch).head = ((s.brg ch).head + 1) % 65536
        ∧ (t.brg ch).desc.words = rest
        ∧ (s.bargeCheck ch d false = 0 → s.bargeMirrored d = false → (t.brg ch).state = 1 ∧ (t.brg ch).cur = some d
            ∧ (t.brg ch).sectors = 0 ∧ (t.brg ch).phase = !d.reads ∧ t.out = [])
        ∧ (s.bargeCheck ch d false = 0 → s.bargeMirrored d = true → (t.brg ch).state = 3 ∧ (t.brg ch).cur = some d
            ∧ ∃ b, t.fry.bargeAt.get? ch = some b ∧ b.desc = d ∧ b.mine = true ∧ b.launch = s.tt.fn + 8 ∧ b.stage = 1
              ∧ (s.fry.rate ≠ 0 → s.sec.error = false →
                  t.out = [ferryOut 9 [1, ch, b.id, b.launch, s.fry.widxSent] (leBytes 64 d.word.toNat)]))
        ∧ (s.bargeCheck ch d false ≠ 0 → s.fry.bargeAt.get? ch = none → (t.brg ch).state = 2 ∧ (t.brg ch).cur = none
            ∧ (t.brg ch).haltStatus = s.bargeCheck ch d false ∧ .msix 0 8 ∈ t.out))
  ∧ (∀ (cyc ch : Nat) (d : Descriptor) (s : State), ch < 4 → (s.brg ch).state = 1 → (s.brg ch).cur = some d →
      (s.brg ch).sectors < d.len → s.live bBrg = true → s.pwr.flush = none → s.bargeRoom ≠ 0 →
      let n := (s.brg ch).sectors
      let src := d.src + 64 * n
      let moves (data : Sector) (t : State) : Prop := ∃ v : State,
        (v.brg ch).sectors = n + 1 ∧ (v.brg ch).outstanding = (s.brg ch).outstanding + 1 ∧ v.mnt.bargeNow = s.mnt.bargeNow + 1
        ∧ v.cache = { s.cache with nextReq := s.cache.nextReq + 1 } ∧ v.dram = s.dram ∧ v.media = s.media
        ∧ t = (v.submit { id := s.cache.nextReq, origin := .barge ⟨ch % 4, Nat.mod_lt _ (by decide)⟩, dpa := d.dst + 64 * n
                          kind := .write, data := data, be := BitVec.allOnes 64
                          region := (s.regionAt bXl (d.dst + 64 * n)).getD 0, recv := (s.at cyc).ns
                          admitNs := (s.at cyc).ns }).bargePhase ch
      ((s.brg ch).phase = true →
        (d.op = 2 → ∃ data : Sector, (∀ j < 8, data.extractLsb' (64 * j) 64 = BitVec.ofNat 64 d.arg)
            ∧ Answers (.bargeFill cyc ch 1) s (moves data))
        ∧ (d.op = 3 → Answers (.bargeZero cyc ch 1) s (moves 0))
        ∧ (d.op = 1 → s.stagingUp ch = true → Answers (.bargeCopy cyc ch 1 []) s (moves (s.dramSector ch (stageAddr n))))
        ∧ (∀ k, n + k ≤ d.len → k ≤ s.bargeRoom →
            let counted (t : State) : Prop := (t.brg ch).sectors = n + k ∧ t.mnt.bargeNow = s.mnt.bargeNow + k
              ∧ (t.brg ch).cur = some d ∧ (n + k = d.len → (t.brg ch).moved = true)
            (d.op = 2 → Answers (.bargeFill cyc ch k) s counted) ∧ (d.op = 3 → Answers (.bargeZero cyc ch k) s counted)))
      ∧ ((s.brg ch).phase = false → s.sectorBusy src = false →
        (∀ x, s.bargeSector ch src = some (x, false) →
          (d.op = 1 → s.stagingUp ch = true → Answers (.bargeCopy cyc ch 1 []) s fun t => HostDataKept s t
            ∧ t.dramSector ch (stageAddr n) = x ∧ (n + 1 < d.len → (t.brg ch).sectors = n + 1 ∧ (t.brg ch).phase = false)
            ∧ (n + 1 = d.len → (t.brg ch).sectors = 0 ∧ (t.brg ch).phase = true))
          ∧ (d.op = 4 → Answers (.bargeCrc cyc ch 1) s fun t => HostDataKept s t ∧ (t.brg ch).sectors = n + 1
            ∧ (t.brg ch).acc = crc64 (s.brg ch).acc x ∧ (n + 1 = d.len → (t.brg ch).moved = true)))
        ∧ (s.bargeSector ch src = none → s.blockFor (.barge ch) (lpnOfDpa src) (sectorOf src / 4) = none →
          (∀ q < 17, s.missing (s.readPsn (lpnOfDpa src)) q = false) →
          let begun (t : State) : Prop := HostDataKept s t ∧ t.brg ch = s.brg ch
            ∧ ∃ m ∈ t.media.reads, m.use = .barge ch ∧ m.kind = .barge ∧ m.lpn = lpnOfDpa src ∧ m.block = sectorOf src / 4
              ∧ m.step = 1
          (d.op = 1 → s.stagingUp ch = true → Answers (.bargeCopy cyc ch 1 []) s begun)
          ∧ (d.op = 4 → Answers (.bargeCrc cyc ch 1) s begun))
        ∧ (s.fry.bargeAt.get? ch = none → ∀ x, s.bargeSector ch src = some (x, true) →
            (d.op = 1 → s.stagingUp ch = true → Answers (.bargeCopy cyc ch 1 []) s fun t => (t.brg ch).state = 2
              ∧ (t.brg ch).haltStatus = 1 ∧ (t.brg ch).cur = none ∧ HostDataKept s t)
            ∧ (d.op = 4 → Answers (.bargeCrc cyc ch 1) s fun t => (t.brg ch).state = 2 ∧ (t.brg ch).haltStatus = 1
              ∧ (t.brg ch).cur = none ∧ HostDataKept s t))))
  ∧ (∀ (ch : Nat) (d : Descriptor) (s : State), ch < 4 → (s.brg ch).state = 1 → (s.brg ch).cur = some d →
      (s.brg ch).moved = true → (s.brg ch).outstanding = 0 → s.fry.bargeAt.get? ch = none →
      Answers (.bargeComplete ch) s fun t => (t.brg ch).state = 0 ∧ (t.brg ch).cur = none ∧ HostDataKept s t
        ∧ ((s.brg ch).comp.discard = false → (s.brg ch).comp.words.length < 256 →
            (t.brg ch).comp.words.length = (s.brg ch).comp.words.length + 1)
        ∧ (d.op = 4 → (t.brg ch).crc = ~~~(s.brg ch).acc) ∧ (d.op ≠ 4 → (t.brg ch).crc = (s.brg ch).crc)
        ∧ (d.irq = true → .msix 0 8 ∈ t.out) ∧ (d.irq = false → t.out = []))
  ∧ (∀ (ch : Nat) (s : State), ch < 4 → (s.brg ch).state = 2 → Answers (.bargeResume ch) s fun t =>
      t.brg ch = { s.brg ch with state := 0 } ∧ (∀ k, k ≠ ch → t.brg k = s.brg k) ∧ t.tele = s.tele ∧ t.cache = s.cache)

/-- RECALIBRATE over a serving path starts in the background with its masks, ends at once with result 3 while the
calibration window is open, and is refused while a background command or an erase runs. RECAL_DONE clears BUSY and
ALT_REF_HIGH and sets the result; a shift moves the eight bytes of its curve, clamped to 0–255, and the set's sequence
number rises; a failed write leaves the store. A health test that is due begins in Open or Idle, waits for a frequency
change, and is noted otherwise; it ends with the first of monitor fault, timeout, C_m below 1,000 mF, ESR above 30 mΩ,
or pass, and only a pass ends a monitor fault. The monitor takes VRES, and a cell above 2.35 V, cells 0.15 V apart, or
the fall of R547 raise its fault, recorded when it appears. In Moored, a band due within 24 h wakes the module.
Concludes that exec answers a next state for: recalibrate, recalDone, capacitorHealthTest, bankTest, bankMonitor,
moorRefreshWake. -/
def Obligations.BackgroundMaintenanceBeginsAndEnds : Prop :=
  (∀ (m : Master) (payload : List (BitVec 8)) (s : State), Serves s m → payload.length = 4 → s.pwr.state ≠ 4 →
      (pnum payload 0 3 < 2 ^ 18 → s.mbox.bg = none → s.sec.erase = none → Answers (.recalibrate m payload) s fun t =>
          Replied t m rcBackground (leBytes 4 0) ∧ t.mbox.bg = some (pathHead m, 0xC030, s.tt.fn) ∧ DataKept s t
          ∧ (s.pst.calOpen = false → t.mnt.recalBusy = true ∧ t.mnt.recalMask = pnum payload 0 3
              ∧ t.mnt.recalDies = pnum payload 3 1)
          ∧ (s.pst.calOpen = true → t.mnt.recalResult = 3 ∧ t.mnt.recalBusy = s.mnt.recalBusy))
      ∧ (pnum payload 0 3 < 2 ^ 18 → s.mbox.bg ≠ none ∨ s.sec.erase ≠ none → Answers (.recalibrate m payload) s fun t =>
          Replied t m rcBusy (leBytes 4 3) ∧ t.mnt = { s.mnt with refused := min 0xffffffff (s.mnt.refused + 1) } ∧ DataKept s t)
      ∧ (2 ^ 18 ≤ pnum payload 0 3 → Answers (.recalibrate m payload) s fun t => Replied t m rcInput (leBytes 4 6)
          ∧ t.mnt = s.mnt ∧ DataKept s t))
  ∧ (∀ (offs : List (Nat × Nat × Int)) (ok : Bool) (s : State), s.mnt.recalBusy = true →
      let named := recalDies s.mnt.recalMask s.mnt.recalDies
      let good := named.filter fun k => s.role (k / 8) (k % 8) != 31
      Answers (.recalDone offs ok) s fun t => t.mnt = { s.mnt with
          recalBusy := false, altHigh := false
          recalResult := if ok = false then 3 else if good.length < named.length then 2 else 1 }
        ∧ t.media = s.media ∧ t.cache = s.cache ∧ t.dram = s.dram ∧ (ok = false → t.store = s.store)
        ∧ (ok = true → t.pst.calValid = true ∧ t.pst.calSource = 1
            ∧ (s.memOk → Mem.num t.store 0x100008 4 = (Mem.num s.store 0x100008 4 + 1) % 2 ^ 32)
            ∧ (s.memOk → ∀ k row x, offs = [(k, row, x)] → k ∈ good → row < 16 → s.pst.calValid = true → ∀ j < 8,
                let a := 0x100040 + 128 * k + 8 * row + j
                Mem.read t.store a = BitVec.ofNat 8 (min 255 (Int.ofNat (Mem.read s.store a).toNat + x).toNat))))
  ∧ (∀ (s : State), s.capDue = true → s.mnt.waiting.has 10 = false → s.pwr.testRunning = false →
      Answers .capacitorHealthTest s fun t => t.cache = s.cache ∧ t.media = s.media
        ∧ ((s.pwr.state = 2 ∨ s.pwr.state = 3) → s.blocker 10 = none → t.pwr = { s.pwr with testRunning := true, testDue := false }
            ∧ t.mnt.capStartUs = s.uptimeUs ∧ t.tele = s.tele)
        ∧ (s.pwr.state ≠ 2 ∧ s.pwr.state ≠ 3 → t.pwr = { s.pwr with testDue := true } ∧ t.tele = s.tele)
        ∧ (∀ b, (s.pwr.state = 2 ∨ s.pwr.state = 3) → s.blocker 10 = some b → t.pwr = { s.pwr with testDue := true }
            ∧ t.mnt.waiting.get? 10 = some s.tt.fn ∧ Recorded s t bMnt 342 0x0D02 .info [(1, 10), (1, b)]))
  ∧ (∀ (cm esr : Nat) (timeout : Bool) (s : State), s.pwr.testRunning = true →
      let result := if s.pwr.testDue then 5 else if timeout then 4 else if cm < 1000 then 2 else if 30 < esr then 3 else 1
      let c := if timeout then s.pwr.cm else cm
      Answers (.bankTest cm esr timeout) s fun t => t.pwr = { s.pwr with
          testRunning := false, testResult := result, cm := c, esr := esr, monitorFault := s.pwr.monitorFault && result != 1 }
        ∧ (result = 1 → Recorded s t bPwr 323 0x0F33 .info [(4, c), (4, esr), (1, 1)])
        ∧ (result ≠ 1 → t.tele = ((s.record bPwr 323 0x0F33 .info [(4, c), (4, esr), (1, result)]).record bPwr 323 0x0F34 .error
            [(4, c), (4, esr), (1, result)]).tele) ∧ t.cache = s.cache ∧ t.mnt = s.mnt)
  ∧ (∀ (cells : List Nat) (vres : Nat) (fell : Bool) (s : State),
      let bad : Prop := (∃ c ∈ cells, 2350 < c) ∨ (∃ a ∈ cells, ∃ b ∈ cells, a + 150 < b)
        ∨ fell = true ∧ s.pwr.testRunning = false ∧ s.pwr.flush = none
      (¬ bad → Answers (.bankMonitor cells vres fell) s fun t => t = { s with out := [], pwr := { s.pwr with vres := vres } })
      ∧ (bad → Answers (.bankMonitor cells vres fell) s fun t =>
          t.pwr = { s.pwr with vres := vres, monitorFault := true, testDue := true } ∧ t.cache = s.cache
          ∧ (s.pwr.monitorFault = true → t.tele = s.tele)
          ∧ (s.pwr.monitorFault = false → ∃ items, Recorded s t bPwr 323 0x0F35 .error items)))
  ∧ (∀ (s : State), s.pwr.state = 4 → s.bandsDue 24 ≠ [] → Answers .moorRefreshWake s fun t => t.pwr.state = 2
      ∧ t.mnt.refreshWake = true ∧ t.cache.ways = s.cache.ways ∧ t.cache.landing = s.cache.landing ∧ t.media.cells = s.media.cells ∧ t.dram = s.dram)

/-- Outside a flush, OPEN opens the image window and lifts the protection; CHECK closes it, restores the protection
and starts a check, whose end gives the result of the target copy. The calibration window opens unless a recalibration
runs; at CLOSE the CRC and serial number decide CAL_VALID and CAL_WRITTEN is recorded. A write through the store
window whose enabled bytes all lie in an open window's range stores exactly those bytes; one outside the windows, or
of a size or alignment R42 does not take, stores nothing and is recorded. The oldest staged record goes into the next
slot of the ring, which wraps at its end. OPEN and CHECK without their conditions change nothing. Concludes that exec
answers a next state for: imageWindowOpen, imageCheck, calWindowOpen, imageCheckDone, calWindowClose,
storeWindowWrite, eventRingWrite. -/
def Obligations.StoreWindowsOpenTakeWritesAndClose : Prop :=
  (∀ (s : State), s.pwr.flush = none →
      (s.pst.imgOpen = false → Answers .imageWindowOpen s fun t =>
          t = { s with out := [], pst := { s.pst with imgOpen := true, protect := 0 } })
      ∧ (s.pst.imgOpen = true → Answers .imageWindowOpen s fun t => t = { s with out := [] })
      ∧ (s.pst.imgBusy = false → Answers .imageCheck s fun t => t = { s with
          out := []
          pst := { s.pst with
            imgOpen := false, imgBusy := true, protect := if s.pairCfg || s.pst.calOpen then 1 else 2 } })
      ∧ (s.pst.calOpen = false → s.mnt.recalBusy = false → Answers .calWindowOpen s fun t => t = { s with
          out := []
          pst := { s.pst with calOpen := true, protect := if s.pst.imgOpen then 0 else 1 } })
      ∧ (s.mnt.recalBusy = true → Answers .calWindowOpen s fun t => t = { s with out := [] }))
  ∧ (∀ (s : State) (fl : Flush), s.pwr.flush = some fl → ∀ c ∈ [Instr.imageWindowOpen, .imageCheck, .calWindowOpen],
      Answers c s fun t => t = { s with out := [] })
  ∧ (∀ (sig : Bool) (s : State), s.pst.imgBusy = true → let c := 1 - s.pst.imgInUse
      Answers (.imageCheckDone sig) s fun t => t = { s with
        out := []
        pst := { s.pst with
          imgBusy := false, otherValid := s.imgFails c sig == 0, imgSeqOther := s.imgSeqOf c
          imgResult := if s.imgFails c sig ≠ 0 then s.imgFails c sig + 2
            else if seqNewer (s.imgSeqOf c) s.pst.imgSeq then 1 else 2 } })
  ∧ (∀ (s : State), s.pst.calOpen = true → Answers .calWindowClose s fun t => t.store = s.store ∧ t.pst = { s.pst with
          calOpen := false, calValid := s.calFault == none, protect := if s.pst.imgOpen then 0 else if s.pairCfg then 1 else 2
          calSource := Mem.num s.store 0x100005 1 }
        ∧ Recorded s t bPst 383 0x0e12 .info [(1, Mem.num s.store 0x100005 1), (4, Mem.num s.store 0x100008 4)])
  ∧ (∀ (m : Master) (off size : Nat) (be : BitVec 64) (value : BitVec 512) (s : State), off < 0x8000 → s.bar2There m = true →
      s.live bPst = true →
      let base := 0x8000 * s.regF bPst 0x030 0 6
      let bytes := (List.range (min size 64)).filter fun i => be.getLsbD i
      let right : Prop := size ∈ [4, 8, 16, 32, 64] ∧ off % size = 0
      let u := s.bar2Count m true
      (right → (∀ i ∈ bytes, s.storeOpen (base + off + i) = true) → s.memOk →
        Answers (.storeWindowWrite m off size be value) s fun t =>
          (∀ i ∈ bytes, Mem.read t.store (base + off + i) = value.extractLsb' (8 * i) 8)
          ∧ (∀ a, (∀ i ∈ bytes, a ≠ base + off + i) → Mem.read t.store a = Mem.read s.store a)
          ∧ t.pst = { s.pst with writing := t.pst.writing } ∧ t.cache = s.cache ∧ t.media = s.media)
      ∧ (right → (∃ i ∈ bytes, s.storeOpen (base + off + i) = false) → Answers (.storeWindowWrite m off size be value) s fun t =>
          t.store = s.store ∧ t.pst = s.pst
          ∧ Recorded u t bPst 383 0x0e11 .warning [(1, masterVal m), (4, base + off)])
      ∧ (¬ right → Answers (.storeWindowWrite m off size be value) s fun t => t.store = s.store ∧ t.pst = s.pst
          ∧ Recorded u t bPst 381 0x0203 .warning [(4, regKey bPst (0x8000 + off)), (8, be.toNat % 2 ^ size), (1, masterVal m)]))
  ∧ (∀ (ok : Bool) (r : Record) (rest : List Record) (s : State), s.tele.evq.staged = r :: rest → s.memOk →
      Answers (.eventRingWrite ok) s fun t => t.tele.evq.staged = rest ∧ t.media = s.media ∧ t.cache = s.cache
        ∧ t.pst.next = (if s.pst.next + 1 = 24576 then 0 else s.pst.next + 1)
        ∧ t.pst.ringCount = min 24576 (s.pst.ringCount + 1)
        ∧ (s.pst.next + 1 = 24576 → t.pst.wraps = min 0x1ffff (s.pst.wraps + 1)) ∧ (ok = false → t.store = s.store)
        ∧ (ok = true → Mem.reads t.store (0x020000 + 32 * s.pst.next) 32 = r.bytes
            ∧ ∀ a, a < 0x020000 + 32 * s.pst.next ∨ 0x020020 + 32 * s.pst.next ≤ a → Mem.read t.store a = Mem.read s.store a))

/-- Power-up with both inputs in tolerance and no Off request brings every regulated rail up and starts step 2; a rail
that misses its time leaves the module OFF with one attempt counted, and the third miss in a row leaves it HALTED. A
rail warning is recorded and changes nothing but its rail; main power lost in service starts a flush on the bank, in a
power-up before Memory_Active reverses it, in a flush moves it to the bank. A rail fault in service has the outcome of
R531 (one that takes the power away cuts a store write under way: the bytes clocked in are new, the rest old), in a
flush or power-down that of R530. 12V_MAIN that returns is an On request, and ends HALTED when it had fallen. An Off
request, and a thermal trip, reverse a power-up or start a flush. Both oscillators lost start a flush that halts. A
flush that ends saves the state and the records and reaches OFF or HALTED; on the bank at v_floor it ends at once.
Media contents outlive all of it; DRAM does not. Concludes that exec answers a next state for: powerUp, powerUpRetry,
railWarn, mainPowerLoss, railFault, railInTolerance, pwrReqOff, thermalTrip, tickLost, powerDown, flushAbort. -/
def Obligations.RailsAndFlushesTakeTheModuleUpAndDown : Prop :=
  (∀ s : State, s.mayPowerUp = true →
      let up (t : State) : Prop := t.pwr.state = 1 ∧ t.start.step = 2 ∧ t.start.cause = s.pwr.onCause ∧ t.pwr.attempts = 0
        ∧ (∀ r, r = 2 ∨ 4 ≤ r ∧ r < 17 → (t.pwr.rails.getD r {}).state = 1 ∧ (t.pwr.rails.getD r {}).mv = railNominal r)
        ∧ HostDataKept s t
      let missed (t : State) : Prop := t.pwr.state = (if s.pwr.attempts < 2 then 0 else 7) ∧ t.start.step = 0
        ∧ t.pwr.attempts = s.pwr.attempts + 1
        ∧ t.pwr.first.isSome = true ∧ t.media.cells = s.media.cells ∧ t.store = s.store ∧ t.dram = []
      (s.pwr.attempts = 0 → Answers (.powerUp none) s up ∧ ∀ r mv, Answers (.powerUp (some (r, mv))) s missed)
      ∧ (0 < s.pwr.attempts → Answers (.powerUpRetry none) s up ∧ ∀ r mv, Answers (.powerUpRetry (some (r, mv))) s missed))
  ∧ (∀ (rail mv : Nat) (s : State), rail < 17 → rail ≠ 1 → (s.pwr.rails.getD rail {}).state ≠ 2 →
      Answers (.railWarn rail mv) s fun t => (t.pwr.rails.getD rail {}).state = 2 ∧ (t.pwr.rails.getD rail {}).mv = mv
        ∧ t.pwr.state = s.pwr.state ∧ t.pwr.flush = s.pwr.flush ∧ HostDataKept s t ∧ t.xl = s.xl ∧ t.tt = s.tt
        ∧ Recorded s t bPwr (305 + rail) 0x0F11 .warning [(1, rail), (2, mv)])
  ∧ (∀ (mv : Nat) (s : State), (s.pwr.rails.getD 1 {}).state ≠ 2 →
      let falls (P : State → Prop) : Prop := Answers (.mainPowerLoss mv) s P ∧ Answers (.railWarn 1 mv) s P
      (s.pwr.state ∈ [2, 3, 4] → s.pwr.flush = none → falls fun t => FlushBegun s t 1 s.mediaLost true
          ∧ t.pwr.mainOk = false ∧ t.pwr.first.isSome = true)
      ∧ (s.pwr.state = 1 → s.start.step ≠ 8 → falls fun t => t.pwr.state = 6 ∧ t.pwr.mainOk = false ∧ HostDataKept s t)
      ∧ (s.pwr.state = 1 → s.start.step = 8 → s.pwr.flush = none → falls fun t => FlushBegun s t 5 s.mediaLost true)
      ∧ (s.pwr.state = 5 → s.pwr.flush.isSome = true → s.mediaLost = false → falls fun t => t.pwr.onBank = true
          ∧ t.pwr.flush = s.pwr.flush.map (fun f => { f with onBank := true }) ∧ HostDataKept s t))
  ∧ (∀ (rail mv : Nat) (s : State), rail < 17 →
      (s.pwr.state ∈ [2, 3, 4] → s.pwr.flush = none → Answers (.railFault rail mv) s fun t => t.media.cells = s.media.cells
          ∧ (rail ∉ [1, 2, 4, 5, 6, 7, 8, 9] → t.store = s.store) ∧ (rail ∈ [1, 8, 9] → s.pst.writing = [] → t.store = s.store)
          ∧ (rail = 1 → FlushBegun s t 1 s.mediaLost true)
          ∧ (rail = 8 ∨ rail = 9 → FlushBegun s t 3 true false)
          ∧ (rail ∈ [2, 4, 5, 6, 7] → t.pwr.state = 0 ∧ t.start.step = 0 ∧ t.dram = [] ∧ t.store = s.storeCut.store)
          ∧ (rail ∈ [10, 11, 12] → t.start.disabled = true ∧ (∀ c ∈ s.cache.drams, (t.drc c).failed = true ∧ (t.drc c).state = 7)
              ∧ ∀ r ∈ [10, 11, 12], r ≠ rail → (t.pwr.rails.getD r {}).state = 0)
          ∧ (rail ∈ [13, 14, 15, 16] → t.start.disabled = true ∧ t.pwr.state = s.pwr.state ∧ t.dram = s.dram
              ∧ ∀ r ∈ [13, 14, 15, 16], r ≠ rail → (t.pwr.rails.getD r {}).state = 0)
          ∧ (rail = 0 ∨ rail = 3 → t.pwr.state = s.pwr.state ∧ (rail = 3 → t.pwr.vresFault = true) ∧ HostDataKept s t
              ∧ Recorded s t bPwr (305 + rail) 0x0F12 .error [(1, rail), (2, mv), (1, if rail = 0 then 1 else 2)]))
      ∧ (s.pwr.state = 5 ∨ s.pwr.state = 6 → Answers (.railFault rail mv) s fun t => t.pwr.state = s.pwr.state
          ∧ t.pwr.faultMask = s.pwr.faultMask ||| 2 ^ rail ∧ (∀ r ∈ railDependents rail, (t.pwr.rails.getD r {}).state = 0)
          ∧ Recorded s t bPwr (305 + rail) 0x0F13 .error [(1, rail), (1, railStep rail)] ∧ HostDataKept s t))
  ∧ (∀ (mv : Nat) (s : State),
      (s.pwr.state = 7 → s.pwr.mainFell = true → Answers (.railInTolerance 1 mv) s fun t => t.pwr.state = 0
          ∧ t.pwr.mainFell = false ∧ t.pwr.offReq = false ∧ t.pwr.mainOk = true ∧ t.pwr.attempts = 0)
      ∧ (s.pwr.state ≠ 7 → Answers (.railInTolerance 1 mv) s fun t => t.pwr.state = s.pwr.state ∧ t.pwr.mainOk = true
          ∧ (s.start.pwrdis = false → s.start.prsntHigh = false → t.pwr.offReq = false))
      ∧ (∀ rail, rail < 17 → rail ≠ 1 → Answers (.railInTolerance rail mv) s fun t => (t.pwr.rails.getD rail {}).state = 1
          ∧ (rail = 3 → t.pwr.vresFault = false) ∧ t.pwr.state = s.pwr.state ∧ t.tele = s.tele ∧ HostDataKept s t))
  ∧ (∀ (s : State),
      (s.pwr.state = 1 → Answers .pwrReqOff s fun t => t.pwr = { s.pwr with offReq := true, state := 6 } ∧ HostDataKept s t)
      ∧ (s.pwr.state ∈ [2, 3, 4] → s.pwr.flush = none → Answers .pwrReqOff s fun t => FlushBegun s t 2 s.mediaLost s.pwr.onBank
          ∧ t.pwr.offReq = true)
      ∧ (s.pwr.state = 5 → Answers .pwrReqOff s fun t => t = { s with out := [] })
      ∧ (∀ part ch die temp, (if part = 0 then (90 : Int) else 110) ≤ temp → s.pwr.state ∈ [2, 3, 4] → s.pwr.flush = none →
          Answers (.thermalTrip part ch die temp) s fun t => FlushBegun s t 2 s.mediaLost s.pwr.onBank ∧ t.pwr.offReq = true)
      ∧ (∀ cm cb, cm ≠ .forced → cb ≠ .forced → s.tt.tickLost = false → s.pwr.state ∈ [2, 3, 4] → s.pwr.flush = none →
          Answers (.tickLost cm cb) s fun t => FlushBegun s t 4 true false ∧ t.tt.tickLost = true ∧ t.tt.locked = false))
  ∧ (∀ (f : Flush) (s : State), s.pwr.flush = some f →
      (f.incomplete = false → 6 ≤ f.step → Answers .powerDown s fun t => t.pwr.state = (if f.halt then 7 else 0)
          ∧ t.pwr.flush = none ∧ t.save.isSome = true ∧ t.pwr.saveSlot = 1 - s.pwr.saveSlot
          ∧ t.pwr.pfSeq = (s.pwr.pfSeq + 1) % 2 ^ 32 ∧ t.media.cells = s.media.cells ∧ t.dram = [] ∧ t.start.step = 0)
      ∧ (f.incomplete = true → Answers .powerDown s fun t => t.pwr.state = (if f.halt then 7 else 0) ∧ t.save = s.save
          ∧ t.pwr.pfSeq = (s.pwr.pfSeq + 1) % 2 ^ 32 ∧ t.media.cells = s.media.cells ∧ t.dram = [])
      ∧ (∀ vres, s.pwr.onBank = true → vres ≤ vFloor s.pwr.cm s.pwr.esr → Answers (.flushAbort vres) s fun t => t.pwr.state = (if f.halt then 7 else 0)
          ∧ t.pwr.vres = vres ∧ t.save = s.save ∧ t.pwr.pfSeq = (s.pwr.pfSeq + 1) % 2 ^ 32 ∧ t.media.cells = s.media.cells
          ∧ t.dram = [] ∧ t.pwr.flush = none))
  ∧ (∀ (s : State), s.pwr.flush = none → s.pwr.state = 6 → Answers .powerDown s fun t => t.pwr.state = 0 ∧ t.start.step = 0
      ∧ t.media.cells = s.media.cells ∧ t.store = s.store ∧ t.dram = [])
  ∧ (∀ (w : StoreWrite) (s : State), s.pst.writing = [w] → s.memOk → ∃ k ≤ w.old.length, ∀ a,
      Mem.read s.storeCut.store a
        = if w.addr + k ≤ a ∧ a < w.addr + w.old.length then w.old.getD (a - w.addr) 0 else Mem.read s.store a)

/-- A quiet module in OPEN goes to IDLE. A request for MOORED is refused with its cause while something of R535 runs;
otherwise entry begins, or a follower whose lead is not Moored goes to IDLE and notes the request. TOP_PWR_REQ.OPEN,
and a wake with its cause, take a Moored module to OPEN with DRAM out of self-refresh, and a domain that does not come
up is marked failed and stays off. A slot power limit is stored; one below the class in force writes the highest
allowed class that fits into PWR_CLASS.REQ, or 40 W with SLOT_LIMIT. POWER_CLASS_SET over a serving path writes an
allowed class that fits and answers the FN from which it acts (a free value when it rises from 40 W, log entry 2), and
refuses others with DETAIL 1. A junction at 100 °C steps to the next lower allowed class, and says so. Concludes that
exec answers a next state for: idleEntry, pwrReqMoored, pwrReqOpen, mooredWake, slotPowerLimit, powerClassSet,
thermalStep. -/
def Obligations.PowerStatesClassesAndWakesFollowRequests : Prop :=
  (∀ (s : State), s.pwr.state = 2 → s.regF bPwr 0x01c 0 16 ≠ 0 → s.pwr.lastReqNs + s.regF bPwr 0x01c 0 16 * 1000 ≤ s.ns →
      (∀ c ∈ s.barge, c.2.state ≠ 1) → s.pwr.mooring = false →
      Answers .idleEntry s fun t => t.pwr = { s.pwr with state := 3 } ∧ t.cache = s.cache
        ∧ Recorded s t bPwr 304 0x0F01 .info [(1, 2), (1, 3), (1, 5)])
  ∧ (∀ (s : State), s.pwr.state = 2 ∨ s.pwr.state = 3 →
      (∀ c, s.moorRefusal = some c → Answers .pwrReqMoored s fun t => t.pwr = s.pwr ∧ t.cache = s.cache
          ∧ Recorded s t bPwr 304 0x0F02 .warning [(1, c)])
      ∧ (s.moorRefusal = none → s.joined = false ∨ s.fry.role ≠ .follower ∨ s.fry.peerPower = 2 → Answers .pwrReqMoored s fun t =>
          t = { s with out := [], pwr := { s.pwr with mooring := true } })
      ∧ (s.moorRefusal = none → s.joined = true → s.fry.role = .follower → s.fry.peerPower ≠ 2 → Answers .pwrReqMoored s fun t =>
          t.pwr = { s.pwr with state := 3 } ∧ t.fry = { s.fry with moorAsked := true } ∧ t.cache = s.cache))
  ∧ (∀ (s : State),
      (s.pwr.state = 4 → Answers .pwrReqOpen s (fun t => t.pwr.state = 2 ∧ HostDataKept s t
            ∧ (∀ c < 4, ∀ u < 2, (t.sub c u).selfRefresh = false) ∧ ∀ h < 2, (t.hp h).moor = 0)
          ∧ ∀ cause failed, Answers (.mooredWake cause failed) s fun t => t.pwr.state = 2 ∧ HostDataKept s t
            ∧ (∀ c < 4, ∀ u < 2, (t.sub c u).selfRefresh = false)
            ∧ (∀ h < 2, (t.hp h).moor = 0 ∧ ((s.hp h).moor ≠ 0 → (t.hp h).wakeCause = cause ∧ (t.hp h).rate = (s.hp h).formerRate))
            ∧ (∀ d ∈ failed, d < 96 → s.openDomain d = 2 → d ∈ t.pwr.domFailed ∧ t.pwr.domains.getD d 0 = 0))
      ∧ (s.pwr.state ≠ 4 → Answers .pwrReqOpen s fun t => t = { s with out := [] }))
  ∧ (∀ (watts : Nat) (s : State), let u : State := { s with pwr := { s.pwr with slotLimit := min 255 watts } }
      Answers (.slotPowerLimit watts) s fun t => t.pwr = u.pwr ∧ t.cache = s.cache ∧ t.tt = s.tt
        ∧ (u.classFits s.pwr.cls = true → t.regs = s.regs ∧ t.tele = s.tele)
        ∧ (u.classFits s.pwr.cls = false → s.live bPwr = true →
            (∀ c, u.classBest 3 = some c → t.regF bPwr 0x014 0 2 = c ∧ t.tele = s.tele)
            ∧ (u.classBest 3 = none → t.regF bPwr 0x014 0 2 = 0
                ∧ Recorded s t bPwr 304 0x0F04 .error [(1, min 255 watts), (1, s.pwr.cls)])))
  ∧ (∀ (m : Master) (payload : List (BitVec 8)) (s : State), Serves s m → payload.length = 4 → pnum payload 0 1 < 3 →
      pnum payload 1 3 = 0 → let c := pnum payload 0 1
      (s.classAllowed c = true → s.classFits c = true → Answers (.powerClassSet m payload) s fun t =>
          t.regF bPwr 0x014 0 2 = c ∧ t.pwr = s.pwr ∧ t.cache = s.cache
          ∧ (s.pwr.cls ≠ 0 ∨ c = 0 → Replied t m rcSuccess (leBytes 4 0 ++ leBytes 6 (s.tt.fn + 1)))
          ∧ (s.pwr.cls = 0 → 0 < c → t.draws = s.draws + 1
              ∧ Replied t m rcSuccess (leBytes 4 0 ++ leBytes 6 ((Config.draw s.draws).toNat % 2 ^ 48))))
      ∧ (s.classAllowed c = false ∨ s.classFits c = false → Answers (.powerClassSet m payload) s fun t =>
          Replied t m rcInput (leBytes 4 1) ∧ t.regs = s.regs ∧ t.pwr = s.pwr))
  ∧ (∀ (temp : Int) (s : State), 100 ≤ temp → s.pwr.state ∈ [2, 3, 4] → s.pwr.cls < 4 →
      let new := (s.classBest s.pwr.cls).getD s.pwr.cls
      Answers (.thermalStep temp) s fun t => t.regF bPwr 0x014 0 2 = new ∧ t.pwr = s.pwr ∧ t.cache = s.cache
        ∧ Recorded s t bPwr 304 0x0F05 .warning [(2, signed 2 temp), (1, s.pwr.cls), (1, new)])

/-- In POWER_UP, each command of the start acts only at its own step (log entry 26) and moves on to the next. Step 2:
a failed known-answer test puts SEC into its error state. Step 3: FN starts 2^24 above the highest on record, the
commit page of each head starts there, TT takes the main oscillator when it is sound, and a copy whose records all
apply is in use; with no copy that passes its check the module is unconfigured and CXL.mem disabled. Step 4: the
mailbox is ready, the firmware of the next slot runs, and the self-test results stand. Step 5: with every channel
trained all four are used; with two failed CXL.mem is disabled. Step 6: DRAM reads zero, the placement key is new and
each sampler's seed is not zero. Step 7: CLEAN is what R561 counts, the module is locked when it has a user
passphrase, and the start is counted. Step 8 sets Memory_Active and opens; at step 7 past 50 s the time-out does, with
CXL.mem disabled. Concludes that exec answers a next state for: coldStart, startupTimeout. -/
def Obligations.AColdStartRunsItsStepsInOrder : Prop :=
  (∀ (input : StartIn) (ms : List Nat) (s : State), s.pwr.state ≠ 1 →
      Answers (.coldStart input ms) s fun t => t = { s with out := [] })
  ∧ (∀ (kat : Bool) (ms : List Nat) (s : State), s.pwr.state = 1 → s.start.step = 2 → s.sec.error = false →
      Answers (.coldStart (.rom [] kat) ms) s fun t => t.start.step = 3 ∧ t.sec.error = !kat
        ∧ t.media.cells = s.media.cells ∧ (kat = true → t.tele = s.tele ∧ HostDataKept s t))
  ∧ (∀ (dp : List Bool) (m b sa sb : Bool) (polls : List (Nat × Nat)) (ok : Bool) (ms : List Nat) (s : State),
      s.pwr.state = 1 → s.start.step = 3 →
      (s.imgFails 0 sa ≠ 0 → s.imgFails 1 sb ≠ 0 → Answers (.coldStart (.loader dp m b sa sb polls ok) ms) s fun t =>
          t.start.step = 4 ∧ t.tt.fn = s.highestFn + 2 ^ 24 ∧ t.start.firstFn = s.highestFn + 2 ^ 24
          ∧ t.tt.src = (if m then .main else .backup) ∧ t.pst.ok = ok
          ∧ (∀ h < 2, (t.head h).firstFn = s.highestFn + 2 ^ 24 ∧ (t.head h).mediaFn = s.highestFn + 2 ^ 24 - 1)
          ∧ t.pst.unconfigured = true ∧ t.start.disabled = true)
      ∧ (s.imgFails 0 sa = 0 → seqNewer (s.imgSeqOf 1) (s.imgSeqOf 0) = false →
          Answers (.coldStart (.loader dp m b sa sb polls ok) ms) s fun t => t.start.step = 4
            ∧ ∀ u, State.loadAll 0 polls (imgRecs s.store (imgBase 0)) (s.loaderBegin m b ok) = .ok u →
                t.pst.imgInUse = 0 ∧ t.pst.unconfigured = u.pst.unconfigured ∧ t.start.disabled = u.start.disabled))
  ∧ (∀ (bad : List Nat) (entropy : Bool) (ms : List Nat) (s : State), s.pwr.state = 1 → s.start.step = 4 →
      s.sec.error = false → s.sec.firstFail = 0 → s.healthLoad.fwBad s.healthLoad.mbox.fwNext bad = false →
      Answers (.coldStart (.firmware bad none entropy []) ms) s fun t => t.start.step = 5 ∧ t.start.mboxReady = true
        ∧ t.mbox.fwRunning = s.healthLoad.mbox.fwNext ∧ t.sec.selftestDone = true ∧ t.sec.selftestPass = entropy
        ∧ t.sec.drbgOk = entropy ∧ (entropy = false → t.sec.degraded = true) ∧ t.sec.error = false)
  ∧ (∀ (row e : Nat) (bad : List Nat) (entropy : Bool) (ms : List Nat) (s : State), s.pwr.state = 1 → s.start.step = 4 →
      row ≠ 0 → Answers (.coldStart (.firmware bad (some (row, e)) entropy []) ms) s fun t => t.start.step = 5
        ∧ t.start.mboxReady = true ∧ t.sec.selftestPass = false ∧ t.sec.error = true ∧ t.sec.drbgOk = false)
  ∧ (∀ (ms : List Nat) (windows : List (Nat × Nat × Nat × Nat)) (s : State), s.pwr.state = 1 → s.start.step = 5 →
      ((∀ c < 4, (s.drc c).failed = false) → Answers (.coldStart (.training [] windows) ms) s fun t => t.start.step = 6
          ∧ t.cache.drams = [0, 1, 2, 3] ∧ t.cache.uncachedDrams = []
          ∧ (∀ c < 4, (t.drc c).state = 2 ∧ (t.drc c).speed = if s.tt.cls = 0 then 1 else 0) ∧ t.start.disabled = s.start.disabled)
      ∧ (∀ c d u v, c < 4 → d < 4 → c ≠ d → Answers (.coldStart (.training [(c, u), (d, v)] windows) ms) s fun t =>
          t.start.step = 6 ∧ t.start.disabled = true ∧ (t.drc c).failed = true ∧ (t.drc d).failed = true
          ∧ (t.brg c).out = true))
  ∧ (∀ (ms : List Nat) (s : State), s.pwr.state = 1 → s.start.step = 6 → Answers (.coldStart .keys ms) s fun t =>
      t.start.step = 7 ∧ t.dram = [] ∧ t.cache.keyEpoch = s.cache.keyEpoch + 1 ∧ (∀ h < 2, (t.head h).lfsr ≠ 0)
      ∧ (∀ c < 4, (s.drc c).failed = false → (t.drc c).state = 3) ∧ t.media.cells = s.media.cells)
  ∧ (∀ (phy unwrap : List Nat) (save : Option Nat) (torn tags off : List (Nat × Nat)) (ms : List Nat) (s : State),
      s.pwr.state = 1 → s.start.step = 7 → Answers (.coldStart (.media phy unwrap save torn tags off) ms) s fun t =>
        t.start.step = 8 ∧ t.start.clean = s.cleanDown ∧ t.sec.pass.locked = s.sec.pass.user.isSome
        ∧ t.start.coldStarts = min 0xffffffff (s.start.coldStarts + 1) ∧ t.nv = {} ∧ t.start.memActive = s.start.memActive)
  ∧ (∀ (ms : List Nat) (s : State), s.pwr.state = 1 → s.start.step = 8 → s.start.memActive = false →
      Answers (.coldStart .enable ms) s fun t => t.start.memActive = true ∧ t.pwr.state = 2
        ∧ t.start.durationMs = ms.foldl (· + ·) 0 ∧ HostDataKept s t ∧ t.start.disabled = s.start.disabled)
  ∧ (∀ (ms : Nat) (s : State), s.pwr.state = 1 → s.start.step = 7 → 50000 ≤ ms → Answers (.startupTimeout ms) s fun t =>
      t.start = { s.start with step := 8, memActive := true, disabled := true, durationMs := ms } ∧ t.pwr.state = 2
      ∧ HostDataKept s t
      ∧ t.tele = ((s.record bTop 380 0x1002 .fatal [(1, 7), (4, ms)]).record bPwr 304 0x0F01 .info [(1, 1), (1, 2), (1, 0)]).tele)

/-- A cold reset in OPEN, IDLE or MOORED starts a flush, in POWER_UP reverses it, and is followed by an On request
whose cause is 2. PERST# of a head in use, after step 3 and outside MOORED, puts the head into reset: its decoders,
link state, SPDM connections and IDE streams go, what it had not admitted is discarded and counted in WARM_RESET, its
logs keep their records and lose their interrupt policy, and the other head, the mailbox, the pair and all host data
stay; deasserted, it leaves reset. A function-level reset takes the DOE end and the answer a head's mailbox still
owes, and keeps link, decoders, IDE and SPDM; a CXL reset takes decoders and CXL.cachemem IDE and keeps the rest. A
soft reset of CEN or BRG gives the block's registers their reset values, those of the image where it set them, and
empties its state, the census going on in that frame (log entry 119); once Memory_Active is 1, one of any other block
is refused and recorded, changing nothing; before, it also clears what R44 lets a block reset clear: queues, counts
and results. Concludes that exec answers a next state for: coldReset, perstAssert, perstDeassert, flr, cxlReset,
softReset. -/
def Obligations.ResetsReachWhatTheyName : Prop :=
  (∀ (s : State),
      (s.pwr.state ∈ [2, 3, 4] → s.pwr.flush = none → Answers .coldReset s fun t => FlushBegun s t 2 s.mediaLost s.pwr.onBank
          ∧ t.pwr.offReq = false ∧ t.pwr.onCause = 2)
      ∧ (s.pwr.state = 1 → Answers .coldReset s fun t => t.pwr = { s.pwr with state := 6, offReq := false, onCause := 2 }
          ∧ HostDataKept s t ∧ Recorded s t bPwr 304 0x0F01 .info [(1, 1), (1, 6), (1, 1)])
      ∧ (s.pwr.state ∉ [1, 2, 3, 4] → Answers .coldReset s fun t =>
          t = { s with out := [], pwr := { s.pwr with offReq := false, onCause := 2 } }))
  ∧ (∀ (h : Fin 2) (s : State), s.headUsed h.val = true → 4 ≤ s.start.step → s.pwr.state ≠ 4 →
      Answers (.perstAssert h) s fun t => h.val ∈ t.start.perst ∧ (t.hp h.val).inReset = true ∧ (t.hp h.val).hdms = []
        ∧ (t.hp h.val).held = [] ∧ (t.hp h.val).rate = 0 ∧ (t.hp h.val).moor = 0 ∧ (t.hp h.val).doeBusy = false
        ∧ (∀ l, ((t.hp h.val).logs.getD l {}).msix = false ∧ ((t.hp h.val).logs.getD l {}).entries = ((s.hp h.val).logs.getD l {}).entries)
        ∧ (∀ q ∈ t.cache.waiting, q.head ≠ some h.val)
        ∧ (∀ x ∈ t.sec.sessions, x.path ≠ h.val) ∧ t.sec.conns = s.sec.conns.erase h.val ∧ (∀ p ∈ t.sec.ide, p.1 / 8 ≠ h.val)
        ∧ (∀ k, k ≠ h.val → t.hp k = s.hp k ∧ t.head k = s.head k) ∧ (t.head h.val).mediaFn = (s.head h.val).mediaFn
        ∧ t.mbox = s.mbox ∧ t.xl = s.xl ∧ t.pwr = s.pwr ∧ t.sec.slots = s.sec.slots ∧ t.fry.role = s.fry.role ∧ HostDataKept s t
        ∧ Recorded s t bTop 380 0x1005 .info [(1, h.val), (1, 0),
            (4, (s.cache.waiting.countP fun r => r.head == some h.val) + (s.hp h.val).held.length)])
  ∧ (∀ (h : Fin 2) (s : State), s.start.step < 4 ∨ s.headUsed h.val = false →
      (Answers (.perstAssert h) s fun t => h.val ∈ t.start.perst ∧ t.hps = s.hps ∧ t.cache = s.cache ∧ t.sec = s.sec
        ∧ t.tele = s.tele ∧ t.pwr = s.pwr)
      ∧ Answers (.perstDeassert h) s fun t => h.val ∉ t.start.perst ∧ t.hps = s.hps ∧ t.cache = s.cache ∧ t.tele = s.tele)
  ∧ (∀ (h : Fin 2) (s : State), s.headUsed h.val = true → 4 ≤ s.start.step → Answers (.perstDeassert h) s fun t =>
      h.val ∉ t.start.perst ∧ t.hp h.val = { s.hp h.val with inReset := false } ∧ (∀ k, k ≠ h.val → t.hp k = s.hp k)
      ∧ DataKept s t ∧ ControlKept s t ∧ t.tele = s.tele)
  ∧ (∀ (h : Fin 2) (s : State), s.headUsed h.val = true → (s.hp h.val).inReset = false →
      (Answers (.flr h) s fun t => t.hp h.val = { s.hp h.val with doeBusy := false } ∧ (∀ k, k ≠ h.val → t.hp k = s.hp k)
        ∧ t.sec = s.sec ∧ (∀ o, t.mbox.owed = some o → s.mbox.owed = some o ∧ o.1 ≠ mboxOf h.val) ∧ t.mbox.bg = s.mbox.bg
        ∧ t.cache = s.cache ∧ t.media = s.media ∧ t.dram = s.dram
        ∧ Recorded s t bTop 380 0x1005 .info [(1, h.val), (1, 1), (4, 0)])
      ∧ Answers (.cxlReset h) s fun t => (t.hp h.val).hdms = [] ∧ (t.hp h.val).held = []
        ∧ (t.hp h.val).inReset = false ∧ (t.hp h.val).rate = (s.hp h.val).rate ∧ (∀ k, k ≠ h.val → t.hp k = s.hp k)
        ∧ (∀ q ∈ t.cache.waiting, q.head ≠ some h.val)
        ∧ t.sec = { s.sec with ide := s.sec.ide.filter fun p => !(p.1 / 8 == h.val && p.1 / 2 % 4 == 0) }
        ∧ t.mbox = s.mbox ∧ HostDataKept s t ∧ t.pwr = s.pwr ∧ t.xl = s.xl
        ∧ Recorded s t bTop 380 0x1005 .info [(1, h.val), (1, 2),
            (4, (s.cache.waiting.countP fun r => r.head == some h.val) + (s.hp h.val).held.length)])
  ∧ (∀ (h : Fin 2) (s : State) (c : Instr), c = .flr h ∨ c = .cxlReset h →
      s.headUsed h.val = false ∨ (s.hp h.val).inReset = true → Answers c s fun t => t = { s with out := [] })
  ∧ (∀ (m : Master) (page b : Nat) (s : State), blkAt page = some b → b = bCen ∨ b = bBrg →
      Answers (.softReset m page) s fun t =>
        (∀ off < 0x10000, t.actW b off = s.resetW b off ∧ t.shdW b off = s.resetW b off)
        ∧ (∀ k off, k < 54 → k ≠ b → off < 0x10000 → t.actW k off = s.actW k off ∧ t.shdW k off = s.shdW k off)
        ∧ (b = bCen → t.cen = { running := t.regF bCen 0x010 0 1 == 1, k := t.censusK, startFn := s.tt.fn } ∧ t.barge = s.barge ∧ t.fry = s.fry)
        ∧ (b = bBrg → (∀ c, t.brg c = { out := (s.brg c).out }) ∧ t.fry.bargeAt = [] ∧ t.cen = s.cen)
        ∧ t.sec = s.sec ∧ t.xl = s.xl ∧ t.pwr = s.pwr ∧ t.tt = s.tt ∧ t.tele.evq = s.tele.evq ∧ HostDataKept s t)
  ∧ (∀ (m : Master) (page : Nat) (s : State), s.start.memActive = true → blkAt page ≠ some bCen → blkAt page ≠ some bBrg →
      Answers (.softReset m page) s fun t => t.regs = s.regs ∧ t.cen = s.cen ∧ t.barge = s.barge ∧ DataKept s t ∧ ControlKept s t
        ∧ t.start = s.start ∧ Recorded s t bTop 380 0x1006 .warning [(2, page), (1, masterVal m)])
  ∧ (∀ (m : Master) (page b : Nat) (s : State), s.start.memActive = false → blkAt page = some b → b ≠ bCen → b ≠ bBrg →
      Answers (.softReset m page) s fun t =>
        (∀ off < 0x10000, t.actW b off = s.resetW b off ∧ t.shdW b off = s.resetW b off)
        ∧ (b ≠ bEvq → t.tele.evq = s.tele.evq) ∧ (b = bEvq → t.getQ .records = {})
        ∧ (b ≠ bSec → b ≠ bCry → t.sec = s.sec) ∧ (b = bSec → t.getQ .secRequest = {} ∧ t.getQ .secResponse = {})
        ∧ (b = bCry → t.sec = { s.sec with macFail := 0 }) ∧ (b ≠ bXl → t.xl = s.xl) ∧ (b ≠ bFry → t.fry = s.fry)
        ∧ (b = bFry → t.fry = { s.fry with replays := 0, retrains := 0, refused := 0 }) ∧ (b ≠ bTt → t.tt = s.tt)
        ∧ (b = bTt → t.tt = { s.tt with fnLatch := 0, miss0 := 0, miss1 := 0, miss2 := 0, miss3 := 0 })
        ∧ (∀ c < 18, b = bMch c → (t.mch c).corr = 0 ∧ (t.mch c).alt = 0 ∧ (t.mch c).recon = 0 ∧ (t.mch c).uncorr = 0
            ∧ (t.mch c).wfail = 0 ∧ (t.mch c).roles = (s.mch c).roles)
        ∧ t.pwr = s.pwr ∧ HostDataKept s t)

/-- PWRDIS asserted is an Off request: a flush in OPEN, IDLE or MOORED, a power-up reversed, nothing in a flush;
deasserted it is an On request. PRSNT# going high in service is a loss of main power and starts a flush on the bank,
before power-up it only stands; when it is already high nothing happens; going low after it was high, with PWRDIS low,
is an On request. CLKREQ# read high from step 3 on is recorded once and has no other effect (inputs numbered in R571's
order: the model's choice, log entry 49). FERRY_PRES# sets presence and never splits the pair. SMBCLK held low resets
the MCTP interface and records MCTP_ERROR. Concludes that exec answers a next state for: pwrdisAssert, pwrdisDeassert,
prsntHigh, prsntLow, inputFault, ferryPresChange, smbclkLowTimeout. -/
def Obligations.ExternalInputsActOnceQualified : Prop :=
  (∀ (s : State),
      (s.pwr.state = 1 → Answers .pwrdisAssert s fun t => t.start = { s.start with pwrdis := true }
          ∧ t.pwr = { s.pwr with offReq := true, state := 6 } ∧ HostDataKept s t)
      ∧ (s.pwr.state ∈ [2, 3, 4] → s.pwr.flush = none → Answers .pwrdisAssert s fun t =>
          FlushBegun s t 2 s.mediaLost s.pwr.onBank ∧ t.pwr.offReq = true ∧ t.start.pwrdis = true)
      ∧ (s.pwr.state = 5 → Answers .pwrdisAssert s fun t => t = { s with out := [], start := { s.start with pwrdis := true } })
      ∧ (s.pwr.state ∈ [0, 6, 7] → Answers .pwrdisAssert s fun t =>
          t = { s with out := [], start := { s.start with pwrdis := true }, pwr := { s.pwr with offReq := true } })
      ∧ (Answers .pwrdisDeassert s fun t => t =
          { s with out := [], start := { s.start with pwrdis := false }, pwr := { s.pwr with offReq := false, onCause := 1 } }))
  ∧ (∀ (s : State), s.start.prsntHigh = false →
      (s.pwr.state ∈ [2, 3, 4] → s.pwr.flush = none → Answers .prsntHigh s fun t =>
          FlushBegun s t 1 s.mediaLost true ∧ t.start.prsntHigh = true)
      ∧ (s.pwr.state ∈ [0, 6, 7] → Answers .prsntHigh s fun t => t.start.prsntHigh = true ∧ t.pwr.state = s.pwr.state
          ∧ t.pwr.flush = s.pwr.flush ∧ HostDataKept s t ∧ t.tele = s.tele)
      ∧ Answers .prsntLow s fun t => t = { s with out := [] })
  ∧ (∀ (s : State), s.start.prsntHigh = true →
      (Answers .prsntHigh s fun t => t = { s with out := [] })
      ∧ (s.start.pwrdis = false → Answers .prsntLow s fun t =>
          t = { s with out := [], start := { s.start with prsntHigh := false }, pwr := { s.pwr with offReq := false, onCause := 4 } })
      ∧ (s.start.pwrdis = true → Answers .prsntLow s fun t =>
          t = { s with out := [], start := { s.start with prsntHigh := false } }))
  ∧ (∀ (s : State),
      (3 ≤ s.start.step → s.start.clkreqFault = false → Answers .inputFault s fun t =>
          t.start = { s.start with clkreqFault := true } ∧ DataKept s t ∧ ControlKept s t ∧ t.regs = s.regs ∧ t.mbox = s.mbox
          ∧ Recorded s t bTop 380 0x1008 .warning [(1, 5), (1, 1)])
      ∧ (s.start.step < 3 ∨ s.start.clkreqFault = true → Answers .inputFault s fun t => t = { s with out := [] }))
  ∧ (∀ (present : Bool) (s : State), Answers (.ferryPresChange present) s fun t => t.start = { s.start with ferryPres := present }
      ∧ t.fry = { s.fry with downRecorded := s.fry.downRecorded && present } ∧ t.tele = s.tele ∧ DataKept s t ∧ t.pwr = s.pwr)
  ∧ (∀ (s : State), Answers .smbclkLowTimeout s fun t => t.mbox = { s.mbox with mctpBusy := false } ∧ DataKept s t ∧ ControlKept s t
      ∧ t.regs = s.regs ∧ Recorded s t bMgt 255 0x0C71 .warning [(1, 2)])

/-- With TT powered a frame tick makes FN its next value (one more, or the FN that a join's step gives), starts the
frame at cycle 0, and adds 4,096 ns to the uptime; V_res and the backlog become what was measured. A hold-up flush's
first tick puts map 3 in force, and it stays forced; with no strobe of group 1, no Sanitize and nothing forced the map
stays. A request to return goes back to a sound XO_MAIN, a forced switch to a sound XO_BACKUP; both requests end. A
die number of a live channel at 83 degrees or more is excluded, outside a flush. MEDIA_DURABLE_FN of a head never
falls, never reaches the FN that begins unless it already had, and stands still in SEC's error state. The steps of a
flush go from 1 to 3, and from 3 to 4 when no resignation is owed. Unpowered, TT does nothing. Concludes that exec
answers a next state for: frameTick. -/
def Obligations.TheFrameTickAdvancesFnAndAppliesWhatWaits : Prop :=
  (∀ (temps : List (Nat × Nat × Int)) (vres : Nat) (j : Bool) (backlog busiest : Nat) (s : State), s.live bTt = true →
      Answers (.frameTick temps vres j backlog busiest) s fun t =>
        t.tt.fn = s.nextFn ∧ s.tt.fn < t.tt.fn ∧ t.tt.cyc = 0 ∧ t.pwr.uptimeNs = s.pwr.uptimeNs + 4096 ∧ t.pwr.vres = vres
        ∧ t.mnt.backlog = backlog ∧ t.pwr.state = s.pwr.state ∧ t.tt.overrunNow = false
        ∧ (s.fry.joinFn = none → t.tt.fn = s.tt.fn + 1)
        ∧ (s.tt.flushMapDue = true → t.tt.map = 3 ∧ t.tt.forced = true ∧ t.tt.flushMapDue = false)
        ∧ (s.tt.flushMapDue = false → s.tt.forced = true → t.tt.map = s.tt.map ∧ t.tt.forced = true)
        ∧ (s.tt.flushMapDue = false → s.tt.kept = none → s.sec.erase ≠ some 0 → s.regs.pendingGroups.getLsbD 1 = false →
            t.tt.map = s.tt.map)
        ∧ (s.tt.returnReq = true → s.tt.src = .backup → s.tt.mainOk = true → t.tt.src = .main)
        ∧ (s.tt.returnReq = false → s.tt.forceReq = true → s.tt.src = .main → s.tt.backupOk = true → t.tt.src = .backup)
        ∧ t.tt.returnReq = false ∧ t.tt.forceReq = false
        ∧ (∀ c d v, temps = [(c, d, v)] → c < 18 → d < 8 → 83 ≤ v → s.pwr.flush = none → s.live (bMch c) = true →
            (s.mch c).failed = false → t.tt.excluded.getLsbD d = true)
        ∧ (∀ h < 2, (s.head h).mediaFn ≤ (t.head h).mediaFn ∧ (t.head h).mediaFn ≤ max (s.head h).mediaFn (s.nextFn - 1)
            ∧ (s.sec.error = true → (t.head h).mediaFn = (s.head h).mediaFn))
        ∧ (∀ f, s.pwr.flush = some f → (f.step = 1 → ∃ g, t.pwr.flush = some g ∧ g = { f with step := 3 })
            ∧ (f.step = 3 → s.fry.resign = none → ∃ g, t.pwr.flush = some g ∧ g = { f with step := 4 })))
  ∧ (∀ (temps : List (Nat × Nat × Int)) (vres : Nat) (j : Bool) (backlog busiest : Nat) (s : State), s.live bTt = false →
      Answers (.frameTick temps vres j backlog busiest) s fun t => t = { s with out := [] })

/-- Over a path that the service takes: Identify Memory Device gives 98,305 units of total and persistent capacity, no
volatile capacity, the sizes of the four event logs, a poison list of 32,768 records and 64 injected ones; Get
Partition Info gives volatile 0 and persistent all; three logs are supported; Get Log gives the named bytes of a log,
Invalid Log for another log, Invalid Input for too many bytes; Get Health Info gives media status, life used, the
dirty shutdown count and both error counts; Get Alert Config gives the thresholds in force and the fixed critical
ones; Get Timestamp, Get Shutdown State, Get Event Interrupt Policy, Get Event Records and Get FW Info give what is
held. None of them changes data, tables, registers, event logs or the mailbox settings. Before Mailbox Interface
Ready, in a flush, or on a head not in use nothing answers; while pair A restarts the answer is Retry Required; in the
unconfigured state reports not listed in R507 answer Unsupported. Payload layouts are the model's (log entry 21).
Concludes that exec answers a next state for: identify, identifyMemoryDevice, getPartitionInfo, getSupportedLogs,
getLog, getTimestamp, getHealthInfo, getAlertConfig, getShutdownState, getEventInterruptPolicy, getEventRecords,
getFwInfo. -/
def Obligations.MailboxReportsAnswerAndChangeNothing : Prop :=
  (∀ (m : Master) (s : State), Serves s m →
      let told (P : List (BitVec 8) → Prop) (t : State) : Prop := (∃ p, Replied t m rcSuccess p ∧ P p)
        ∧ DataKept s t ∧ ControlKept s t ∧ t.hps = s.hps ∧ t.integ = s.integ ∧ t.regs = s.regs ∧ t.start = s.start
        ∧ t.mbox = { s.mbox with mctpBusy := s.mbox.mctpBusy && m != .mctp }
      Answers (.identify m) s (told fun p => pnum p 0 8 = Config.pciIds.toNat ∧ pnum p 8 8 = Config.serial.toNat)
      ∧ Answers (.identifyMemoryDevice m) s (told fun p => pnum p 16 8 = 98305 ∧ pnum p 24 8 = 0 ∧ pnum p 32 8 = 98305 ∧ pnum p 40 8 = 0
          ∧ pnum p 48 2 = 1024 ∧ pnum p 50 2 = 1024 ∧ pnum p 52 2 = 512 ∧ pnum p 54 2 = 128 ∧ pnum p 56 4 = 0 ∧ pnum p 60 3 = 32768
          ∧ pnum p 63 2 = 64)
      ∧ Answers (.getPartitionInfo m) s (told fun p => pnum p 0 8 = 0 ∧ pnum p 8 8 = 98305)
      ∧ Answers (.getSupportedLogs m) s (told fun p => pnum p 0 2 = 3)
      ∧ (∀ log off len, log < 3 → len ≤ 65536 → Answers (.getLog m log off len) s (told fun p => p = ((s.logBytes log).drop off).take len))
      ∧ (∀ log off len, 3 ≤ log → Answers (.getLog m log off len) s fun t => Replied t m rcLog [] ∧ t.mbox.bg = s.mbox.bg)
      ∧ (∀ log off len, log < 3 → 65536 < len → Answers (.getLog m log off len) s fun t => Replied t m rcInput [])
      ∧ Answers (.getTimestamp m) s (told fun p => pnum p 0 8 = s.stamp % 2 ^ 64)
      ∧ Answers (.getHealthInfo m) s (told fun p => pnum p 1 1 = s.mediaStatus ∧ pnum p 3 1 = s.moduleLife % 256
          ∧ pnum p 6 4 = s.mbox.dirtyCount % 2 ^ 32 ∧ pnum p 10 4 = s.volatileErrors % 2 ^ 32
          ∧ pnum p 14 4 = s.persistentErrors % 2 ^ 32)
      ∧ Answers (.getAlertConfig m) s (told fun p => pnum p 0 1 = s.mbox.alerts.enable.toNat ∧ pnum p 2 1 = 100
          ∧ pnum p 3 1 = s.mbox.alerts.life % 256 ∧ pnum p 4 2 = 85 ∧ pnum p 6 2 = 0
          ∧ pnum p 12 4 = s.mbox.alerts.volatileErr % 2 ^ 32 ∧ pnum p 16 4 = s.mbox.alerts.persistent % 2 ^ 32)
      ∧ Answers (.getShutdownState m) s (told fun p => pnum p 0 1 = s.mbox.shutdown.toNat)
      ∧ Answers (.getEventInterruptPolicy m) s (told fun p => ∀ l < 4, (pnum p l 1 % 16 = 1 ↔ ((s.hp (pathHead m)).logs.getD l {}).msix = true))
      ∧ (∀ log < 4, let l := (s.hp (pathHead m)).logs.getD log {}
          Answers (.getEventRecords m log) s (told fun p => pnum p 0 1 % 2 = b2n l.ovf ∧ pnum p 2 2 = l.dropped % 65536
            ∧ pnum p 20 2 = min 511 l.entries.length ∧ p.drop 32 = (l.entries.take 511).flatMap LogEntry.wire))
      ∧ Answers (.getFwInfo m) s (told fun p => pnum p 0 1 = 2 ∧ pnum p 1 1 % 8 = (s.mbox.fwRunning + 1) % 8
          ∧ pnum p 16 4 = s.fwHeader 0 4 4 ∧ pnum p 32 4 = s.fwHeader 1 4 4))
  ∧ (∀ (m : Master) (s : State) (c : Instr), c ∈ [.getPartitionInfo m, .getSupportedLogs m, .getTimestamp m, .getHealthInfo m] →
      isPath m = true →
      (s.start.mboxReady = false ∨ s.pwr.flush.isSome = true ∨ (m = .mboxHp1 ∧ s.dual = false) →
        Answers c s fun t => t = { s with out := [] })
      ∧ (s.start.mboxReady = true → s.pwr.flush = none → (m = .mboxHp1 → s.dual = true) →
        (s.integ.romA = true → Answers c s fun t => Replied t m rcRetry [] ∧ DataKept s t ∧ ControlKept s t)
        ∧ (s.integ.romA = false → s.pst.unconfigured = true → Answers c s fun t => ∃ p, DataKept s t ∧ ControlKept s t
            ∧ Replied t m (if c = .getHealthInfo m then rcSuccess else rcUnsupported) p)))

/-- Set Timestamp starts the count at its value modulo 2^64. Set Alert Config changes the alerts that its valid mask
names, and no others. Set Shutdown State holds the value; a change of it writes the health record, the same value does
not. Set Event Interrupt Policy takes no interrupts or MSI-X for each log, and answers Invalid Input for any other
value. Clear Event Records drops every record of the log, or the named ones, and resets its overflow flag; a handle
not held is Invalid Handle, and nothing goes. Activate FW sets FW_NEXT offline; online it is Unsupported. Transfer FW
of a whole image, or of the first or next part in order, starts a background command and writes the bytes into the
slot that does not run; for the running slot it is Invalid Slot; a part out of order, or a first part during a
transfer, is refused; the data is kept in each refusal. When the work is over, BG_CMD_DONE ends the background command
with vector 0 on its head, with Invalid Input when a transferred image fails its check. Concludes that exec answers a
next state for: setTimestamp, setAlertConfig, setShutdownState, setEventInterruptPolicy, clearEventRecords,
activateFw, transferFw, bgCmdDone. -/
def Obligations.MailboxSettingsTakeEffectAndLast : Prop :=
  (∀ (m : Master) (s : State), Serves s m →
      (∀ ns, Answers (.setTimestamp m ns) s fun t => t.stamp = ns % 2 ^ 64 ∧ Replied t m rcSuccess [] ∧ DataKept s t ∧ ControlKept s t
          ∧ t.hps = s.hps)
      ∧ (∀ (valid enable : BitVec 5) (life : Nat) (overTemp underTemp : Int) (ve pe : Nat),
          Answers (.setAlertConfig m valid enable life overTemp underTemp ve pe) s fun t => Replied t m rcSuccess []
            ∧ (∀ i < 5, t.mbox.alerts.enable.getLsbD i = if valid.getLsbD i then enable.getLsbD i else s.mbox.alerts.enable.getLsbD i)
            ∧ t.mbox.alerts.life = (if valid.getLsbD 0 then life else s.mbox.alerts.life)
            ∧ t.mbox.alerts.overTemp = (if valid.getLsbD 1 then overTemp else s.mbox.alerts.overTemp)
            ∧ t.mbox.alerts.underTemp = (if valid.getLsbD 2 then underTemp else s.mbox.alerts.underTemp)
            ∧ t.mbox.alerts.volatileErr = (if valid.getLsbD 3 then ve else s.mbox.alerts.volatileErr)
            ∧ t.mbox.alerts.persistent = (if valid.getLsbD 4 then pe else s.mbox.alerts.persistent)
            ∧ t.mbox.alerts.levels = s.mbox.alerts.levels ∧ DataKept s t ∧ ControlKept s t)
      ∧ (∀ dirty, Answers (.setShutdownState m dirty) s fun t => t.mbox.shutdown = BitVec.ofNat 8 (b2n dirty)
          ∧ Replied t m rcSuccess [] ∧ HostDataKept s t ∧ ControlKept s t
          ∧ (s.mbox.shutdown = BitVec.ofNat 8 (b2n dirty) → t.store = s.store ∧ t.mbox.healthSeq = s.mbox.healthSeq)
          ∧ (s.mbox.shutdown ≠ BitVec.ofNat 8 (b2n dirty) → t.mbox.healthSeq = (s.mbox.healthSeq + 1) % 2 ^ 32))
      ∧ (∀ policy : List Nat, policy.length = 4 →
          ((∀ p ∈ policy, p < 2) → Answers (.setEventInterruptPolicy m policy) s fun t => Replied t m rcSuccess []
            ∧ ∀ l < 4, (t.hp (pathHead m)).logs.getD l {} = { (s.hp (pathHead m)).logs.getD l {} with msix := policy.getD l 0 == 1 })
          ∧ ((∃ p ∈ policy, 2 ≤ p) → Answers (.setEventInterruptPolicy m policy) s fun t => Replied t m rcInput [] ∧ t.hps = s.hps))
      ∧ (∀ (log : Nat) (all : Bool) (handles : List Nat), log < 4 → let l := (s.hp (pathHead m)).logs.getD log {}
          ((all = true ∨ ∀ x ∈ handles, ∃ e ∈ l.entries, e.handle = x) → Answers (.clearEventRecords m log all handles) s fun t =>
            let k := (t.hp (pathHead m)).logs.getD log {}
            Replied t m rcSuccess [] ∧ k.ovf = false ∧ k.msix = l.msix
            ∧ (∀ e, e ∈ k.entries ↔ e ∈ l.entries ∧ all = false ∧ e.handle ∉ handles) ∧ DataKept s t ∧ ControlKept s t)
          ∧ (all = false → (∃ x ∈ handles, ∀ e ∈ l.entries, e.handle ≠ x) → Answers (.clearEventRecords m log all handles) s fun t =>
            Replied t m rcHandle [] ∧ t.hps = s.hps))
      ∧ (∀ slot, (slot = 1 ∨ slot = 2 → Answers (.activateFw m 1 slot) s fun t => t.mbox.fwNext = slot - 1
            ∧ t.mbox.fwRunning = s.mbox.fwRunning ∧ Replied t m rcSuccess [] ∧ t.fwStore = s.fwStore ∧ HostDataKept s t)
          ∧ Answers (.activateFw m 0 slot) s fun t => Replied t m rcUnsupported [] ∧ t.mbox.fwNext = s.mbox.fwNext)
      ∧ (∀ (slot : Nat) (data : List (BitVec 8)), slot ≠ s.mbox.fwRunning + 1 → slot = 1 ∨ slot = 2 → data.length ≤ 0x2000000 →
          s.mbox.fwTransfer = none → s.mbox.bg = none → Answers (.transferFw m 0 slot 0 data) s fun t =>
            Replied t m rcBackground [] ∧ t.mbox.bg = some (pathHead m, 0x0201, s.tt.fn) ∧ t.mbox.fwCheck = true
            ∧ t.fwStore = Mem.writes s.fwStore (0x2000000 * (1 - s.mbox.fwRunning)) data ∧ HostDataKept s t ∧ t.store = s.store)
      ∧ (∀ (off : Nat) (data : List (BitVec 8)), 128 * off + data.length ≤ 0x2000000 →
          (s.mbox.fwTransfer = some (128 * off) → s.mbox.bg = none → Answers (.transferFw m 2 0 off data) s fun t =>
            Replied t m rcBackground [] ∧ t.mbox.fwTransfer = some (128 * off + data.length)
            ∧ t.fwStore = Mem.writes s.fwStore (0x2000000 * (1 - s.mbox.fwRunning) + 128 * off) data)
          ∧ (s.mbox.fwTransfer ≠ some (128 * off) → Answers (.transferFw m 2 0 off data) s fun t =>
            Replied t m rcFwOrder [] ∧ t.fwStore = s.fwStore ∧ t.mbox.bg = s.mbox.bg))
      ∧ (∀ data : List (BitVec 8), data.length ≤ 0x2000000 →
          (Answers (.transferFw m 0 (s.mbox.fwRunning + 1) 0 data) s fun t => Replied t m rcSlot [] ∧ t.fwStore = s.fwStore)
          ∧ (s.mbox.fwTransfer.isSome = true → Answers (.transferFw m 1 1 0 data) s fun t =>
            Replied t m rcFwBusy [] ∧ t.fwStore = s.fwStore)))
  ∧ (∀ (ok : Bool) (h op fn : Nat) (s : State), s.mbox.bg = some (h, op, fn) → s.bgOver op = true → Answers (.bgCmdDone ok) s fun t =>
      t.mbox.bg = none ∧ t.out = [.msix h 0] ∧ HostDataKept s t ∧ t.fwStore = s.fwStore
      ∧ (op = 0x0201 → s.mbox.fwCheck = true → Recorded s t (bHp h) (248 + 12 * h + 4) 0x0c41 .info
          [(2, op), (2, if ok then rcSuccess else rcInput), (4, (s.tt.fn - fn) * 4096 / 1000000)]))
  ∧ (∀ (ok : Bool) (s : State), (∀ h op fn, s.mbox.bg = some (h, op, fn) → s.bgOver op = false) →
      Answers (.bgCmdDone ok) s fun t => t = { s with out := [] })

/-- Get Poison List of a range of user memory gives the number of records that touch it, at most 4,094 in a reply,
with More Records when some are left and the overflow condition; a range past user memory is Invalid Physical Address.
Inject Poison and Clear Poison of a sector that R452 refuses answer with the refusal's code and submit no write; with
64 injected records held, Inject answers Inject Poison Limit. Otherwise both write the whole sector as a command's
write under the region's policy: where an open landing entry of the page takes it, write-through, the sector of the
entry is poisoned with zeros, or holds the supplied data unpoisoned. Scan Media of a range starts a logical pass over
its pages as a background command, answers Busy while one runs, and Invalid Input for an empty range; its results come
once it is over, Busy before; the capabilities give an estimate. Return codes and layouts are the model's (log entry
21). Concludes that exec answers a next state for: getPoisonList, injectPoison, clearPoison, scanMedia,
getScanMediaCapabilities, getScanMediaResults. -/
def Obligations.PoisonAndScanCommandsActOnUserMemory : Prop :=
  (∀ (m : Master) (dpa len : Nat) (s : State), Serves s m → dpa % 64 = 0 →
      let mine := s.integ.list.filter fun r => decide (r.dpa < dpa + 64 * len) && decide (dpa < r.dpa + 64 * r.len)
      (windowBase < dpa + 64 * len → Answers (.getPoisonList m dpa len) s fun t => Replied t m rcAddress [] ∧ t.integ = s.integ)
      ∧ (dpa + 64 * len ≤ windowBase → s.mbox.poisonNext = none → Answers (.getPoisonList m dpa len) s fun t => t.integ = s.integ
          ∧ DataKept s t ∧ ControlKept s t ∧ ∃ p, Replied t m rcSuccess p ∧ pnum p 10 2 = min 4094 mine.length
            ∧ (pnum p 0 1 % 2 = 1 ↔ 4094 < mine.length) ∧ (pnum p 0 1 / 2 % 2 = 1 ↔ s.integ.overflow = true)
            ∧ p.drop 32 = (mine.take 4094).flatMap PoisonRec.wire))
  ∧ (∀ (cyc dpa : Nat) (m : Master) (data : Sector) (s : State), Serves s m → s.pwr.state ≠ 4 →
      (s.poisonCheck m dpa ≠ 0 → ∀ c, c = Instr.injectPoison cyc m dpa ∨ c = .clearPoison cyc m dpa data →
        Answers c s fun t => Replied t m (s.poisonCheck m dpa) [] ∧ t.cache = s.cache ∧ t.integ = s.integ ∧ DataKept s t)
      ∧ (s.poisonCheck m dpa = 0 → 64 ≤ (s.integ.list.countP fun r => r.source == .injected) →
        Answers (.injectPoison cyc m dpa) s fun t => Replied t m rcPoisonLimit [] ∧ t.cache = s.cache ∧ t.integ = s.integ)
      ∧ (∀ k, let r := s.at cyc; let lpn := lpnOfDpa dpa; let i := sectorOf dpa; let n := r.sliceOf (r.setOf lpn)
          let region := (s.regionAt (bHp (pathHead m)) dpa).getD 0
          s.poisonCheck m dpa = 0 → r.unadmitted { id := 0, origin := .command 0, dpa := dpa, kind := .write } = false →
          (∀ q ∈ s.cache.waiting, lpnOfDpa q.dpa ≠ lpn) → (∀ p ∈ s.merging, p.2.dpa / 64 ≠ dpa / 64) → r.findWay lpn = none → (r.region (bCs n) region).policy = 1 →
          r.mirrored (bCs n) region = false → r.openEntry lpn = some k → r.waitRoom = true →
          ((s.integ.list.countP fun r => r.source == .injected) < 64 → Answers (.injectPoison cyc m dpa) s fun t =>
            (t.entryK k).sector i = 0 ∧ (t.entryK k).valid.getLsbD i = true ∧ (t.entryK k).poison.getLsbD i = true
            ∧ .reply (masterVal m) rcSuccess [] ∈ t.out ∧ t.media.cells = s.media.cells)
          ∧ Answers (.clearPoison cyc m dpa data) s fun t =>
            (t.entryK k).sector i = data ∧ (t.entryK k).valid.getLsbD i = true ∧ (t.entryK k).poison.getLsbD i = false
            ∧ .reply (masterVal m) rcSuccess [] ∈ t.out ∧ t.media.cells = s.media.cells))
  ∧ (∀ (m : Master) (dpa len : Nat) (s : State), Serves s m → s.pwr.state ≠ 4 → dpa + 64 * len ≤ windowBase →
      (dpa % 64 = 0 → 0 < len → s.mbox.bg = none → Answers (.scanMedia m dpa len) s fun t => Replied t m rcBackground []
          ∧ t.mbox.bg = some (pathHead m, 0x4304, s.tt.fn) ∧ t.integ.scan = some (scanPages dpa len) ∧ t.integ.scanHits = []
          ∧ DataKept s t ∧ ControlKept s t ∧ t.integ.list = s.integ.list)
      ∧ (dpa % 64 = 0 → 0 < len → s.mbox.bg.isSome = true → Answers (.scanMedia m dpa len) s fun t => Replied t m rcBusy []
          ∧ t.integ = s.integ ∧ t.mbox.bg = s.mbox.bg)
      ∧ (dpa % 64 ≠ 0 ∨ len = 0 → Answers (.scanMedia m dpa len) s fun t => Replied t m rcInput [] ∧ t.integ = s.integ)
      ∧ (Answers (.getScanMediaCapabilities m dpa len) s fun t => (∃ p, Replied t m rcSuccess p ∧ p.length = 4) ∧ t.integ = s.integ
          ∧ DataKept s t ∧ ControlKept s t))
  ∧ (∀ (m : Master) (s : State), Serves s m →
      (s.integ.scan.isSome = true → Answers (.getScanMediaResults m) s fun t => Replied t m rcBusy [] ∧ t.integ = s.integ)
      ∧ (s.integ.scan = none → s.mbox.scanNext = 0 → Answers (.getScanMediaResults m) s fun t => t.integ = s.integ ∧ DataKept s t
          ∧ ControlKept s t ∧ ∃ p, Replied t m rcSuccess p ∧ pnum p 18 2 = min 4094 s.integ.scanHits.length
            ∧ p.drop 32 = (s.integ.scanHits.take 4094).flatMap PoisonRec.wire))

/-- Over a path that the service takes. A payload of another length answers Invalid Payload Length, records the
refusal and changes no register. REG_READ answers DETAIL 0 and the bytes a bus read gives; REG_WRITE leaves the
registers as the bus write does; sizes other than 4 and 8 are DETAIL 6; on HP1 without BAR2 both are Unsupported.
REGION_SET_ATTR wakes a Moored module; otherwise, of a valid region of the head that allows the values, not mirrored,
writes the masked fields into the shadow of all 19 copies, strobes group 3 and answers FN + 1 and change ID 0; a
region past 63, not valid, or a value out of range is DETAIL 6, the other head's region 5, a mirrored one on a
follower 2, a value not allowed 1; a mirrored one on a joined lead is proposed with target FN + 8 and answered later,
or DETAIL 3 while another change is out. MAP_SELECT of a map the image allows and that is valid writes the shadow of
TT_MAP_SEL, strobes group 1 and answers FN + 1; DETAIL 1 where R77 would refuse it. CENSUS_CTRL in range writes K, N,
ENABLE and the grant and strobes group 12; out of range DETAIL 6. Concludes that exec answers a next state for:
regRead, regWrite, regionSetAttr, mapSelect, censusCtrl. -/
def Obligations.VendorCommandsActOnRegistersRegionsMapAndCensus : Prop :=
  (∀ (m : Master) (payload : List (BitVec 8)) (s : State), Serves s m →
      let refused (c : Instr) (d : Nat) : Prop := Answers c s fun t => Replied t m (detailCode d) (leBytes 4 d) ∧ t.regs = s.regs
        ∧ t.fry = s.fry ∧ DataKept s t ∧ ControlKept s t
      let size := pnum payload 4 1
      let n := pnum payload 0 1; let mask := pnum payload 1 1; let r := s.region bXl n; let v := s.attrAsked payload
      let allow := s.actW bXl (0x408 + 0x10 * n); let at' := 0x404 + 0x10 * n
      let inRange := n < 64 ∧ mask < 8 ∧ (mask.testBit 0 → pnum payload 2 1 < 4) ∧ (mask.testBit 1 → pnum payload 3 1 < 2)
        ∧ (mask.testBit 2 → pnum payload 4 1 < 4) ∧ pnum payload 5 3 = 0 ∧ r.valid = true
      let allowed := (mask.testBit 0 → regAllows allow 0 (pnum payload 2 1) = true)
        ∧ (mask.testBit 1 → regAllows allow 1 (pnum payload 3 1) = true) ∧ (mask.testBit 2 → regAllows allow 2 (pnum payload 4 1) = true)
      let mine := pathAny m = true ∨ s.owner r = pathHead m
      (∀ c len, (c, len) ∈ [(Instr.regRead m payload, 8), (.regWrite m payload, 16), (.regionSetAttr m payload, 8),
            (.mapSelect m payload, 4), (.censusCtrl m payload, 4)] → payload.length ≠ len → Answers c s fun t =>
          Replied t m rcLength [] ∧ t.regs = s.regs ∧ DataKept s t ∧ ControlKept s t)
      ∧ (size = 4 ∨ size = 8 → pnum payload 5 3 = 0 → (m = .mboxHp1 → (s.actW (bHp 1) 0x010).getLsbD 3 = true) →
          (payload.length = 8 → Answers (.regRead m payload) s fun t => Replied t m rcSuccess
              (leBytes 4 0 ++ padTo 8 (s.busRead m (pnum payload 0 4) size).2) ∧ DataKept s t ∧ t.xl = s.xl ∧ t.pwr = s.pwr)
          ∧ (payload.length = 16 → Answers (.regWrite m payload) s fun t => .reply (masterVal m) rcSuccess (leBytes 4 0) ∈ t.out
              ∧ t.regs = (s.busWrite m (pnum payload 0 4) size (BitVec.ofNat 64 (2 ^ size - 1))
                  (BitVec.ofNat 512 (pnum payload 8 size))).regs))
      ∧ ((size ≠ 4 ∧ size ≠ 8) ∨ pnum payload 5 3 ≠ 0 → (m = .mboxHp1 → (s.actW (bHp 1) 0x010).getLsbD 3 = true) →
          (payload.length = 8 → refused (.regRead m payload) 6) ∧ (payload.length = 16 → refused (.regWrite m payload) 6))
      ∧ (m = .mboxHp1 → (s.actW (bHp 1) 0x010).getLsbD 3 = false →
          (payload.length = 8 → Answers (.regRead m payload) s fun t => Replied t m rcUnsupported [] ∧ t.regs = s.regs)
          ∧ (payload.length = 16 → Answers (.regWrite m payload) s fun t => Replied t m rcUnsupported [] ∧ t.regs = s.regs))
      ∧ (payload.length = 8 → s.pwr.state ≠ 4 → inRange → mine → allowed → s.mirrored bXl n = false →
          (∀ b ∈ regionBlocks, s.actW b (0x408 + 0x10 * n) = allow ∧ s.shdW b at' = s.shdW bXl at') →
          Answers (.regionSetAttr m payload) s fun t => Replied t m rcSuccess (leBytes 4 0 ++ leBytes 6 (s.tt.fn + 1) ++ leBytes 1 0)
            ∧ (∀ b ∈ regionBlocks, t.actW b at' = s.actW b at'
              ∧ bits (t.shdW b at') 0 2 = (if mask.testBit 0 then pnum payload 2 1 else bits (s.shdW bXl at') 0 2)
              ∧ bits (t.shdW b at') 2 1 = (if mask.testBit 1 then pnum payload 3 1 else bits (s.shdW bXl at') 2 1)
              ∧ bits (t.shdW b at') 8 2 = (if mask.testBit 2 then pnum payload 4 1 else bits (s.shdW bXl at') 8 2))
            ∧ t.regs.pendingGroups.getLsbD 3 = true ∧ DataKept s t ∧ ControlKept s t)
      ∧ (payload.length = 8 → s.pwr.state = 4 → Answers (.regionSetAttr m payload) s fun t => t.pwr.state = 2 ∧ t.dram = s.dram)
      ∧ (payload.length = 8 → s.pwr.state ≠ 4 → 64 ≤ n ∨ 8 ≤ mask ∨ r.valid = false ∨ (mask.testBit 0 = true ∧ 4 ≤ pnum payload 2 1) →
          refused (.regionSetAttr m payload) 6)
      ∧ (payload.length = 8 → s.pwr.state ≠ 4 → inRange → pathAny m = false → s.owner r ≠ pathHead m → refused (.regionSetAttr m payload) 5)
      ∧ (payload.length = 8 → s.pwr.state ≠ 4 → inRange → mine → s.mirrored bXl n = true →
          (s.fry.role = .follower ∨ s.fry.pstate = .stranded → refused (.regionSetAttr m payload) 2)
          ∧ (allowed → s.joined = true → s.isLead = true → s.fry.atFn.isSome = true → refused (.regionSetAttr m payload) 3)
          ∧ (allowed → s.joined = true → s.isLead = true → s.fry.atFn = none → Answers (.regionSetAttr m payload) s fun t =>
              (∃ a, t.fry.atFn = some a ∧ a.change = 1 ∧ a.subject = n ∧ a.value = v ∧ a.target = s.tt.fn + 8)
              ∧ t.mbox.owed = some (m, 0xC010) ∧ t.regs = s.regs ∧ (∀ c p, .reply (masterVal m) c p ∉ t.out) ∧ DataKept s t))
      ∧ (payload.length = 8 → s.pwr.state ≠ 4 → inRange → mine → s.mirrored bXl n = false → ¬ allowed → refused (.regionSetAttr m payload) 1)
      ∧ (payload.length = 4 → n < 3 → pnum payload 1 3 = 0 →
          let ok := (s.actW bTt 0x028).getLsbD n = true ∧ mapFault (s.tt.maps.getD n []) = none
          (ok → Answers (.mapSelect m payload) s fun t => Replied t m rcSuccess (leBytes 4 0 ++ leBytes 6 (s.tt.fn + 1))
              ∧ bits (t.shdW bTt 0x020) 0 2 = n ∧ t.actW bTt 0x020 = s.actW bTt 0x020 ∧ t.regs.pendingGroups.getLsbD 1 = true
              ∧ t.tt.selected = true ∧ t.tt.map = s.tt.map ∧ DataKept s t)
          ∧ (¬ ok → refused (.mapSelect m payload) 1))
      ∧ (payload.length = 4 → 3 ≤ n ∨ pnum payload 1 3 ≠ 0 → refused (.mapSelect m payload) 6)
      ∧ (payload.length = 4 → pnum payload 3 1 = 0 → pnum payload 2 1 < 4 →
          (8 ≤ n → n ≤ 24 → mask = 0 ∨ 4 ≤ mask ∧ mask ≤ 24 → Answers (.censusCtrl m payload) s fun t =>
              Replied t m rcSuccess (leBytes 4 0) ∧ bits (t.shdW bCen 0x010) 8 5 = n ∧ bits (t.shdW bCen 0x010) 16 5 = mask
              ∧ bits (t.shdW bCen 0x010) 0 2 = pnum payload 2 1 ∧ t.regs.pendingGroups.getLsbD 12 = true ∧ t.cen = s.cen
              ∧ DataKept s t ∧ ControlKept s t)
          ∧ (n < 8 ∨ 24 < n ∨ (0 < mask ∧ mask < 4) ∨ 24 < mask → refused (.censusCtrl m payload) 6)))

/-- With no counter enabled, the host record queue and the logs with room: while 1,024 records were taken in the frame
nothing is taken. Otherwise the continuation records of the occurrence begun go first, then the records that bypass
the holds, then the first record of the oldest occurrence that waits, whose continuations are then owed. A record of a
source that lost some carries LOST_BEFORE, and the source owes it no more. The record is the last word of the host
record queue, end-marked when no continuation follows; it is in the log of its severity of each head that R456 names;
with the ring's room it is staged unless it is Info that the ring does not take; a Fatal record or one of sources 272
to 287 that was not relayed is put on the relay. With no record waiting nothing happens. Concludes that exec answers a
next state for: recordTake. -/
def Obligations.RecordsReachEveryConsumerInOrder : Prop :=
  (∀ (r : Record) (rest : List Record) (more : List (List Record)) (s : State),
      (∀ k, (s.tele.counters.getD k {}).enable = false) → s.tele.evq.records.discard = false →
      s.tele.evq.records.words.length < qCap .records → s.tele.evq.takenNow < 1024 →
      (∀ h < 2, ∀ l < 4, ((s.hp h).logs.getD l {}).entries.length + 2 ≤ logCap l) →
      let given (t : State) (r : Record) (fin : Bool) : Prop :=
        (t.getQ .records).words = (s.getQ .records).words ++ [{ word := BitVec.ofNat 512 (ofBytes r.bytes), endMark := fin }]
        ∧ t.tele.evq.takenNow = s.tele.evq.takenNow + 1
        ∧ (∀ h ∈ s.logHeads r, ∃ e ∈ ((t.hp h).logs.getD (sevVal r.severity) {}).entries, e.kind = 0 ∧ e.bytes = r.bytes
            ∧ (((s.hp h).logs.getD (sevVal r.severity) {}).msix = true → .msix h (1 + sevVal r.severity) ∈ t.out))
        ∧ (s.tele.evq.staged.length < 256 →
            t.tele.evq.staged = if s.ringTakes r then s.tele.evq.staged ++ [r] else s.tele.evq.staged)
        ∧ (s.tele.evq.relay.length < 64 → t.tele.evq.relay = if relayTakes r then s.tele.evq.relay ++ [r] else s.tele.evq.relay)
        ∧ DataKept s t ∧ ControlKept s t
      (s.tele.evq.taking = r :: rest → Answers .recordTake s fun t => given t r rest.isEmpty ∧ t.tele.evq.taking = rest
          ∧ t.tele.evq.direct = s.tele.evq.direct ∧ t.tele.evq.hold = s.tele.evq.hold)
      ∧ (s.tele.evq.taking = [] → s.tele.evq.direct = r :: rest → Answers .recordTake s fun t => given t r true
          ∧ t.tele.evq.direct = rest ∧ t.tele.evq.hold = s.tele.evq.hold)
      ∧ (s.tele.evq.taking = [] → s.tele.evq.direct = [] → s.tele.evq.hold = (r :: rest) :: more → Answers .recordTake s fun t =>
          given t { r with lostBefore := r.lostBefore || s.tele.evq.lostMark.contains r.source } rest.isEmpty
          ∧ t.tele.evq.hold = more ∧ t.tele.evq.taking = rest ∧ r.source ∉ t.tele.evq.lostMark))
  ∧ (∀ (s : State), 1024 ≤ s.tele.evq.takenNow ∨ (s.tele.evq.taking = [] ∧ s.tele.evq.direct = [] ∧ s.tele.evq.hold = []) →
      Answers .recordTake s fun t => t = { s with out := [] })

/-- CENSUS_WINDOW_CLOSE moves the window that a tick latched into gathering, and does nothing when none was latched.
CENSUS_PUBLISH, in a frame after the window's end, puts it into the bank that is not published (bank 0 at first), with
the next SEQ at its start and its end, and makes that bank the published one; the other bank keeps its contents. When
it misses the tick after the close, LATE is set in it and CENSUS_LATE recorded; otherwise only the counters of event
0x040 see it. With nothing gathered, or in the frame of the close, nothing happens. Concludes that exec answers a next
state for: censusWindowClose, censusPublish. -/
def Obligations.CensusWindowsCloseAndArePublished : Prop :=
  (∀ s : State,
      (s.cen.closeDue.isSome = true → Answers .censusWindowClose s fun t =>
          t.cen = { s.cen with closeDue := none, gathering := true, building := s.cen.latched, latched := [] } ∧ t.tele = s.tele
          ∧ DataKept s t ∧ ControlKept s t)
      ∧ (s.cen.closeDue = none → Answers .censusWindowClose s fun t => t = { s with out := [] }))
  ∧ (∀ (s : State), Mem.wf s.cen.building = true → s.cen.gathering = true → Mem.num s.cen.building 10 6 < s.tt.fn →
      let bank := if s.cen.valid then 1 - s.cen.published else 0
      let late := s.tt.fn - Mem.num s.cen.building 10 6 - 1
      Answers .censusPublish s fun t => t.cen.published = bank ∧ t.cen.valid = true ∧ t.cen.gathering = false
        ∧ t.cen.seq = (s.cen.seq + 1) % 2 ^ 32 ∧ t.cen.closeFn = Mem.num s.cen.building 10 6
        ∧ (∃ w, t.cen.banks.get? bank = some w ∧ Mem.num w 0 4 = t.cen.seq ∧ Mem.num w 0x1ff8 4 = t.cen.seq
            ∧ (Mem.read w 17).getLsbD 1 = (decide (0 < late) || (Mem.read s.cen.building 17).getLsbD 1)
            ∧ ∀ a, 4 ≤ a → a ≠ 17 → a < 0x1ff8 → Mem.read w a = Mem.read s.cen.building a)
        ∧ (∀ k, k ≠ bank → t.cen.banks.get? k = s.cen.banks.get? k)
        ∧ (late = 0 → t.tele = (s.count bCen 0x40 1).tele)
        ∧ (0 < late → t.tele = ((s.count bCen 0x40 1).record bCen 373 0x1102 .warning [(4, t.cen.seq), (4, late)]).tele)
        ∧ DataKept s t ∧ ControlKept s t)
  ∧ (∀ s : State, s.cen.gathering = false ∨ s.tt.fn ≤ Mem.num s.cen.building 10 6 →
      Answers .censusPublish s fun t => t = { s with out := [] })

/-- The check that map selection, MAP_SELECT and the image loader make of a loaded map finds no fault exactly when: no
beat of a slot carries the code 11 and the reserved bits 15:12 of every slot word are 0; a beat position that is read
in one slot is read in all 16; beat 0 is read in every slot; no slot has more than 4 write beats; and the frame has at
least one write beat. -/
def Obligations.ABeatMapIsValidExactlyWhenTheFiveConditionsHold : Prop :=
  ∀ ws : List (BitVec 16), mapFault ws = none ↔
    (∀ n < 16, (∀ b < 6, beatOf (ws.getD n 0) b ≠ 3) ∧ bits (ws.getD n 0) 12 4 = 0)
    ∧ (∀ b < 6, (∃ n < 16, beatOf (ws.getD n 0) b = 0) → ∀ n < 16, beatOf (ws.getD n 0) b = 0)
    ∧ (∀ n < 16, beatOf (ws.getD n 0) 0 = 0)
    ∧ (∀ n < 16, ((List.range 6).countP fun b => beatOf (ws.getD n 0) b == 1) ≤ 4)
    ∧ ∃ n < 16, ∃ b < 6, beatOf (ws.getD n 0) b = 1

/-- An occurrence of a source that fits in the free space of the source's hold is kept behind those that wait, and
nothing else changes. Whatever happens, each occurrence held afterwards was held before or is the new one, whole; the
occurrences of other sources stay; the source's hold has at most 4 records when it had at most 4 before; the records
kept and the records newly counted as dropped add up to the records held before and the new ones; no occurrence with a
severity above that of the new one is dropped; and when any record was dropped the source owes LOST_BEFORE. -/
def Obligations.HoldsDropWholeOccurrencesAndCountThem : Prop :=
  ∀ (e : Evq) (src : Nat) (o : List Record), (∀ r ∈ o, r.source = src) → o ≠ [] → o.length ≤ 4 →
    (∀ x ∈ e.hold, x ≠ [] ∧ ∃ k, ∀ r ∈ x, r.source = k) →
    let u := Evq.put 8 e src o
    (e.held src + o.length ≤ 4 → u = { e with hold := e.hold ++ [o] })
    ∧ (∀ x ∈ u.hold, x ∈ e.hold ∨ x = o)
    ∧ (∀ x, (∃ r ∈ x, r.source ≠ src) → u.hold.count x = e.hold.count x)
    ∧ u.held src ≤ max 4 (e.held src)
    ∧ u.held src + u.frameDropped = e.held src + o.length + e.frameDropped
    ∧ (∀ x ∈ e.hold, occSev o < occSev x → x ∈ u.hold)
    ∧ (e.frameDropped < u.frameDropped → src ∈ u.lostMark)
    ∧ u.taking = e.taking ∧ u.direct = e.direct ∧ u.records = e.records

end Statements
end

