-- ==== Sys2Proof/Laws/Mem.lean ====
section
/-!
SUPPORT. Laws of byte memory: reading after writing, and that every memory operation keeps the canonical form.
-/
namespace Sys2Proof.Machine

theorem Mem.wf_cons (k : Nat) (v : BitVec 8) (m : Mem) :
    Mem.wf ((k, v) :: m) = true ↔ v ≠ Mem.blank ∧ (∀ p ∈ m.head?, k < p.1) ∧ Mem.wf m = true := by
  cases m with
  | nil => simp [Mem.wf]
  | cons p t => obtain ⟨k', v'⟩ := p; simp [Mem.wf, and_assoc]

/-- Below the first listed address every byte is blank. -/
theorem Mem.read_below (m : Mem) (h : Mem.wf m = true) (a : Nat) (ha : ∀ p ∈ m.head?, a < p.1) :
    Mem.read m a = Mem.blank := by
  induction m with
  | nil => rfl
  | cons p t ih =>
    obtain ⟨k, v⟩ := p
    have hk : a < k := by simpa using ha
    rw [Mem.wf_cons] at h
    have : k ≠ a := by omega
    simp only [Mem.read, this, if_false]
    exact ih h.2.2 fun q hq => by have := h.2.1 q hq; omega

theorem Mem.read_write_self (m : Mem) (h : Mem.wf m = true) (a : Nat) (b : BitVec 8) :
    Mem.read (Mem.write m a b) a = b := by
  induction m with
  | nil => unfold Mem.write; split <;> simp_all [Mem.read]
  | cons p t ih =>
    obtain ⟨k, v⟩ := p
    have hw := h
    rw [Mem.wf_cons] at h
    unfold Mem.write
    split
    · next hk =>
      split
      · next e => rw [e]; exact Mem.read_below _ hw a (by simpa using hk)
      · simp [Mem.read]
    · split
      · next hk e =>
        split
        · next e2 => rw [e2]; exact Mem.read_below _ h.2.2 a fun q hq => by have := h.2.1 q hq; omega
        · simp [Mem.read]
      · next hk e =>
        have : k ≠ a := by omega
        simp only [Mem.read, this, if_false]
        exact ih h.2.2

theorem Mem.read_write_ne (m : Mem) {a c : Nat} (b : BitVec 8) (hc : c ≠ a) :
    Mem.read (Mem.write m a b) c = Mem.read m c := by
  induction m with
  | nil => unfold Mem.write; split <;> simp [Mem.read, Ne.symm hc]
  | cons p t ih =>
    obtain ⟨k, v⟩ := p
    unfold Mem.write
    split
    · split <;> simp [Mem.read, Ne.symm hc]
    · split
      · next e => subst e; split <;> simp [Mem.read, Ne.symm hc]
      · simp only [Mem.read]
        split
        · rfl
        · exact ih

/-- Writing a byte keeps the canonical form. -/
@[simp] theorem Mem.wf_write (m : Mem) (h : Mem.wf m = true) (a : Nat) (b : BitVec 8) : Mem.wf (Mem.write m a b) = true := by
  induction m with
  | nil => unfold Mem.write; split <;> simp_all [Mem.wf]
  | cons p t ih =>
    obtain ⟨k, v⟩ := p
    have hw := h
    rw [Mem.wf_cons] at h
    unfold Mem.write
    split
    · split
      · exact hw
      · next hk e => rw [Mem.wf_cons]; exact ⟨e, by simpa using hk, hw⟩
    · split
      · next e =>
        subst e
        split
        · exact h.2.2
        · next e => rw [Mem.wf_cons]; exact ⟨e, h.2⟩
      · rw [Mem.wf_cons]
        refine ⟨h.1, ?_, ih h.2.2⟩
        cases t with
        | nil => unfold Mem.write; split <;> simp <;> omega
        | cons q u =>
          obtain ⟨c, d⟩ := q
          have hc : k < c := by simpa using h.2.1
          have hu := (Mem.wf_cons c d u).1 h.2.2
          unfold Mem.write
          split
          · split <;> simp <;> omega
          · split
            · split
              · intro r hr; have := hu.2.1 r hr; omega
              · simp; omega
            · simp; omega

/-- Writing bytes keeps the canonical form. -/
@[simp] theorem Mem.wf_writes (m : Mem) (h : Mem.wf m = true) (a : Nat) (bs : List (BitVec 8)) :
    Mem.wf (Mem.writes m a bs) = true := by
  induction bs generalizing m a with
  | nil => exact h
  | cons b t ih => exact ih _ (Mem.wf_write m h a b) _

@[simp] theorem Mem.wf_setSector (m : Mem) (h : Mem.wf m = true) (a : Nat) (x : Sector) : Mem.wf (Mem.setSector m a x) = true :=
  Mem.wf_writes m h a _

@[simp] theorem Mem.wf_nil : Mem.wf [] = true := rfl

/-- A fold of operations that each keep the canonical form keeps it. -/
@[simp] theorem Mem.wf_foldl {α : Type} (f : Mem → α → Mem) (h : ∀ m a, Mem.wf m = true → Mem.wf (f m a) = true) (l : List α)
    (m : Mem) (hm : Mem.wf m = true) : Mem.wf (l.foldl f m) = true := by
  induction l generalizing m with
  | nil => exact hm
  | cons a t ih => exact ih _ (h m a hm)

/-- A byte outside the written range reads as before. -/
theorem Mem.read_writes_ne (m : Mem) (a : Nat) (bs : List (BitVec 8)) (c : Nat) (hc : c < a ∨ a + bs.length ≤ c) :
    Mem.read (Mem.writes m a bs) c = Mem.read m c := by
  induction bs generalizing m a with
  | nil => rfl
  | cons b t ih =>
    have h1 : c ≠ a := by simp at hc; omega
    have h2 : c < a + 1 ∨ a + 1 + t.length ≤ c := by simp at hc; omega
    exact (ih _ _ h2).trans (Mem.read_write_ne m b h1)

end Sys2Proof.Machine
end

