-- ==== Sys2Proof/Laws/Keep/Base.lean ====
section
/-!
SUPPORT. What the lemmas of this folder say of each operation: it leaves the queue of commands as it is, and keeps every byte
memory in canonical form. Here: how the two carry through branches and folds.
-/
namespace Sys2Proof.Machine

@[simp] theorem pending_ite (c : Prop) [Decidable c] (a b : State) :
    (if c then a else b).pending = if c then a.pending else b.pending := by split <;> rfl

@[simp] theorem memOk_ite (c : Prop) [Decidable c] (a b : State) (ha : a.memOk) (hb : b.memOk) :
    (if c then a else b).memOk := by split <;> assumption

@[simp] theorem gate_pending (s : State) (c : Bool) (f : State → State) (h : ∀ x, (f x).pending = x.pending) :
    (s.gate c f).pending = s.pending := by
  unfold State.gate
  split
  · exact h s
  · rfl

@[simp] theorem gate_memOk (s : State) (c : Bool) (f : State → State) (hs : s.memOk) (h : ∀ x, x.memOk → (f x).memOk) :
    (s.gate c f).memOk := by
  unfold State.gate
  split
  · exact h s hs
  · exact hs

@[simp] theorem foldl_pending {α : Type} (f : State → α → State) (h : ∀ x a, (f x a).pending = x.pending) (l : List α)
    (s : State) : (l.foldl f s).pending = s.pending := by
  induction l generalizing s with
  | nil => rfl
  | cons a t ih => exact (ih _).trans (h s a)

@[simp] theorem foldl_memOk {α : Type} (f : State → α → State) (h : ∀ x a, x.memOk → (f x a).memOk) (l : List α)
    (s : State) (hs : s.memOk) : (l.foldl f s).memOk := by
  induction l generalizing s with
  | nil => exact hs
  | cons a t ih => exact ih _ (h s a hs)

theorem foldl_fst_pending {α β : Type} (f : State × β → α → State × β) (h : ∀ x a, (f x a).1.pending = x.1.pending)
    (l : List α) (x : State × β) : (l.foldl f x).1.pending = x.1.pending := by
  induction l generalizing x with
  | nil => rfl
  | cons a t ih => exact (ih _).trans (h x a)

theorem foldl_fst_memOk {α β : Type} (f : State × β → α → State × β) (h : ∀ x a, x.1.memOk → (f x a).1.memOk)
    (l : List α) (x : State × β) (hx : x.1.memOk) : (l.foldl f x).1.memOk := by
  induction l generalizing x with
  | nil => exact hx
  | cons a t ih => exact ih _ (h x a hx)

@[simp] theorem memOk_mk (a1 : List Instr) (a2 : List Output) (a3 : Nat) (a4 : Tele) (a5 : Regs) (a6 : Tt) (a7 : Xl)
    (a8 : Cache) (a9 : Media) (a10 : Kv Head) (a11 : Integrity) (a12 : Sec) (a13 : Fry) (a14 : Kv Drc)
    (a15 : List Host.Cell) (a16 : Kv Hp) (a17 : Mbox) (a18 : Mnt) (a19 : Kv BargeCh) (a20 : Cen) (a21 : Pst)
    (a22 a23 : List Host.Cell) (a24 : Pwr) (a25 : Start) (a26 : Nv) (a27 : Option Nv)
    (a28 : Option (Regs × Kv Counter × Kv Mch)) :
    (State.mk a1 a2 a3 a4 a5 a6 a7 a8 a9 a10 a11 a12 a13 a14 a15 a16 a17 a18 a19 a20 a21 a22 a23 a24 a25 a26 a27 a28).memOk
      ↔ Mem.wf a15 = true ∧ Mem.wf a22 = true ∧ Mem.wf a23 = true := Iff.rfl

@[simp] theorem wf_dram (s : State) (h : s.memOk) : Mem.wf s.dram = true := h.1
@[simp] theorem wf_store (s : State) (h : s.memOk) : Mem.wf s.store = true := h.2.1
@[simp] theorem wf_fwStore (s : State) (h : s.memOk) : Mem.wf s.fwStore = true := h.2.2

/-- What a command does to the queue and to the memories: it completes, leaves the queue of commands as it is, and keeps the
memories canonical. -/
def Keeps (s : State) (r : Res) : Prop := ∃ t, r = .next t ∧ t.pending = s.pending ∧ (s.memOk → t.memOk)

@[simp] theorem keeps_next (s t : State) : Keeps s (.next t) ↔ t.pending = s.pending ∧ (s.memOk → t.memOk) := by
  constructor
  · rintro ⟨u, h, k⟩
    cases h
    exact k
  · exact fun k => ⟨t, rfl, k⟩

@[simp] theorem keeps_ite (s : State) (c : Prop) [Decidable c] (a b : Res) (ha : Keeps s a) (hb : Keeps s b) :
    Keeps s (if c then a else b) := by split <;> assumption

end Sys2Proof.Machine
end

