-- ==== Sys2Proof/Laws/Keep/Ops.lean ====
section
/-!
SUPPORT. What each operation of Machine/Ops.lean keeps: the queue of commands, and the canonical form of the memories.
-/
namespace Sys2Proof.Machine

@[simp] theorem begin_pending (s : State) :
    (State.begin s).pending = s.pending := by simp [State.begin]

@[simp] theorem begin_memOk (s : State) (hm : s.memOk) :
    (State.begin s).memOk := by simp [State.begin, hm]

@[simp] theorem noteLast_pending (s : State) (code : Nat) (src : Nat) (v : Nat) :
    (State.noteLast s code src v).pending = s.pending := by simp [State.noteLast]

@[simp] theorem noteLast_memOk (s : State) (code : Nat) (src : Nat) (v : Nat) (hm : s.memOk) :
    (State.noteLast s code src v).memOk := by simp [State.noteLast, hm]

@[simp] theorem emit_pending (s : State) (o : Output) :
    (State.emit s o).pending = s.pending := by simp [State.emit]

@[simp] theorem emit_memOk (s : State) (o : Output) (hm : s.memOk) :
    (State.emit s o).memOk := by simp [State.emit, hm]

@[simp] theorem at_pending (s : State) (cyc : Nat) :
    (State.at s cyc).pending = s.pending := by simp [State.at]

@[simp] theorem at_memOk (s : State) (cyc : Nat) (hm : s.memOk) :
    (State.at s cyc).memOk := by simp [State.at, hm]

@[simp] theorem count_pending (s : State) (b : Nat) (e : Nat) (n : Nat) :
    (State.count s b e n).pending = s.pending := by simp [State.count]

@[simp] theorem count_memOk (s : State) (b : Nat) (e : Nat) (n : Nat) (hm : s.memOk) :
    (State.count s b e n).memOk := by simp [State.count, hm]

@[simp] theorem record_pending (s : State) (b : Nat) (src : Nat) (code : Nat) (sev : Severity) (items : List Item) :
    (State.record s b src code sev items).pending = s.pending := by simp [State.record]

@[simp] theorem record_memOk (s : State) (b : Nat) (src : Nat) (code : Nat) (sev : Severity) (items : List Item) (hm : s.memOk) :
    (State.record s b src code sev items).memOk := by simp [State.record, hm]

@[simp] theorem tally_pending (s : State) (code : Nat) (src : Nat) (who : Nat) (n : Nat) :
    (State.tally s code src who n).pending = s.pending := by simp [State.tally]

@[simp] theorem tally_memOk (s : State) (code : Nat) (src : Nat) (who : Nat) (n : Nat) (hm : s.memOk) :
    (State.tally s code src who n).memOk := by simp [State.tally, hm]

@[simp] theorem recordOnce_pending (s : State) (who : Nat) (b : Nat) (src : Nat) (code : Nat) (sev : Severity) (items : List Item) :
    (State.recordOnce s who b src code sev items).pending = s.pending := by simp [State.recordOnce]

@[simp] theorem recordOnce_memOk (s : State) (who : Nat) (b : Nat) (src : Nat) (code : Nat) (sev : Severity) (items : List Item) (hm : s.memOk) :
    (State.recordOnce s who b src code sev items).memOk := by simp [State.recordOnce, hm]

@[simp] theorem setQ_pending (s : State) (i : QueueId) (q : Queue) :
    (State.setQ s i q).pending = s.pending := by
  unfold State.setQ; split <;> simp

@[simp] theorem setQ_memOk (s : State) (i : QueueId) (q : Queue) (hm : s.memOk) :
    (State.setQ s i q).memOk := by
  unfold State.setQ; split <;> simp +contextual (maxDischargeDepth := 19) [hm]

@[simp] theorem pushQ_pending (s : State) (i : QueueId) (w : BitVec 512) (fin : Bool) :
    (State.pushQ s i w fin).pending = s.pending := by simp [State.pushQ]

@[simp] theorem pushQ_memOk (s : State) (i : QueueId) (w : BitVec 512) (fin : Bool) (hm : s.memOk) :
    (State.pushQ s i w fin).memOk := by simp +contextual (maxDischargeDepth := 19) [State.pushQ, hm]

@[simp] theorem modCs_pending (s : State) (n : Nat) (f : Slice → Slice) :
    (State.modCs s n f).pending = s.pending := by simp [State.modCs]

@[simp] theorem modCs_memOk (s : State) (n : Nat) (f : Slice → Slice) (hm : s.memOk) :
    (State.modCs s n f).memOk := by simp [State.modCs, hm]

@[simp] theorem modMch_pending (s : State) (c : Nat) (f : Mch → Mch) :
    (State.modMch s c f).pending = s.pending := by simp [State.modMch]

@[simp] theorem modMch_memOk (s : State) (c : Nat) (f : Mch → Mch) (hm : s.memOk) :
    (State.modMch s c f).memOk := by simp [State.modMch, hm]

@[simp] theorem modHead_pending (s : State) (h : Nat) (f : Head → Head) :
    (State.modHead s h f).pending = s.pending := by simp [State.modHead]

@[simp] theorem modHead_memOk (s : State) (h : Nat) (f : Head → Head) (hm : s.memOk) :
    (State.modHead s h f).memOk := by simp [State.modHead, hm]

@[simp] theorem modHp_pending (s : State) (h : Nat) (f : Hp → Hp) :
    (State.modHp s h f).pending = s.pending := by simp [State.modHp]

@[simp] theorem modHp_memOk (s : State) (h : Nat) (f : Hp → Hp) (hm : s.memOk) :
    (State.modHp s h f).memOk := by simp [State.modHp, hm]

@[simp] theorem modDrc_pending (s : State) (c : Nat) (f : Drc → Drc) :
    (State.modDrc s c f).pending = s.pending := by simp [State.modDrc]

@[simp] theorem modDrc_memOk (s : State) (c : Nat) (f : Drc → Drc) (hm : s.memOk) :
    (State.modDrc s c f).memOk := by simp [State.modDrc, hm]

@[simp] theorem modSub_pending (s : State) (c : Nat) (u : Nat) (f : DrcSub → DrcSub) :
    (State.modSub s c u f).pending = s.pending := by simp [State.modSub]

@[simp] theorem modSub_memOk (s : State) (c : Nat) (u : Nat) (f : DrcSub → DrcSub) (hm : s.memOk) :
    (State.modSub s c u f).memOk := by simp [State.modSub, hm]

@[simp] theorem modBrg_pending (s : State) (n : Nat) (f : BargeCh → BargeCh) :
    (State.modBrg s n f).pending = s.pending := by simp [State.modBrg]

@[simp] theorem modBrg_memOk (s : State) (n : Nat) (f : BargeCh → BargeCh) (hm : s.memOk) :
    (State.modBrg s n f).memOk := by simp [State.modBrg, hm]

@[simp] theorem modDistrict_pending (s : State) (d : Nat) (f : District → District) :
    (State.modDistrict s d f).pending = s.pending := by simp [State.modDistrict]

@[simp] theorem modDistrict_memOk (s : State) (d : Nat) (f : District → District) (hm : s.memOk) :
    (State.modDistrict s d f).memOk := by simp [State.modDistrict, hm]

@[simp] theorem modKeySlot_pending (s : State) (k : Nat) (f : KeySlot → KeySlot) :
    (State.modKeySlot s k f).pending = s.pending := by simp [State.modKeySlot]

@[simp] theorem modKeySlot_memOk (s : State) (k : Nat) (f : KeySlot → KeySlot) (hm : s.memOk) :
    (State.modKeySlot s k f).memOk := by simp [State.modKeySlot, hm]

end Sys2Proof.Machine
end

