-- ==== Sys2Proof/Laws/Keep/Operands.lean ====
section
/-!
SUPPORT. What each operation of Machine/Operands.lean keeps: the queue of commands, and the canonical form of the memories.
-/
namespace Sys2Proof.Machine

@[simp] theorem setW_pending (s : State) (b : Nat) (off : Nat) (w : Word) :
    (State.setW s b off w).pending = s.pending := by simp [State.setW]

@[simp] theorem setW_memOk (s : State) (b : Nat) (off : Nat) (w : Word) (hm : s.memOk) :
    (State.setW s b off w).memOk := by simp [State.setW, hm]

@[simp] theorem setS_pending (s : State) (b : Nat) (off : Nat) (w : Word) :
    (State.setS s b off w).pending = s.pending := by simp [State.setS]

@[simp] theorem setS_memOk (s : State) (b : Nat) (off : Nat) (w : Word) (hm : s.memOk) :
    (State.setS s b off w).memOk := by simp [State.setS, hm]

@[simp] theorem load_pending (s : State) (b : Nat) (off : Nat) (w : Word) :
    (State.load s b off w).pending = s.pending := by simp [State.load]

@[simp] theorem load_memOk (s : State) (b : Nat) (off : Nat) (w : Word) (hm : s.memOk) :
    (State.load s b off w).memOk := by simp [State.load, hm]

end Sys2Proof.Machine
end

