-- ==== Sys2Proof/Laws/Keep/RegIf.lean ====
section
/-!
SUPPORT. What each operation of Machine/RegIf.lean keeps: the queue of commands, and the canonical form of the memories.
-/
namespace Sys2Proof.Machine

@[simp] theorem protectRecord_pending (s : State) (m : Master) (kind : Nat) (addr : Nat) :
    (State.protectRecord s m kind addr).pending = s.pending := by simp [State.protectRecord]

@[simp] theorem protectRecord_memOk (s : State) (m : Master) (kind addr : Nat) (hm : s.memOk) :
    (State.protectRecord s m kind addr).memOk := by simp +contextual (maxDischargeDepth := 19) [State.protectRecord, hm]

@[simp] theorem offRecord_pending (s : State) (m : Master) (b : Nat) (off : Nat) (kind : Nat) :
    (State.offRecord s m b off kind).pending = s.pending := by simp [State.offRecord]

@[simp] theorem offRecord_memOk (s : State) (m : Master) (b : Nat) (off : Nat) (kind : Nat) (hm : s.memOk) :
    (State.offRecord s m b off kind).memOk := by simp [State.offRecord, hm]

@[simp] theorem regionRefused_pending (s : State) (b : Nat) (n : Nat) (field : Nat) (v : Nat) :
    (State.regionRefused s b n field v).pending = s.pending := by simp [State.regionRefused]

@[simp] theorem regionRefused_memOk (s : State) (b : Nat) (n : Nat) (field : Nat) (v : Nat) (hm : s.memOk) :
    (State.regionRefused s b n field v).memOk := by simp [State.regionRefused, hm]

@[simp] theorem writeRs_pending (s : State) (b : Nat) (off : Nat) (mode : WriteMode) (v : Word) (rs : Word) :
    (State.writeRs s b off mode v rs).pending = s.pending := by simp [State.writeRs]

@[simp] theorem writeRs_memOk (s : State) (b : Nat) (off : Nat) (mode : WriteMode) (v : Word) (rs : Word) (hm : s.memOk) :
    (State.writeRs s b off mode v rs).memOk := by simp +contextual (maxDischargeDepth := 19) [State.writeRs, hm]

@[simp] theorem writeWord_pending (s : State) (b : Nat) (mode : WriteMode) (off : Nat) (v : Word) :
    (State.writeWord s b mode off v).pending = s.pending := by simp [State.writeWord]

@[simp] theorem writeWord_memOk (s : State) (b : Nat) (mode : WriteMode) (off : Nat) (v : Word) (hm : s.memOk) :
    (State.writeWord s b mode off v).memOk := by simp +contextual (maxDischargeDepth := 19) [State.writeWord, hm]

@[simp] theorem postWords_pending (s : State) (m : Master) (b : Nat) (mode : WriteMode) (ws : List (Nat × Word)) (off : Nat) (size : Nat) (value : BitVec 64) :
    (State.postWords s m b mode ws off size value).pending = s.pending := by simp [State.postWords]

@[simp] theorem postWords_memOk (s : State) (m : Master) (b : Nat) (mode : WriteMode) (ws : List (Nat × Word)) (off : Nat) (size : Nat) (value : BitVec 64) (hm : s.memOk) :
    (State.postWords s m b mode ws off size value).memOk := by simp +contextual (maxDischargeDepth := 19) [State.postWords, hm]

@[simp] theorem regWrite_pending (s : State) (m : Master) (off : Nat) (size : Nat) (be : BitVec 64) (v : BitVec 512) (mode : WriteMode) (back : Nat) :
    (State.regWrite s m off size be v mode back).1.pending = s.pending := by
  simp only [State.regWrite]; (repeat' split) <;> simp

@[simp] theorem regWrite_memOk (s : State) (m : Master) (off : Nat) (size : Nat) (be : BitVec 64) (v : BitVec 512) (mode : WriteMode) (back : Nat) (hm : s.memOk) :
    (State.regWrite s m off size be v mode back).1.memOk := by
  simp only [State.regWrite]; (repeat' split) <;> simp +contextual (maxDischargeDepth := 19) [hm]

@[simp] theorem strobe_pending (s : State) (mask : BitVec 32) :
    (State.strobe s mask).pending = s.pending := by simp [State.strobe]

@[simp] theorem strobe_memOk (s : State) (mask : BitVec 32) (hm : s.memOk) :
    (State.strobe s mask).memOk := by simp [State.strobe, hm]

@[simp] theorem reprogram_pending (s : State) (b : Nat) :
    (State.reprogram s b).pending = s.pending := by simp [State.reprogram]

@[simp] theorem reprogram_memOk (s : State) (b : Nat) (hm : s.memOk) :
    (State.reprogram s b).memOk := by simp [State.reprogram, hm]

@[simp] theorem activateBlock_pending (s : State) (b : Nat) :
    (State.activateBlock s b).pending = s.pending := by simp [State.activateBlock]

@[simp] theorem activateBlock_memOk (s : State) (b : Nat) (hm : s.memOk) :
    (State.activateBlock s b).memOk := by simp [State.activateBlock, hm]

@[simp] theorem activateGroups_pending (s : State) (fn : Nat) :
    (State.activateGroups s fn).pending = s.pending := by simp [State.activateGroups]

@[simp] theorem activateGroups_memOk (s : State) (fn : Nat) (hm : s.memOk) :
    (State.activateGroups s fn).memOk := by simp +contextual (maxDischargeDepth := 19) [State.activateGroups, hm]

@[simp] theorem execPostedWriteAccept_keeps (block : Nat) (s0 : State) :
    Keeps s0 (execPostedWriteAccept block s0) := by
  simp only [execPostedWriteAccept]; (repeat' split) <;> simp +contextual (maxDischargeDepth := 19)

@[simp] theorem execPostedWriteTimeout_keeps (block : Nat) (s0 : State) :
    Keeps s0 (execPostedWriteTimeout block s0) := by
  simp only [execPostedWriteTimeout]; (repeat' split) <;> simp +contextual (maxDischargeDepth := 19)

@[simp] theorem execGroupStrobe_keeps (_master : Master) (mask : BitVec 32) (s0 : State) :
    Keeps s0 (execGroupStrobe _master mask s0) := by simp +contextual (maxDischargeDepth := 19) [execGroupStrobe]

theorem queueStop_some {s : State} {m : Master} {q : QueueId} {at' : Nat} {t : State} (h : State.queueStop s m q at' = some t) :
    t.pending = s.pending ∧ (s.memOk → t.memOk) := by
  simp only [State.queueStop] at h
  (repeat' split at h) <;> first | (cases h; done) | (cases h; exact ⟨by simp, fun hm => by simp +contextual (maxDischargeDepth := 19) [hm]⟩)

@[simp] theorem doPush_pending (s : State) (m : Master) (q : QueueId) (word : BitVec 512) (size : Nat) (fin : Bool) :
    (State.doPush s m q word size fin).pending = s.pending := by
  unfold State.doPush
  split
  · exact (queueStop_some ‹_›).1
  · split <;> simp

@[simp] theorem doPush_memOk (s : State) (m : Master) (q : QueueId) (word : BitVec 512) (size : Nat) (fin : Bool) (hm : s.memOk) :
    (State.doPush s m q word size fin).memOk := by
  unfold State.doPush
  split
  · exact (queueStop_some ‹_›).2 hm
  · split <;> simp [hm]

@[simp] theorem execQpush_keeps (m : Master) (q : QueueId) (word : BitVec 512) (size : Nat) (s : State) :
    Keeps s (execQpush m q word size s) := by simp +contextual (maxDischargeDepth := 19) [execQpush]

@[simp] theorem execQpushEnd_keeps (m : Master) (q : QueueId) (word : BitVec 512) (size : Nat) (s : State) :
    Keeps s (execQpushEnd m q word size s) := by simp +contextual (maxDischargeDepth := 19) [execQpushEnd]

@[simp] theorem execQpop_keeps (m : Master) (q : QueueId) (size : Nat) (s0 : State) :
    Keeps s0 (execQpop m q size s0) := by
  simp only [execQpop]
  split
  · rename_i h
    have k := queueStop_some h
    exact (keeps_next _ _).2 ⟨by simp [k.1], fun hm => by simp +contextual (maxDischargeDepth := 19) [k.2, hm]⟩
  · split <;> exact (keeps_next _ _).2 ⟨by simp, fun hm => by simp +contextual (maxDischargeDepth := 19) [hm]⟩

@[simp] theorem execQueueFlush_keeps (m : Master) (q : QueueId) (s0 : State) :
    Keeps s0 (execQueueFlush m q s0) := by
  simp only [execQueueFlush]
  split
  · rename_i h
    have k := queueStop_some h
    exact (keeps_next _ _).2 ⟨by simp [k.1], fun hm => by simp +contextual (maxDischargeDepth := 19) [k.2, hm]⟩
  · split <;> exact (keeps_next _ _).2 ⟨by simp, fun hm => by simp +contextual (maxDischargeDepth := 19) [hm]⟩

@[simp] theorem execCntLowRead_keeps (m : Master) (block : Nat) (n : Nat) (s0 : State) :
    Keeps s0 (execCntLowRead m block n s0) := by simp +contextual (maxDischargeDepth := 19) [execCntLowRead]

@[simp] theorem execTtFnLoRead_keeps (m : Master) (s0 : State) :
    Keeps s0 (execTtFnLoRead m s0) := by simp +contextual (maxDischargeDepth := 19) [execTtFnLoRead]

@[simp] theorem execCounterWrap_keeps (block : Nat) (n : Nat) (inc : Nat) (s0 : State) :
    Keeps s0 (execCounterWrap block n inc s0) := by simp +contextual (maxDischargeDepth := 19) [execCounterWrap]

end Sys2Proof.Machine
end

