-- ==== Sys2Proof/Laws/Keep/Crypto.lean ====
section
/-!
SUPPORT. What each operation of Machine/Crypto.lean keeps: the queue of commands, and the canonical form of the memories.
-/
namespace Sys2Proof.Machine

@[simp] theorem dramStore_pending (s : State) (c x : Nat) (d : Sector) :
    (State.dramStore s c x d).pending = s.pending := by simp [State.dramStore]

@[simp] theorem dramStore_memOk (s : State) (c x : Nat) (d : Sector) (hm : s.memOk) :
    (State.dramStore s c x d).memOk := by simp +contextual (maxDischargeDepth := 19) [State.dramStore, hm]

end Sys2Proof.Machine
end

