-- ==== Sys2Proof/Laws/Keep/Path.lean ====
section
/-!
SUPPORT. What each operation of Machine/Path.lean keeps: the queue of commands, and the canonical form of the memories.
-/
namespace Sys2Proof.Machine

@[simp] theorem cpmuAdd_pending (s : State) (h id n : Nat) :
    (State.cpmuAdd s h id n).pending = s.pending := by simp [State.cpmuAdd]

@[simp] theorem cpmuAdd_memOk (s : State) (h id n : Nat) (hm : s.memOk) :
    (State.cpmuAdd s h id n).memOk := by simp +contextual (maxDischargeDepth := 19) [State.cpmuAdd, hm]

@[simp] theorem countHp_pending (s : State) (h e n : Nat) :
    (State.countHp s h e n).pending = s.pending := by simp [State.countHp]

@[simp] theorem countHp_memOk (s : State) (h e n : Nat) (hm : s.memOk) :
    (State.countHp s h e n).memOk := by simp +contextual (maxDischargeDepth := 19) [State.countHp, hm]

@[simp] theorem countCs_pending (s : State) (r : HostReq) (n e : Nat) :
    (State.countCs s r n e).pending = s.pending := by
  simp only [State.countCs]; (repeat' split) <;> simp

@[simp] theorem countCs_memOk (s : State) (r : HostReq) (n e : Nat) (hm : s.memOk) :
    (State.countCs s r n e).memOk := by
  simp only [State.countCs]; (repeat' split) <;> simp +contextual (maxDischargeDepth := 19) [hm]

@[simp] theorem mapReqs_pending (s : State) (q : HostReq → HostReq) : (State.mapReqs s q).pending = s.pending := rfl

@[simp] theorem mapReqs_memOk (s : State) (q : HostReq → HostReq) (hm : s.memOk) : (State.mapReqs s q).memOk := hm

@[simp] theorem blame_pending (s : State) (p : HostReq → Bool) (m : BitVec 8) : (State.blame s p m).pending = s.pending := rfl

@[simp] theorem blame_memOk (s : State) (p : HostReq → Bool) (m : BitVec 8) (hm : s.memOk) : (State.blame s p m).memOk := hm

@[simp] theorem poisonOverflow_pending (s : State) :
    (State.poisonOverflow s).pending = s.pending := by simp [State.poisonOverflow]

@[simp] theorem poisonOverflow_memOk (s : State) (hm : s.memOk) :
    (State.poisonOverflow s).memOk := by simp +contextual (maxDischargeDepth := 19) [State.poisonOverflow, hm]

@[simp] theorem poisonOne_pending (s : State) (src : PoisonSource) (a : Nat) :
    (State.poisonOne s src a).pending = s.pending := by simp [State.poisonOne]

@[simp] theorem poisonOne_memOk (s : State) (src : PoisonSource) (a : Nat) (hm : s.memOk) :
    (State.poisonOne s src a).memOk := by simp [State.poisonOne, hm]

@[simp] theorem clearOne_pending (s : State) (a : Nat) :
    (State.clearOne s a).pending = s.pending := by simp [State.clearOne]

@[simp] theorem clearOne_memOk (s : State) (a : Nat) (hm : s.memOk) :
    (State.clearOne s a).memOk := by simp +contextual (maxDischargeDepth := 19) [State.clearOne, hm]

@[simp] theorem poisonPage_pending (s : State) (src : PoisonSource) (lpn : Nat) (m : BitVec 64) :
    (State.poisonPage s src lpn m).pending = s.pending := by simp [State.poisonPage]

@[simp] theorem poisonPage_memOk (s : State) (src : PoisonSource) (lpn : Nat) (m : BitVec 64) (hm : s.memOk) :
    (State.poisonPage s src lpn m).memOk := by simp +contextual (maxDischargeDepth := 19) [State.poisonPage, hm]

@[simp] theorem clearPage_pending (s : State) (lpn : Nat) (m : BitVec 64) :
    (State.clearPage s lpn m).pending = s.pending := by simp [State.clearPage]

@[simp] theorem clearPage_memOk (s : State) (lpn : Nat) (m : BitVec 64) (hm : s.memOk) :
    (State.clearPage s lpn m).memOk := by simp +contextual (maxDischargeDepth := 19) [State.clearPage, hm]

@[simp] theorem setCell_pending (s : State) (c : Nat) (psn : Nat) (w : Codeword) :
    (State.setCell s c psn w).pending = s.pending := by simp [State.setCell]

@[simp] theorem setCell_memOk (s : State) (c : Nat) (psn : Nat) (w : Codeword) (hm : s.memOk) :
    (State.setCell s c psn w).memOk := by simp [State.setCell, hm]

@[simp] theorem macOnly_pending (s : State) (psn : Nat) :
    (State.macOnly s psn).pending = s.pending := by simp [State.macOnly]

@[simp] theorem macOnly_memOk (s : State) (psn : Nat) (hm : s.memOk) :
    (State.macOnly s psn).memOk := by simp +contextual (maxDischargeDepth := 19) [State.macOnly, hm]

@[simp] theorem bwAdd_pending (s : State) (port : Nat) (dir : Nat) (n : Nat) :
    (State.bwAdd s port dir n).pending = s.pending := by simp [State.bwAdd]

@[simp] theorem bwAdd_memOk (s : State) (port : Nat) (dir : Nat) (n : Nat) (hm : s.memOk) :
    (State.bwAdd s port dir n).memOk := by simp [State.bwAdd, hm]

@[simp] theorem beat_pending (s : State) (c : Nat) (k : Nat) (n : Nat) :
    (State.beat s c k n).pending = s.pending := by simp [State.beat]

@[simp] theorem beat_memOk (s : State) (c : Nat) (k : Nat) (n : Nat) (hm : s.memOk) :
    (State.beat s c k n).memOk := by simp [State.beat, hm]

@[simp] theorem beatAll_pending (s : State) (cs : List Nat) (k : Nat) :
    (State.beatAll s cs k).pending = s.pending := by simp [State.beatAll]

@[simp] theorem beatAll_memOk (s : State) (cs : List Nat) (k : Nat) (hm : s.memOk) :
    (State.beatAll s cs k).memOk := by simp +contextual (maxDischargeDepth := 19) [State.beatAll, hm]

@[simp] theorem pwrTo_pending (s : State) (new : Nat) (cause : Nat) :
    (State.pwrTo s new cause).pending = s.pending := by simp [State.pwrTo]

@[simp] theorem pwrTo_memOk (s : State) (new : Nat) (cause : Nat) (hm : s.memOk) :
    (State.pwrTo s new cause).memOk := by simp +contextual (maxDischargeDepth := 19) [State.pwrTo, hm]

@[simp] theorem sample_pending (s : State) (h : Nat) :
    (State.sample s h).1.pending = s.pending := by
  simp only [State.sample]; (repeat' split) <;> simp

@[simp] theorem sample_memOk (s : State) (h : Nat) (hm : s.memOk) :
    (State.sample s h).1.memOk := by
  simp only [State.sample]; (repeat' split) <;> simp +contextual (maxDischargeDepth := 19) [hm]

@[simp] theorem measure_pending (s : State) (h : Nat) (r : HostReq) (atCommit : Bool) :
    (State.measure s h r atCommit).pending = s.pending := by simp [State.measure]

@[simp] theorem measure_memOk (s : State) (h : Nat) (r : HostReq) (atCommit : Bool) (hm : s.memOk) :
    (State.measure s h r atCommit).memOk := by simp +contextual (maxDischargeDepth := 19) [State.measure, hm]

@[simp] theorem sampleRecord_pending (s : State) (h : Nat) (r : HostReq) (bad : Bool) :
    (State.sampleRecord s h r bad).pending = s.pending := by simp [State.sampleRecord]

@[simp] theorem sampleRecord_memOk (s : State) (h : Nat) (r : HostReq) (bad : Bool) (hm : s.memOk) :
    (State.sampleRecord s h r bad).memOk := by simp +contextual (maxDischargeDepth := 19) [State.sampleRecord, hm]

@[simp] theorem hostSend_pending (s : State) (h : Nat) (o : Output) :
    (State.hostSend s h o).pending = s.pending := by simp [State.hostSend]

@[simp] theorem hostSend_memOk (s : State) (h : Nat) (o : Output) (hm : s.memOk) :
    (State.hostSend s h o).memOk := by simp [State.hostSend, hm]

@[simp] theorem hostReply_pending (s : State) (r : HostReq) (h : Nat) (o : Output) :
    (State.hostReply s r h o).pending = s.pending := by simp [State.hostReply]

@[simp] theorem hostReply_memOk (s : State) (r : HostReq) (h : Nat) (o : Output) (hm : s.memOk) :
    (State.hostReply s r h o).memOk := by simp [State.hostReply, hm]

@[simp] theorem respondRead_pending (s : State) (r : HostReq) (data : Sector) (poison : Bool) :
    (State.respondRead s r data poison).pending = s.pending := by
  unfold State.respondRead; split <;> simp

@[simp] theorem respondRead_memOk (s : State) (r : HostReq) (data : Sector) (poison : Bool) (hm : s.memOk) :
    (State.respondRead s r data poison).memOk := by
  unfold State.respondRead; split <;> simp +contextual (maxDischargeDepth := 19) [hm]

@[simp] theorem ferry_pending (s : State) (kind : Nat) (fields : List Nat) (payload : List (BitVec 8)) :
    (State.ferry s kind fields payload).pending = s.pending := by simp [State.ferry]

@[simp] theorem ferry_memOk (s : State) (kind : Nat) (fields : List Nat) (payload : List (BitVec 8)) (hm : s.memOk) :
    (State.ferry s kind fields payload).memOk := by simp +contextual (maxDischargeDepth := 19) [State.ferry, hm]

@[simp] theorem mirrorDurable_pending (s : State) (w : Nat) (i : Nat) :
    (State.mirrorDurable s w i).pending = s.pending := by simp [State.mirrorDurable]

@[simp] theorem mirrorDurable_memOk (s : State) (w : Nat) (i : Nat) (hm : s.memOk) :
    (State.mirrorDurable s w i).memOk := by simp +contextual (maxDischargeDepth := 19) [State.mirrorDurable, hm]

@[simp] theorem mirrorApplied_pending (s : State) (w : Nat) (i : Nat) :
    (State.mirrorApplied s w i).pending = s.pending := by simp [State.mirrorApplied]

@[simp] theorem mirrorApplied_memOk (s : State) (w : Nat) (i : Nat) (hm : s.memOk) :
    (State.mirrorApplied s w i).memOk := by simp [State.mirrorApplied, hm]

@[simp] theorem resyncAnswer_pending (s : State) :
    (State.resyncAnswer s).pending = s.pending := by simp [State.resyncAnswer]

@[simp] theorem resyncAnswer_memOk (s : State) (hm : s.memOk) :
    (State.resyncAnswer s).memOk := by simp +contextual (maxDischargeDepth := 19) [State.resyncAnswer, hm]

@[simp] theorem pageDurable_pending (s : State) (lpn : Nat) (i : Nat) :
    (State.pageDurable s lpn i).pending = s.pending := by simp [State.pageDurable]

@[simp] theorem pageDurable_memOk (s : State) (lpn : Nat) (i : Nat) (hm : s.memOk) :
    (State.pageDurable s lpn i).memOk := by simp [State.pageDurable, hm]

@[simp] theorem respondWrite_pending (s : State) (r : HostReq) (atCommit : Bool) :
    (State.respondWrite s r atCommit).pending = s.pending := by
  unfold State.respondWrite; split <;> simp

@[simp] theorem respondWrite_memOk (s : State) (r : HostReq) (atCommit : Bool) (hm : s.memOk) :
    (State.respondWrite s r atCommit).memOk := by
  unfold State.respondWrite; split <;> simp +contextual (maxDischargeDepth := 19) [hm]

@[simp] theorem writeDone_pending (s : State) (r : HostReq) (atCommit : Bool) :
    (State.writeDone s r atCommit).pending = s.pending := by simp [State.writeDone]

@[simp] theorem writeDone_memOk (s : State) (r : HostReq) (atCommit : Bool) (hm : s.memOk) :
    (State.writeDone s r atCommit).memOk := by simp [State.writeDone, hm]

@[simp] theorem accepted_pending (s : State) (r : HostReq) :
    (State.accepted s r).pending = s.pending := by
  unfold State.accepted; split <;> simp

@[simp] theorem accepted_memOk (s : State) (r : HostReq) (hm : s.memOk) :
    (State.accepted s r).memOk := by
  unfold State.accepted; split <;> simp +contextual (maxDischargeDepth := 19) [hm]

@[simp] theorem mirrorSendOne_pending (s : State) (m : MirrorWrite) :
    (State.mirrorSendOne s m).pending = s.pending := by simp [State.mirrorSendOne]

@[simp] theorem mirrorSendOne_memOk (s : State) (m : MirrorWrite) (hm : s.memOk) :
    (State.mirrorSendOne s m).memOk := by simp +contextual (maxDischargeDepth := 19) [State.mirrorSendOne, hm]

@[simp] theorem mirrorSend_pending (s : State) (hold : Bool) :
    (State.mirrorSend s hold).pending = s.pending := by simp [State.mirrorSend]

@[simp] theorem mirrorSend_memOk (s : State) (hold : Bool) (hm : s.memOk) :
    (State.mirrorSend s hold).memOk := by simp +contextual (maxDischargeDepth := 19) [State.mirrorSend, hm]

@[simp] theorem mirrorDue_pending (s : State) :
    (State.mirrorDue s).pending = s.pending := by simp [State.mirrorDue]

@[simp] theorem mirrorDue_memOk (s : State) (hm : s.memOk) :
    (State.mirrorDue s).memOk := by simp +contextual (maxDischargeDepth := 19) [State.mirrorDue, hm]

@[simp] theorem markPage_pending (s : State) (lpn : Nat) :
    (State.markPage s lpn).pending = s.pending := by simp [State.markPage]

@[simp] theorem markPage_memOk (s : State) (lpn : Nat) (hm : s.memOk) :
    (State.markPage s lpn).memOk := by simp [State.markPage, hm]

@[simp] theorem markSpan_pending (s : State) (a b : Nat) :
    (State.markSpan s a b).pending = s.pending := by simp [State.markSpan]

@[simp] theorem markSpan_memOk (s : State) (a b : Nat) (hm : s.memOk) :
    (State.markSpan s a b).memOk := by simp [State.markSpan, hm]

@[simp] theorem mirrorNew_pending (s : State) (r : HostReq) (onMirror : Bool) (sector : Sector) (poison : Bool) (waits : List (HostReq × Option Bool)) :
    (State.mirrorNew s r onMirror sector poison waits).pending = s.pending := by simp [State.mirrorNew]

@[simp] theorem mirrorNew_memOk (s : State) (r : HostReq) (onMirror : Bool) (sector : Sector) (poison : Bool) (waits : List (HostReq × Option Bool)) (hm : s.memOk) :
    (State.mirrorNew s r onMirror sector poison waits).memOk := by simp [State.mirrorNew, hm]

@[simp] theorem mirrorOut_pending (s : State) (r : HostReq) (sector : Sector) (poison : Bool) (onMirror : Bool) :
    (State.mirrorOut s r sector poison onMirror).pending = s.pending := by
  unfold State.mirrorOut; (repeat' split) <;> simp

@[simp] theorem mirrorOut_memOk (s : State) (r : HostReq) (sector : Sector) (poison : Bool) (onMirror : Bool) (hm : s.memOk) :
    (State.mirrorOut s r sector poison onMirror).memOk := by
  unfold State.mirrorOut; (repeat' split) <;> simp +contextual (maxDischargeDepth := 19) [hm]

@[simp] theorem dramPut_pending (s : State) (c : Nat) (x : Nat) (d : Sector) :
    (State.dramPut s c x d).pending = s.pending := by simp [State.dramPut]

@[simp] theorem dramPut_memOk (s : State) (c : Nat) (x : Nat) (d : Sector) (hm : s.memOk) :
    (State.dramPut s c x d).memOk := by simp [State.dramPut, hm]

@[simp] theorem setWay_pending (s : State) (set : Nat) (w : Nat) (v : Way) (alloc : Bool) :
    (State.setWay s set w v alloc).pending = s.pending := by simp [State.setWay]

@[simp] theorem setWay_memOk (s : State) (set w : Nat) (v : Way) (alloc : Bool := false) (hm : s.memOk) :
    (State.setWay s set w v alloc).memOk := by simp +contextual (maxDischargeDepth := 19) [State.setWay, hm]

@[simp] theorem touch_pending (s : State) (set : Nat) (w : Nat) :
    (State.touch s set w).pending = s.pending := by simp [State.touch]

@[simp] theorem touch_memOk (s : State) (set : Nat) (w : Nat) (hm : s.memOk) :
    (State.touch s set w).memOk := by simp [State.touch, hm]

@[simp] theorem writeWay_pending (s : State) (set : Nat) (w : Nat) (i : Nat) (d : Sector) (dirty : Bool) (poison : Bool) :
    (State.writeWay s set w i d dirty poison).pending = s.pending := by simp [State.writeWay]

@[simp] theorem writeWay_memOk (s : State) (set : Nat) (w : Nat) (i : Nat) (d : Sector) (dirty : Bool) (poison : Bool) (hm : s.memOk) :
    (State.writeWay s set w i d dirty poison).memOk := by simp [State.writeWay, hm]

@[simp] theorem modEntry_pending (s : State) (k : Nat) (f : Landing → Landing) :
    (State.modEntry s k f).pending = s.pending := by simp [State.modEntry]

@[simp] theorem modEntry_memOk (s : State) (k : Nat) (f : Landing → Landing) (hm : s.memOk) :
    (State.modEntry s k f).memOk := by simp [State.modEntry, hm]

@[simp] theorem noteDirty_pending (s : State) (n : Nat) :
    (State.noteDirty s n).pending = s.pending := by simp [State.noteDirty]

@[simp] theorem noteDirty_memOk (s : State) (n : Nat) (hm : s.memOk) :
    (State.noteDirty s n).memOk := by simp +contextual (maxDischargeDepth := 19) [State.noteDirty, hm]

@[simp] theorem takeEntry_pending (s : State) (n : Nat) (lpn : Nat) (region : Nat) (evict : Bool) (kind : LKind) :
    (State.takeEntry s n lpn region evict kind).1.pending = s.pending := by simp [State.takeEntry]

@[simp] theorem takeEntry_memOk (s : State) (n : Nat) (lpn : Nat) (region : Nat) (evict : Bool) (kind : LKind) (hm : s.memOk) :
    (State.takeEntry s n lpn region evict kind).1.memOk := by simp +contextual (maxDischargeDepth := 19) [State.takeEntry, hm]

@[simp] theorem fillFromSlice_pending (s : State) (k : Nat) :
    (State.fillFromSlice s k).pending = s.pending := by simp [State.fillFromSlice]

@[simp] theorem fillFromSlice_memOk (s : State) (k : Nat) (hm : s.memOk) :
    (State.fillFromSlice s k).memOk := by simp [State.fillFromSlice, hm]

@[simp] theorem retireBlocked_pending (s : State) (c : Nat) (psn : Nat) :
    (State.retireBlocked s c psn).pending = s.pending := by simp [State.retireBlocked]

@[simp] theorem retireBlocked_memOk (s : State) (c : Nat) (psn : Nat) (hm : s.memOk) :
    (State.retireBlocked s c psn).memOk := by simp +contextual (maxDischargeDepth := 19) [State.retireBlocked, hm]

@[simp] theorem retire_pending (s : State) (c : Nat) (psn : Nat) :
    (State.retire s c psn).pending = s.pending := by simp [State.retire]

@[simp] theorem retire_memOk (s : State) (c : Nat) (psn : Nat) (hm : s.memOk) :
    (State.retire s c psn).memOk := by simp +contextual (maxDischargeDepth := 19) [State.retire, hm]

@[simp] theorem watchStripe_pending (s : State) (c : Nat) (psn : Nat) (pos : Nat) (bad : Bool) :
    (State.watchStripe s c psn pos bad).pending = s.pending := by
  simp only [State.watchStripe]; (repeat' split) <;> simp

@[simp] theorem watchStripe_memOk (s : State) (c : Nat) (psn : Nat) (pos : Nat) (bad : Bool) (hm : s.memOk) :
    (State.watchStripe s c psn pos bad).memOk := by
  simp only [State.watchStripe]; (repeat' split) <;> simp +contextual (maxDischargeDepth := 19) [hm]

@[simp] theorem weakCw_pending (s : State) (c : Nat) (psn : Nat) (pos : Nat) :
    (State.weakCw s c psn pos).pending = s.pending := by
  unfold State.weakCw; split <;> simp

@[simp] theorem weakCw_memOk (s : State) (c : Nat) (psn : Nat) (pos : Nat) (hm : s.memOk) :
    (State.weakCw s c psn pos).memOk := by
  unfold State.weakCw; split <;> simp +contextual (maxDischargeDepth := 19) [hm]

@[simp] theorem soundCw_pending (s : State) (c psn : Nat) :
    (State.soundCw s c psn).pending = s.pending := by simp [State.soundCw]

@[simp] theorem soundCw_memOk (s : State) (c psn : Nat) (hm : s.memOk) :
    (State.soundCw s c psn).memOk := by simp +contextual (maxDischargeDepth := 19) [State.soundCw, hm]

@[simp] theorem cwRewritten_pending (s : State) (c psn : Nat) :
    (State.cwRewritten s c psn).pending = s.pending := by simp [State.cwRewritten]

@[simp] theorem cwRewritten_memOk (s : State) (c psn : Nat) (hm : s.memOk) :
    (State.cwRewritten s c psn).memOk := by simp +contextual (maxDischargeDepth := 19) [State.cwRewritten, hm]

@[simp] theorem oweRewrite_pending (s : State) (kind : RewriteKind) (c : Nat) (psn : Nat) (w : Codeword) :
    (State.oweRewrite s kind c psn w).pending = s.pending := by simp [State.oweRewrite]

@[simp] theorem oweRewrite_memOk (s : State) (kind : RewriteKind) (c : Nat) (psn : Nat) (w : Codeword) (hm : s.memOk) :
    (State.oweRewrite s kind c psn w).memOk := by simp [State.oweRewrite, hm]

@[simp] theorem uncorrectable_pending (s : State) (psn : Nat) (pos : Nat) (reader : Nat) (poisoned : BitVec 4) :
    (State.uncorrectable s psn pos reader poisoned).pending = s.pending := by simp [State.uncorrectable]

@[simp] theorem uncorrectable_memOk (s : State) (psn : Nat) (pos : Nat) (reader : Nat) (poisoned : BitVec 4) (hm : s.memOk) :
    (State.uncorrectable s psn pos reader poisoned).memOk := by simp [State.uncorrectable, hm]

@[simp] theorem askPage_pending (s : State) (lpn : Nat) :
    (State.askPage s lpn).pending = s.pending := by simp [State.askPage]

@[simp] theorem askPage_memOk (s : State) (lpn : Nat) (hm : s.memOk) :
    (State.askPage s lpn).memOk := by simp [State.askPage, hm]

@[simp] theorem askPeer_pending (s : State) (lpn : Nat) (js : List Nat) :
    (State.askPeer s lpn js).pending = s.pending := by simp [State.askPeer]

@[simp] theorem askPeer_memOk (s : State) (lpn : Nat) (js : List Nat) (hm : s.memOk) :
    (State.askPeer s lpn js).memOk := by simp [State.askPeer, hm]

@[simp] theorem ladderEnd_pending (s : State) (m : MediaRead) :
    (State.ladderEnd s m).pending = s.pending := by simp [State.ladderEnd]

@[simp] theorem ladderEnd_memOk (s : State) (m : MediaRead) (hm : s.memOk) :
    (State.ladderEnd s m).memOk := by simp +contextual (maxDischargeDepth := 19) [State.ladderEnd, hm]

@[simp] theorem unserved_pending (s : State) (m : MediaRead) :
    (State.unserved s m).pending = s.pending := by simp [State.unserved]

@[simp] theorem unserved_memOk (s : State) (m : MediaRead) (hm : s.memOk) :
    (State.unserved s m).memOk := by simp +contextual (maxDischargeDepth := 19) [State.unserved, hm]

@[simp] theorem queueRead_pending (s : State) (m : MediaRead) :
    (State.queueRead s m).pending = s.pending := by simp [State.queueRead]

@[simp] theorem queueRead_memOk (s : State) (m : MediaRead) (hm : s.memOk) :
    (State.queueRead s m).memOk := by simp +contextual (maxDischargeDepth := 19) [State.queueRead, hm]

@[simp] theorem translates_pending (s : State) (lpn : Nat) (n : Nat) :
    (State.translates s lpn n).pending = s.pending := by simp [State.translates]

@[simp] theorem translates_memOk (s : State) (lpn : Nat) (n : Nat) (hm : s.memOk) :
    (State.translates s lpn n).memOk := by simp [State.translates, hm]

@[simp] theorem mergeReads_pending (s : State) (k : Nat) :
    (State.mergeReads s k).pending = s.pending := by simp [State.mergeReads]

@[simp] theorem mergeReads_memOk (s : State) (k : Nat) (hm : s.memOk) :
    (State.mergeReads s k).memOk := by simp +contextual (maxDischargeDepth := 19) [State.mergeReads, hm]

@[simp] theorem copyOut_pending (s : State) (set : Nat) (w : Nat) (evict : Bool) (kind : LKind) :
    (State.copyOut s set w evict kind).1.pending = s.pending := by simp [State.copyOut]

@[simp] theorem copyOut_memOk (s : State) (set : Nat) (w : Nat) (evict : Bool) (kind : LKind) (hm : s.memOk) :
    (State.copyOut s set w evict kind).1.memOk := by simp +contextual (maxDischargeDepth := 19) [State.copyOut, hm]

@[simp] theorem noteMerge_pending (s : State) (k : Nat) :
    (State.noteMerge s k).pending = s.pending := by simp [State.noteMerge]

@[simp] theorem noteMerge_memOk (s : State) (k : Nat) (hm : s.memOk) :
    (State.noteMerge s k).memOk := by simp +contextual (maxDischargeDepth := 19) [State.noteMerge, hm]

@[simp] theorem dramUncorrectable_pending (s : State) (c u x lpn sector st : Nat) :
    (State.dramUncorrectable s c u x lpn sector st).pending = s.pending := by simp [State.dramUncorrectable]

@[simp] theorem dramUncorrectable_memOk (s : State) (c u x lpn sector st : Nat) (hm : s.memOk) :
    (State.dramUncorrectable s c u x lpn sector st).memOk := by simp +contextual (maxDischargeDepth := 19) [State.dramUncorrectable, hm]

end Sys2Proof.Machine
end

