-- ==== Sys2Proof/Laws/Keep/Sched.lean ====
section
/-!
SUPPORT. What each operation of Machine/Sched.lean keeps: the queue of commands, and the canonical form of the memories.
-/
namespace Sys2Proof.Machine

@[simp] theorem settleRow_pending (s : State) (psn : Nat) (cs : List Nat) (t : Nat) :
    (State.settleRow s psn cs t).pending = s.pending := by simp [State.settleRow]

@[simp] theorem settleRow_memOk (s : State) (psn : Nat) (cs : List Nat) (t : Nat) (hm : s.memOk) :
    (State.settleRow s psn cs t).memOk := by simp +contextual (maxDischargeDepth := 19) [State.settleRow, hm]

end Sys2Proof.Machine
end

