-- ==== Sys2Proof/Laws/Keep/HostMem.lean ====
section
/-!
SUPPORT. What each operation of Machine/HostMem.lean keeps: the queue of commands, and the canonical form of the memories.
-/
namespace Sys2Proof.Machine

@[simp] theorem lockedAccess_pending (s : State) (h : Nat) (write : Bool) :
    (State.lockedAccess s h write).pending = s.pending := by simp [State.lockedAccess]

@[simp] theorem lockedAccess_memOk (s : State) (h : Nat) (write : Bool) (hm : s.memOk) :
    (State.lockedAccess s h write).memOk := by simp [State.lockedAccess, hm]

@[simp] theorem evictWay_pending (s : State) (set : Nat) (w : Nat) :
    (State.evictWay s set w).1.pending = s.pending := by
  simp only [State.evictWay]; (repeat' split) <;> simp

@[simp] theorem evictWay_memOk (s : State) (set : Nat) (w : Nat) (hm : s.memOk) :
    (State.evictWay s set w).1.memOk := by
  simp only [State.evictWay]; (repeat' split) <;> simp +contextual (maxDischargeDepth := 19) [hm]

@[simp] theorem allocWay_pending (s : State) (set : Nat) (w : Nat) (lpn : Nat) (region : Nat) :
    (State.allocWay s set w lpn region).1.pending = s.pending := by simp [State.allocWay]

@[simp] theorem allocWay_memOk (s : State) (set : Nat) (w : Nat) (lpn : Nat) (region : Nat) (hm : s.memOk) :
    (State.allocWay s set w lpn region).1.memOk := by simp +contextual (maxDischargeDepth := 19) [State.allocWay, hm]

@[simp] theorem allocChosen_pending (s : State) (c : Option (Nat × Bool)) (set : Nat) (lpn : Nat) (region : Nat) :
    (State.allocChosen s c set lpn region).pending = s.pending := by
  unfold State.allocChosen; split <;> simp

@[simp] theorem allocChosen_memOk (s : State) (c : Option (Nat × Bool)) (set : Nat) (lpn : Nat) (region : Nat) (hm : s.memOk) :
    (State.allocChosen s c set lpn region).memOk := by
  unfold State.allocChosen; split <;> simp +contextual (maxDischargeDepth := 19) [hm]

theorem startRead_some {s t : State} {r : HostReq} {j : Nat} {kind : ReadKind} {way entry after : Option Nat}
    (h : s.startRead r j kind way entry after = some t) : t.pending = s.pending ∧ (s.memOk → t.memOk) := by
  simp only [State.startRead] at h
  split at h
  · cases h
  split at h
  · cases h
    exact ⟨by simp, fun hm => by simp +contextual (maxDischargeDepth := 19) [hm]⟩
  · obtain ⟨v, -, rfl⟩ := Option.map_eq_some_iff.1 h
    exact ⟨by simp, fun hm => by simp +contextual (maxDischargeDepth := 19) [hm]⟩

theorem joinRead_some {s t : State} {r : HostReq} {j : Nat} {way after : Option Nat}
    (h : s.joinRead r j way after = some (some t)) :
    t.pending = s.pending ∧ (s.memOk → t.memOk) := by
  simp only [State.joinRead] at h
  split at h
  · cases h
  · split at h
    · cases h
      exact ⟨rfl, id⟩
    · cases h

theorem blockRead_some {s t : State} {r : HostReq} {j : Nat} {way entry after : Option Nat}
    (h : s.blockRead r j way entry after = some t) : t.pending = s.pending ∧ (s.memOk → t.memOk) := by
  unfold State.blockRead at h
  split at h
  · subst h
    exact joinRead_some ‹_›
  · exact startRead_some h

/-- A block read over a state that keeps, with what is noted after it. -/
theorem blockRead_map_some {s₀ s t : State} {f : State → State} {r : HostReq} {j : Nat} {way entry after : Option Nat}
    (h : (s.blockRead r j way entry after).map f = some t) (hp : s.pending = s₀.pending) (hm : s₀.memOk → s.memOk)
    (fp : ∀ u, (f u).pending = u.pending) (fm : ∀ u, State.memOk u → (f u).memOk) :
    t.pending = s₀.pending ∧ (s₀.memOk → t.memOk) := by
  obtain ⟨u, hu, rfl⟩ := Option.map_eq_some_iff.1 h
  have k := blockRead_some hu
  exact ⟨by rw [fp, k.1, hp], fun h0 => fm u (k.2 (hm h0))⟩

theorem admitHit_some {s : State} {q : HostReq} {set : Nat} {w : Nat} {i : Nat} {t : State} (h : State.admitHit s q set w i = some t) :
    t.pending = s.pending ∧ (s.memOk → t.memOk) := by
  simp only [State.admitHit] at h
  (repeat' split at h) <;> first | (cases h; done) | (cases h; exact ⟨by simp, fun hm => by simp +contextual (maxDischargeDepth := 19) [hm]⟩)

theorem admitMiss_some {s t : State} {r q : HostReq} (h : s.admitMiss r q = some t) :
    t.pending = s.pending ∧ (s.memOk → t.memOk) := by
  simp only [State.admitMiss] at h
  split at h
  · cases h
    exact ⟨by simp, fun hm => by simp [hm]⟩
  split at h
  · exact blockRead_some h
  split at h
  · exact blockRead_map_some h rfl id (by simp) fun _ hu => by simp [hu]
  · obtain ⟨c, -, h⟩ := Option.bind_eq_some_iff.1 h
    exact blockRead_map_some h (by simp) (by simp +contextual (maxDischargeDepth := 19)) (by simp) fun _ hu => by simp [hu]

theorem admitRead_some {s t : State} {r : HostReq} (h : s.admitRead r = some t) :
    t.pending = s.pending ∧ (s.memOk → t.memOk) := by
  simp only [State.admitRead] at h
  split at h
  · exact admitHit_some h
  split at h
  · split at h
    · cases h
      exact ⟨by simp, fun hm => by simp [hm]⟩
    · cases h
  · exact admitMiss_some h

@[simp] theorem notePoison_pending (s : State) (o : Origin) (lpn : Nat) (i : Nat) (poison : Bool) (whole : Bool) :
    (State.notePoison s o lpn i poison whole).pending = s.pending := by simp [State.notePoison]

@[simp] theorem notePoison_memOk (s : State) (o : Origin) (lpn : Nat) (i : Nat) (poison : Bool) (whole : Bool) (hm : s.memOk) :
    (State.notePoison s o lpn i poison whole).memOk := by simp +contextual (maxDischargeDepth := 19) [State.notePoison, hm]

@[simp] theorem putEntry_pending (s : State) (r : HostReq) (d : Sector) (p : Bool) :
    (State.putEntry s r d p).1.pending = s.pending := by
  simp only [State.putEntry]; (repeat' split) <;> simp

@[simp] theorem putEntry_memOk (s : State) (r : HostReq) (d : Sector) (p : Bool) (hm : s.memOk) :
    (State.putEntry s r d p).1.memOk := by
  simp only [State.putEntry]; (repeat' split) <;> simp +contextual (maxDischargeDepth := 19) [hm]

@[simp] theorem forget_pending (s : State) (set w i : Nat) :
    (State.forget s set w i).pending = s.pending := by simp [State.forget]

@[simp] theorem forget_memOk (s : State) (set w i : Nat) (hm : s.memOk) :
    (State.forget s set w i).memOk := by simp +contextual (maxDischargeDepth := 19) [State.forget, hm]

@[simp] theorem placeWrite_pending (s : State) (r : HostReq) (q : HostReq) (d : Sector) (p : Bool) (whole : Bool) (w : Option Nat) (carry : Bool) (merge : Bool) (mirror : Bool) (om : Bool) :
    (State.placeWrite s r q d p whole w carry merge mirror om).pending = s.pending := by
  unfold State.placeWrite; split <;> simp

@[simp] theorem placeWrite_memOk (s : State) (r : HostReq) (q : HostReq) (d : Sector) (p : Bool) (whole : Bool) (w : Option Nat) (carry : Bool) (merge : Bool) (mirror : Bool) (om : Bool) (hm : s.memOk) :
    (State.placeWrite s r q d p whole w carry merge mirror om).memOk := by
  unfold State.placeWrite; split <;> simp +contextual (maxDischargeDepth := 19) [hm]

theorem writeSector_some {s : State} {r : HostReq} {d : Sector} {p : Bool} {whole : Bool} {t : State} (h : State.writeSector s r d p whole = some t) :
    t.pending = s.pending ∧ (s.memOk → t.memOk) := by
  simp only [State.writeSector] at h
  (repeat' split at h) <;> first | (cases h; done) | (cases h; exact ⟨by simp, fun hm => by simp +contextual (maxDischargeDepth := 19) [hm]⟩)

theorem reserveEntry_keeps (s : State) (q : HostReq) (carry : Bool) :
    (s.reserveEntry q carry).1.pending = s.pending ∧ (s.memOk → (s.reserveEntry q carry).1.memOk) := by
  simp only [State.reserveEntry]
  (repeat' split) <;> exact ⟨by simp, fun hm => by simp +contextual (maxDischargeDepth := 19) [hm]⟩

theorem mergeRead_some {s t : State} {q : HostReq} {alloc : Bool} {entry : Option Nat}
    (h : s.mergeRead q alloc entry = some t) : t.pending = s.pending ∧ (s.memOk → t.memOk) := by
  simp only [State.mergeRead] at h
  split at h
  · split at h
    · cases h
    split at h
    · exact blockRead_some h
    · exact blockRead_map_some h rfl id (by simp) fun _ hu => by simp [hu]
  split at h
  · obtain ⟨c, -, h⟩ := Option.bind_eq_some_iff.1 h
    split at h
    · exact blockRead_map_some h (by simp) (by simp +contextual (maxDischargeDepth := 19)) (by simp) fun _ hu => by simp [hu]
    · cases h
  · exact blockRead_some h

theorem admitWrite_some {s t : State} {r : HostReq} (h : s.admitWrite r = some t) :
    t.pending = s.pending ∧ (s.memOk → t.memOk) := by
  unfold State.admitWrite at h
  extract_lets at h
  split at h
  · split at h
    · exact writeSector_some h
    · split at h
      · cases h
      · have k := mergeRead_some h
        exact ⟨k.1.trans (reserveEntry_keeps s _ _).1, fun hm => k.2 ((reserveEntry_keeps s _ _).2 hm)⟩
  · exact writeSector_some h

theorem tryAdmit_some {s t : State} {r : HostReq} (h : s.tryAdmit r = some t) :
    t.pending = s.pending ∧ (s.memOk → t.memOk) := by
  unfold State.tryAdmit at h
  split at h
  · cases h
  · split at h
    · exact admitRead_some h
    · exact admitWrite_some h

@[simp] theorem noteAdmit_pending (s : State) (r : HostReq) :
    (State.noteAdmit s r).1.pending = s.pending := by
  unfold State.noteAdmit; split <;> simp

@[simp] theorem noteAdmit_memOk (s : State) (r : HostReq) (hm : s.memOk) :
    (State.noteAdmit s r).1.memOk := by
  unfold State.noteAdmit; split <;> simp +contextual (maxDischargeDepth := 19) [hm]

@[simp] theorem submit_pending (s : State) (r : HostReq) :
    (State.submit s r).pending = s.pending := by
  simp only [State.submit]
  split
  · rename_i h
    split at h
    · cases h
    · exact (tryAdmit_some h).1.trans (by simp)
  · split <;> simp

@[simp] theorem submit_memOk (s : State) (r : HostReq) (hm : s.memOk) :
    (State.submit s r).memOk := by
  simp only [State.submit]
  split
  · rename_i h
    split at h
    · cases h
    · exact (tryAdmit_some h).2 (by simp [hm])
  · split <;> simp +contextual (maxDischargeDepth := 19) [hm]

@[simp] theorem answerWindow_pending (s : State) (r : HostReq) (h : Nat) (tag : Nat) (dpa : Nat) :
    (State.answerWindow s r h tag dpa).pending = s.pending := by simp [State.answerWindow]

@[simp] theorem answerWindow_memOk (s : State) (r : HostReq) (h : Nat) (tag : Nat) (dpa : Nat) (hm : s.memOk) :
    (State.answerWindow s r h tag dpa).memOk := by simp +contextual (maxDischargeDepth := 19) [State.answerWindow, hm]

@[simp] theorem turnAway_pending (s : State) (r : HostReq) :
    (State.turnAway s r).pending = s.pending := by
  unfold State.turnAway; split <;> simp

@[simp] theorem turnAway_memOk (s : State) (r : HostReq) (hm : s.memOk) :
    (State.turnAway s r).memOk := by
  unfold State.turnAway; split <;> simp +contextual (maxDischargeDepth := 19) [hm]

@[simp] theorem takeReq_pending (s : State) (h : Fin 2) (tag : Nat) (hpa : Nat) (kind : ReqKind) (data : Sector) (be : BitVec 64) (poison : Bool) (recv : Nat) (causes : BitVec 8) :
    (State.takeReq s h tag hpa kind data be poison recv causes).pending = s.pending := by
  unfold State.takeReq; split <;> simp

@[simp] theorem takeReq_memOk (s : State) (h : Fin 2) (tag : Nat) (hpa : Nat) (kind : ReqKind) (data : Sector) (be : BitVec 64) (poison : Bool) (recv : Nat) (causes : BitVec 8) (hm : s.memOk) :
    (State.takeReq s h tag hpa kind data be poison recv causes).memOk := by
  unfold State.takeReq
  extract_lets _ _ s0 _ _ _ _ _ s1
  have k : s1.memOk := by simp [s1, s0, hm]
  clear_value s1
  (repeat' split) <;> simp [k]

@[simp] theorem takePage_pending (s : State) (h : Fin 2) (tag off recv : Nat) (causes : BitVec 8) :
    (State.takePage s h tag off recv causes).pending = s.pending := by simp [State.takePage]

@[simp] theorem takePage_memOk (s : State) (h : Fin 2) (tag off recv : Nat) (causes : BitVec 8) (hm : s.memOk) :
    (State.takePage s h tag off recv causes).memOk := by simp +contextual (maxDischargeDepth := 19) [State.takePage, hm]

@[simp] theorem takeHeld_pending (s : State) (h : Fin 2) (q : HeldReq) (causes : BitVec 8) :
    (State.takeHeld s h q causes).pending = s.pending := by unfold State.takeHeld; split <;> simp

@[simp] theorem takeHeld_memOk (s : State) (h : Fin 2) (q : HeldReq) (causes : BitVec 8) (hm : s.memOk) :
    (State.takeHeld s h q causes).memOk := by unfold State.takeHeld; split <;> simp [hm]

@[simp] theorem receive_pending (s0 : State) (h : Fin 2) (q : HeldReq) :
    (State.receive s0 h q).pending = s0.pending := by simp [State.receive]

@[simp] theorem receive_memOk (s0 : State) (h : Fin 2) (q : HeldReq) (hm : s0.memOk) :
    (State.receive s0 h q).memOk := by simp +contextual (maxDischargeDepth := 19) [State.receive, hm]

@[simp] theorem fillWay_pending (s : State) (m : MediaRead) (set w : Nat) :
    (State.fillWay s m set w).pending = s.pending := by
  simp only [State.fillWay]
  repeat' (first | split | refine (foldl_pending _ (fun _ _ => ?_) _ _).trans ?_ | refine (gate_pending _ _ _ fun _ => ?_).trans ?_)
  all_goals simp

@[simp] theorem fillWay_memOk (s : State) (m : MediaRead) (set w : Nat) (hm : s.memOk) :
    (State.fillWay s m set w).memOk := by
  unfold State.fillWay
  refine foldl_memOk _ (fun x k hx => ?_) _ _ hm
  simp only
  split
  · exact hx
  · split <;> simp [hx]

@[simp] theorem fillEntry_pending (s : State) (m : MediaRead) (k : Nat) :
    (State.fillEntry s m k).pending = s.pending := by simp [State.fillEntry]

@[simp] theorem fillEntry_memOk (s : State) (m : MediaRead) (k : Nat) (hm : s.memOk) :
    (State.fillEntry s m k).memOk := by simp +contextual (maxDischargeDepth := 19) [State.fillEntry, hm]

@[simp] theorem mergeInto_pending (s : State) (k i : Nat) (d : Sector) (p : Bool) (q : HostReq) :
    (State.mergeInto s k i d p q).pending = s.pending := by simp [State.mergeInto]

@[simp] theorem mergeInto_memOk (s : State) (k i : Nat) (d : Sector) (p : Bool) (q : HostReq) (hm : s.memOk) :
    (State.mergeInto s k i d p q).memOk := by simp +contextual (maxDischargeDepth := 19) [State.mergeInto, hm]

@[simp] theorem mergePlace_pending (s : State) (way entry : Option Nat) (i : Nat) (d : Sector) (p carry : Bool) (q : HostReq) :
    (State.mergePlace s way entry i d p carry q).pending = s.pending := by
  unfold State.mergePlace; (repeat' split) <;> simp

@[simp] theorem mergePlace_memOk (s : State) (way entry : Option Nat) (i : Nat) (d : Sector) (p carry : Bool) (q : HostReq)
    (hm : s.memOk) : (State.mergePlace s way entry i d p carry q).memOk := by
  unfold State.mergePlace; (repeat' split) <;> simp [hm]

@[simp] theorem mergeJoined_pending (s : State) (m : MediaRead) (r : HostReq) :
    (State.mergeJoined s m r).pending = s.pending := by
  unfold State.mergeJoined
  extract_lets i set n old p d q opn carry way om src s1 s3 s4
  have k : s4.pending = s.pending := by simp [s4, s3, s1]
  clear_value s4
  split
  · rfl
  · split <;> simp [k]

@[simp] theorem mergeJoined_memOk (s : State) (m : MediaRead) (r : HostReq) (hm : s.memOk) :
    (State.mergeJoined s m r).memOk := by
  unfold State.mergeJoined
  extract_lets i set n old p d q opn carry way om src s1 s3 s4
  have k : s4.memOk := by simp +contextual (maxDischargeDepth := 19) [s4, s3, s1, hm]
  clear_value s4
  split
  · simp [hm]
  · split <;> simp [k]

@[simp] theorem fillPlaces_pending (s : State) (m : MediaRead) :
    (State.fillPlaces s m).pending = s.pending := by
  simp only [State.fillPlaces]; (repeat' split) <;> simp

@[simp] theorem fillPlaces_memOk (s : State) (m : MediaRead) (hm : s.memOk) :
    (State.fillPlaces s m).memOk := by
  simp only [State.fillPlaces]; (repeat' split) <;> simp +contextual (maxDischargeDepth := 19) [hm]

@[simp] theorem serveJoined_pending (s : State) (m : MediaRead) (r : HostReq) :
    (State.serveJoined s m r).pending = s.pending := by
  unfold State.serveJoined; split <;> simp

@[simp] theorem serveJoined_memOk (s : State) (m : MediaRead) (r : HostReq) (hm : s.memOk) :
    (State.serveJoined s m r).memOk := by
  unfold State.serveJoined; split <;> simp +contextual (maxDischargeDepth := 19) [hm]

@[simp] theorem mergeMore_pending (s : State) (n : Nat) :
    (State.mergeMore s n).pending = s.pending := by simp [State.mergeMore]

@[simp] theorem mergeMore_memOk (s : State) (n : Nat) (hm : s.memOk) :
    (State.mergeMore s n).memOk := by simp +contextual (maxDischargeDepth := 19) [State.mergeMore, hm]

@[simp] theorem fillEnd_pending (s : State) (m : MediaRead) (bad : BitVec 64) :
    (State.fillEnd s m bad).pending = s.pending := by simp [State.fillEnd]

@[simp] theorem fillEnd_memOk (s : State) (m : MediaRead) (bad : BitVec 64) (hm : s.memOk) :
    (State.fillEnd s m bad).memOk := by simp +contextual (maxDischargeDepth := 19) [State.fillEnd, hm]

@[simp] theorem fillTell_pending (s : State) (m : MediaRead) (bad : BitVec 64) :
    (State.fillTell s m bad).pending = s.pending := by simp [State.fillTell]

@[simp] theorem fillTell_memOk (s : State) (m : MediaRead) (bad : BitVec 64) (hm : s.memOk) :
    (State.fillTell s m bad).memOk := by simp +contextual (maxDischargeDepth := 19) [State.fillTell, hm]

@[simp] theorem fill_pending (s : State) (m : MediaRead) :
    (State.fill s m).pending = s.pending := by simp [State.fill]

@[simp] theorem fill_memOk (s : State) (m : MediaRead) (hm : s.memOk) :
    (State.fill s m).memOk := by simp +contextual (maxDischargeDepth := 19) [State.fill, hm]

@[simp] theorem forward_pending (s : State) (m : MediaRead) :
    (State.forward s m).pending = s.pending := by simp [State.forward]

@[simp] theorem forward_memOk (s : State) (m : MediaRead) (hm : s.memOk) :
    (State.forward s m).memOk := by simp +contextual (maxDischargeDepth := 19) [State.forward, hm]

@[simp] theorem execMemrd_keeps (cyc : Nat) (head : Fin 2) (tag : Nat) (hpa : Nat) (s : State) :
    Keeps s (execMemrd cyc head tag hpa s) := by simp +contextual (maxDischargeDepth := 19) [execMemrd]

@[simp] theorem execMemwr_keeps (cyc : Nat) (head : Fin 2) (tag : Nat) (hpa : Nat) (data : Sector) (poison : Bool) (s : State) :
    Keeps s (execMemwr cyc head tag hpa data poison s) := by simp +contextual (maxDischargeDepth := 19) [execMemwr]

@[simp] theorem execByteEnableWrite_keeps (cyc : Nat) (head : Fin 2) (tag : Nat) (hpa : Nat) (data : Sector) (be : BitVec 64) (poison : Bool) (s : State) :
    Keeps s (execByteEnableWrite cyc head tag hpa data be poison s) := by simp +contextual (maxDischargeDepth := 19) [execByteEnableWrite]

@[simp] theorem execCommitPageRead_keeps (cyc : Nat) (head : Fin 2) (tag : Nat) (off : Nat) (s0 : State) :
    Keeps s0 (execCommitPageRead cyc head tag off s0) := by simp +contextual (maxDischargeDepth := 19) [execCommitPageRead]

@[simp] theorem execRequestAdmit_keeps (cyc : Nat) (id : Nat) (s0 : State) :
    Keeps s0 (execRequestAdmit cyc id s0) := by
  simp only [execRequestAdmit]
  split
  · exact (keeps_next _ _).2 ⟨by simp, fun hm => by simp [hm]⟩
  · split
    · rename_i h
      split at h
      · cases h
      · have k := tryAdmit_some h
        exact (keeps_next _ _).2 ⟨by simp [k.1], fun hm => k.2 (by simp +contextual (maxDischargeDepth := 19) [hm])⟩
    · exact (keeps_next _ _).2 ⟨by simp, fun hm => by simp [hm]⟩

@[simp] theorem execFillBlock_keeps (cyc : Nat) (id : Nat) (s0 : State) :
    Keeps s0 (execFillBlock cyc id s0) := by
  simp only [execFillBlock]; (repeat' split) <;> simp +contextual (maxDischargeDepth := 19)

@[simp] theorem execVictimMoveDone_keeps (cyc : Nat) (slice : Nat) (entry : Nat) (s0 : State) :
    Keeps s0 (execVictimMoveDone cyc slice entry s0) := by simp +contextual (maxDischargeDepth := 19) [execVictimMoveDone]

end Sys2Proof.Machine
end

