-- ==== Sys2Proof/Laws/Keep/Crossing.lean ====
section
/-!
SUPPORT. What each operation of Machine/Crossing.lean keeps: the queue of commands, and the canonical form of the memories.
-/
namespace Sys2Proof.Machine

@[simp] theorem pendAdd_pending (s : State) (d : Nat) (n : Nat) :
    (State.pendAdd s d n).pending = s.pending := by simp [State.pendAdd]

@[simp] theorem pendAdd_memOk (s : State) (d : Nat) (n : Nat) (hm : s.memOk) :
    (State.pendAdd s d n).memOk := by simp +contextual (maxDischargeDepth := 19) [State.pendAdd, hm]

@[simp] theorem districtAdvance_pending (s : State) (d : Nat) :
    (State.districtAdvance s d).pending = s.pending := by simp [State.districtAdvance]

@[simp] theorem districtAdvance_memOk (s : State) (d : Nat) (hm : s.memOk) :
    (State.districtAdvance s d).memOk := by simp +contextual (maxDischargeDepth := 19) [State.districtAdvance, hm]

@[simp] theorem bandReach_pending (s : State) (c : Nat) (psn : Nat) :
    (State.bandReach s c psn).pending = s.pending := by simp [State.bandReach]

@[simp] theorem bandReach_memOk (s : State) (c : Nat) (psn : Nat) (hm : s.memOk) :
    (State.bandReach s c psn).memOk := by simp [State.bandReach, hm]

@[simp] theorem rebuildPast_pending (s : State) (c psn : Nat) :
    (State.rebuildPast s c psn).pending = s.pending := by simp [State.rebuildPast]

@[simp] theorem rebuildPast_memOk (s : State) (c psn : Nat) (hm : s.memOk) :
    (State.rebuildPast s c psn).memOk := by simp +contextual (maxDischargeDepth := 19) [State.rebuildPast, hm]

@[simp] theorem rewriteDropped_pending (s : State) (w : CwWrite) :
    (State.rewriteDropped s w).pending = s.pending := by
  simp only [State.rewriteDropped]; (repeat' split) <;> simp

@[simp] theorem rewriteDropped_memOk (s : State) (w : CwWrite) (hm : s.memOk) :
    (State.rewriteDropped s w).memOk := by
  simp only [State.rewriteDropped]; (repeat' split) <;> simp +contextual (maxDischargeDepth := 19) [hm]

@[simp] theorem readDropped_pending (s : State) (m : MediaRead) :
    (State.readDropped s m).pending = s.pending := by
  simp only [State.readDropped]; (repeat' split) <;> simp

@[simp] theorem readDropped_memOk (s : State) (m : MediaRead) (hm : s.memOk) :
    (State.readDropped s m).memOk := by
  simp only [State.readDropped]; (repeat' split) <;> simp +contextual (maxDischargeDepth := 19) [hm]

@[simp] theorem dropRewrites_pending (s : State) (psn : Nat) (lpn : Nat) :
    (State.dropRewrites s psn lpn).pending = s.pending := by
  simp only [State.dropRewrites]
  repeat' (first | split | refine (foldl_pending _ (fun _ _ => ?_) _ _).trans ?_ | refine (gate_pending _ _ _ fun _ => ?_).trans ?_)
  all_goals simp

@[simp] theorem dropRewrites_memOk (s : State) (psn : Nat) (lpn : Nat) (hm : s.memOk) :
    (State.dropRewrites s psn lpn).memOk := by
  simp only [State.dropRewrites]
  repeat' (first | split | refine foldl_memOk _ (fun _ _ _ => ?_) _ _ ?_ | refine gate_memOk _ _ _ ?_ fun _ _ => ?_)
  all_goals simp +contextual (maxDischargeDepth := 19) [*]

@[simp] theorem grantCrossing_pending (s : State) (work : XWork) (lpn : Nat) (psn : Nat) (cws : Kv Codeword) (u : Nat) (b : Nat) (host : Bool) (again : Bool) :
    (State.grantCrossing s work lpn psn cws u b host again).pending = s.pending := by simp [State.grantCrossing]

@[simp] theorem grantCrossing_memOk (s : State) (work : XWork) (lpn : Nat) (psn : Nat) (cws : Kv Codeword) (u : Nat) (b : Nat) (host : Bool) (again : Bool) (hm : s.memOk) :
    (State.grantCrossing s work lpn psn cws u b host again).memOk := by simp +contextual (maxDischargeDepth := 19) [State.grantCrossing, hm]

@[simp] theorem guardNote_pending (s : State) (d : Nat) (psn : Nat) :
    (State.guardNote s d psn).pending = s.pending := by simp [State.guardNote]

@[simp] theorem guardNote_memOk (s : State) (d : Nat) (psn : Nat) (hm : s.memOk) :
    (State.guardNote s d psn).memOk := by simp +contextual (maxDischargeDepth := 19) [State.guardNote, hm]

@[simp] theorem grantLanding_pending (s : State) (k : Nat) (u : Nat) (b : Nat) :
    (State.grantLanding s k u b).pending = s.pending := by simp [State.grantLanding]

@[simp] theorem grantLanding_memOk (s : State) (k : Nat) (u : Nat) (b : Nat) (hm : s.memOk) :
    (State.grantLanding s k u b).memOk := by simp +contextual (maxDischargeDepth := 19) [State.grantLanding, hm]

@[simp] theorem discardLanding_pending (s : State) (k : Nat) :
    (State.discardLanding s k).pending = s.pending := by simp [State.discardLanding]

@[simp] theorem discardLanding_memOk (s : State) (k : Nat) (hm : s.memOk) :
    (State.discardLanding s k).memOk := by simp +contextual (maxDischargeDepth := 19) [State.discardLanding, hm]

@[simp] theorem execCrossingGrant_keeps (cyc : Nat) (work : XWorkRef) (beat : Nat) (s0 : State) :
    Keeps s0 (execCrossingGrant cyc work beat s0) := by
  simp only [execCrossingGrant]; (repeat' split) <;> simp +contextual (maxDischargeDepth := 19)

@[simp] theorem dropCrossing_pending (s : State) (id : Nat) :
    (State.dropCrossing s id).pending = s.pending := by simp [State.dropCrossing]

@[simp] theorem dropCrossing_memOk (s : State) (id : Nat) (hm : s.memOk) :
    (State.dropCrossing s id).memOk := by simp [State.dropCrossing, hm]

@[simp] theorem workBack_pending (s : State) (w : XWork) (cause : BitVec 8) :
    (State.workBack s w cause).pending = s.pending := by
  simp only [State.workBack]; (repeat' split) <;> simp

@[simp] theorem workBack_memOk (s : State) (w : XWork) (cause : BitVec 8) (hm : s.memOk) :
    (State.workBack s w cause).memOk := by
  simp only [State.workBack]; (repeat' split) <;> simp +contextual (maxDischargeDepth := 19) [hm]

@[simp] theorem miss_pending (s : State) (n : Nat) :
    (State.miss s n).pending = s.pending := by
  unfold State.miss; split <;> simp

@[simp] theorem miss_memOk (s : State) (n : Nat) (hm : s.memOk) :
    (State.miss s n).memOk := by
  unfold State.miss; split <;> simp +contextual (maxDischargeDepth := 19) [hm]

@[simp] theorem withdraw_pending (s : State) (x : Crossing) (missing : List Nat) :
    (State.withdraw s x missing).pending = s.pending := by simp [State.withdraw]

@[simp] theorem withdraw_memOk (s : State) (x : Crossing) (missing : List Nat) (hm : s.memOk) :
    (State.withdraw s x missing).memOk := by simp +contextual (maxDischargeDepth := 19) [State.withdraw, hm]

@[simp] theorem execCrossingLate_keeps (cyc : Nat) (id : Nat) (missing : List Nat) (s0 : State) :
    Keeps s0 (execCrossingLate cyc id missing s0) := by
  simp only [execCrossingLate]; (repeat' split) <;> simp +contextual (maxDischargeDepth := 19)

@[simp] theorem modCrossing_pending (s : State) (id : Nat) (f : Crossing → Crossing) :
    (State.modCrossing s id f).pending = s.pending := by simp [State.modCrossing]

@[simp] theorem modCrossing_memOk (s : State) (id : Nat) (f : Crossing → Crossing) (hm : s.memOk) :
    (State.modCrossing s id f).memOk := by simp [State.modCrossing, hm]

@[simp] theorem execCrossingLaunch_keeps (cyc : Nat) (id : Nat) (s0 : State) :
    Keeps s0 (execCrossingLaunch cyc id s0) := by
  simp only [execCrossingLaunch]; (repeat' split) <;> simp +contextual (maxDischargeDepth := 19)

@[simp] theorem execWriteSuspend_keeps (cyc : Nat) (id : Nat) (mch : Nat) (s0 : State) :
    Keeps s0 (execWriteSuspend cyc id mch s0) := by
  simp only [execWriteSuspend]; (repeat' split) <;> simp +contextual (maxDischargeDepth := 19)

@[simp] theorem execWriteResume_keeps (cyc : Nat) (id : Nat) (mch : Nat) (s0 : State) :
    Keeps s0 (execWriteResume cyc id mch s0) := by simp +contextual (maxDischargeDepth := 19) [execWriteResume]

@[simp] theorem wearOne_pending (s : State) (c : Nat) (psn : Nat) :
    (State.wearOne s c psn).pending = s.pending := by simp [State.wearOne]

@[simp] theorem wearOne_memOk (s : State) (c : Nat) (psn : Nat) (hm : s.memOk) :
    (State.wearOne s c psn).memOk := by simp +contextual (maxDischargeDepth := 19) [State.wearOne, hm]

@[simp] theorem internalWear_pending (s : State) :
    (State.internalWear s).pending = s.pending := by simp [State.internalWear]

@[simp] theorem internalWear_memOk (s : State) (hm : s.memOk) :
    (State.internalWear s).memOk := by simp +contextual (maxDischargeDepth := 19) [State.internalWear, hm]

@[simp] theorem verifyFail_pending (s : State) (c : Nat) (psn : Nat) (cells : Nat) :
    (State.verifyFail s c psn cells).pending = s.pending := by simp [State.verifyFail]

@[simp] theorem verifyFail_memOk (s : State) (c : Nat) (psn : Nat) (cells : Nat) (hm : s.memOk) :
    (State.verifyFail s c psn cells).memOk := by simp +contextual (maxDischargeDepth := 19) [State.verifyFail, hm]

@[simp] theorem redirect_pending (s : State) (psn t : Nat) :
    (State.redirect s psn t).pending = s.pending := by simp [State.redirect]

@[simp] theorem redirect_memOk (s : State) (psn t : Nat) (hm : s.memOk) :
    (State.redirect s psn t).memOk := by simp +contextual (maxDischargeDepth := 19) [State.redirect, hm]

@[simp] theorem retireNow_pending (s : State) (c : Nat) (psn : Nat) :
    (State.retireNow s c psn).pending = s.pending := by
  unfold State.retireNow; (repeat' split) <;> simp

@[simp] theorem retireNow_memOk (s : State) (c : Nat) (psn : Nat) (hm : s.memOk) :
    (State.retireNow s c psn).memOk := by
  unfold State.retireNow; (repeat' split) <;> simp +contextual (maxDischargeDepth := 19) [hm]

@[simp] theorem stripeLost_pending (s : State) (c d : Nat) (ps : List Nat) (first last : Nat) :
    (State.stripeLost s c d ps first last).pending = s.pending := by simp [State.stripeLost]

@[simp] theorem stripeLost_memOk (s : State) (c d : Nat) (ps : List Nat) (first last : Nat) (hm : s.memOk) :
    (State.stripeLost s c d ps first last).memOk := by simp +contextual (maxDischargeDepth := 19) [State.stripeLost, hm]

@[simp] theorem stripeBroken_pending (s : State) (x : Crossing) (bad : List (Nat × Nat)) :
    (State.stripeBroken s x bad).pending = s.pending := by simp [State.stripeBroken]

@[simp] theorem stripeBroken_memOk (s : State) (x : Crossing) (bad : List (Nat × Nat)) (hm : s.memOk) :
    (State.stripeBroken s x bad).memOk := by simp +contextual (maxDischargeDepth := 19) [State.stripeBroken, hm]

@[simp] theorem settleCrossing_pending (s : State) (id : Nat) :
    (State.settleCrossing s id).pending = s.pending := by
  unfold State.settleCrossing; split <;> simp

@[simp] theorem settleCrossing_memOk (s : State) (id : Nat) (hm : s.memOk) :
    (State.settleCrossing s id).memOk := by
  unfold State.settleCrossing; split <;> simp +contextual (maxDischargeDepth := 19) [hm]

@[simp] theorem crossingDone_pending (s : State) (x : Crossing) (c : Nat) (cells : Nat) :
    (State.crossingDone s x c cells).pending = s.pending := by simp [State.crossingDone]

@[simp] theorem crossingDone_memOk (s : State) (x : Crossing) (c : Nat) (cells : Nat) (hm : s.memOk) :
    (State.crossingDone s x c cells).memOk := by simp +contextual (maxDischargeDepth := 19) [State.crossingDone, hm]

@[simp] theorem rewriteDone_pending (s : State) (w : CwWrite) (cells : Nat) :
    (State.rewriteDone s w cells).pending = s.pending := by simp [State.rewriteDone]

@[simp] theorem rewriteDone_memOk (s : State) (w : CwWrite) (cells : Nat) (hm : s.memOk) :
    (State.rewriteDone s w cells).memOk := by simp +contextual (maxDischargeDepth := 19) [State.rewriteDone, hm]

@[simp] theorem execPlaneWriteCompletion_keeps (cyc : Nat) (id : Nat) (mch : Nat) (failedCells : Nat) (s0 : State) :
    Keeps s0 (execPlaneWriteCompletion cyc id mch failedCells s0) := by
  simp only [execPlaneWriteCompletion]; (repeat' split) <;> simp +contextual (maxDischargeDepth := 19)

@[simp] theorem writeLate_pending (s : State) (c : Nat) (psn : Nat) (slot : Nat) (k : Nat) :
    (State.writeLate s c psn slot k).pending = s.pending := by simp [State.writeLate]

@[simp] theorem writeLate_memOk (s : State) (c : Nat) (psn : Nat) (slot : Nat) (k : Nat) (hm : s.memOk) :
    (State.writeLate s c psn slot k).memOk := by simp +contextual (maxDischargeDepth := 19) [State.writeLate, hm]

@[simp] theorem execWriteLate_keeps (cyc : Nat) (id : Nat) (mch : Nat) (s0 : State) :
    Keeps s0 (execWriteLate cyc id mch s0) := by
  simp only [execWriteLate]; (repeat' split) <;> simp +contextual (maxDischargeDepth := 19)

@[simp] theorem commitLanding_pending (s : State) (x : Crossing) (k : Nat) :
    (State.commitLanding s x k).pending = s.pending := by simp [State.commitLanding]

@[simp] theorem commitLanding_memOk (s : State) (x : Crossing) (k : Nat) (hm : s.memOk) :
    (State.commitLanding s x k).memOk := by simp +contextual (maxDischargeDepth := 19) [State.commitLanding, hm]

@[simp] theorem commitCrossing_pending (s : State) (x : Crossing) :
    (State.commitCrossing s x).pending = s.pending := by
  simp only [State.commitCrossing]; (repeat' split) <;> simp

@[simp] theorem commitCrossing_memOk (s : State) (x : Crossing) (hm : s.memOk) :
    (State.commitCrossing s x).memOk := by
  simp only [State.commitCrossing]; (repeat' split) <;> simp +contextual (maxDischargeDepth := 19) [hm]

@[simp] theorem execCrossingCommit_keeps (cyc : Nat) (id : Nat) (s0 : State) :
    Keeps s0 (execCrossingCommit cyc id s0) := by
  simp only [execCrossingCommit]; (repeat' split) <;> simp +contextual (maxDischargeDepth := 19)

@[simp] theorem execLandingEntryFree_keeps (cyc : Nat) (slice : Nat) (entry : Nat) (s0 : State) :
    Keeps s0 (execLandingEntryFree cyc slice entry s0) := by simp +contextual (maxDischargeDepth := 19) [execLandingEntryFree]

end Sys2Proof.Machine
end

