-- ==== Sys2Proof/Laws/Keep/MediaRead.lean ====
section
/-!
SUPPORT. What each operation of Machine/MediaRead.lean keeps: the queue of commands, and the canonical form of the memories.
-/
namespace Sys2Proof.Machine

@[simp] theorem modRead_pending (s : State) (id : Nat) (f : MediaRead → MediaRead) :
    (State.modRead s id f).pending = s.pending := by simp [State.modRead]

@[simp] theorem modRead_memOk (s : State) (id : Nat) (f : MediaRead → MediaRead) (hm : s.memOk) :
    (State.modRead s id f).memOk := by simp [State.modRead, hm]

@[simp] theorem copyStarted_pending (s : State) (m : MediaRead) :
    (State.copyStarted s m).pending = s.pending := by
  simp only [State.copyStarted]; (repeat' split) <;> simp

@[simp] theorem copyStarted_memOk (s : State) (m : MediaRead) (hm : s.memOk) :
    (State.copyStarted s m).memOk := by
  simp only [State.copyStarted]; (repeat' split) <;> simp +contextual (maxDischargeDepth := 19) [hm]

@[simp] theorem command_pending (s : State) (b : Nat) (m : MediaRead) :
    (State.command s b m).pending = s.pending := by simp [State.command]

@[simp] theorem command_memOk (s : State) (b : Nat) (m : MediaRead) (hm : s.memOk) :
    (State.command s b m).memOk := by simp +contextual (maxDischargeDepth := 19) [State.command, hm]

@[simp] theorem execReadCommand_keeps (cyc : Nat) (id : Nat) (beat : Nat) (s0 : State) :
    Keeps s0 (execReadCommand cyc id beat s0) := by
  simp only [execReadCommand]; (repeat' split) <;> simp +contextual (maxDischargeDepth := 19)

@[simp] theorem transferred_pending (s : State) (m : MediaRead) (c : Nat) :
    (State.transferred s m c).pending = s.pending := by simp [State.transferred]

@[simp] theorem transferred_memOk (s : State) (m : MediaRead) (c : Nat) (hm : s.memOk) :
    (State.transferred s m c).memOk := by simp [State.transferred, hm]

@[simp] theorem genAhead_pending (s : State) (psn : Nat) (lpn : Nat) (gen : Nat) :
    (State.genAhead s psn lpn gen).pending = s.pending := by simp [State.genAhead]

@[simp] theorem genAhead_memOk (s : State) (psn : Nat) (lpn : Nat) (gen : Nat) (hm : s.memOk) :
    (State.genAhead s psn lpn gen).memOk := by simp [State.genAhead, hm]

@[simp] theorem stepFailed_pending (s : State) (m : MediaRead) (o : Decoded) (gen : Nat) :
    (State.stepFailed s m o gen).pending = s.pending := by
  unfold State.stepFailed; split <;> simp

@[simp] theorem stepFailed_memOk (s : State) (m : MediaRead) (o : Decoded) (gen : Nat) (hm : s.memOk) :
    (State.stepFailed s m o gen).memOk := by
  unfold State.stepFailed; split <;> simp +contextual (maxDischargeDepth := 19) [hm]

@[simp] theorem recovered_pending (s : State) (m : MediaRead) (w : Codeword) (c : Nat) :
    (State.recovered s m w c).pending = s.pending := by simp [State.recovered]

@[simp] theorem recovered_memOk (s : State) (m : MediaRead) (w : Codeword) (c : Nat) (hm : s.memOk) :
    (State.recovered s m w c).memOk := by simp +contextual (maxDischargeDepth := 19) [State.recovered, hm]

@[simp] theorem stepPassed_pending (s : State) (m : MediaRead) (w : Codeword) (data : BitVec 2048) (poison : BitVec 4) (c : Nat) (errs : Nat) :
    (State.stepPassed s m w data poison c errs).pending = s.pending := by simp [State.stepPassed]

@[simp] theorem stepPassed_memOk (s : State) (m : MediaRead) (w : Codeword) (data : BitVec 2048) (poison : BitVec 4) (c : Nat) (errs : Nat) (hm : s.memOk) :
    (State.stepPassed s m w data poison c errs).memOk := by simp +contextual (maxDischargeDepth := 19) [State.stepPassed, hm]

@[simp] theorem reconstructed_pending (s : State) (m : MediaRead) :
    (State.reconstructed s m).pending = s.pending := by
  simp only [State.reconstructed]; (repeat' split) <;> simp

@[simp] theorem reconstructed_memOk (s : State) (m : MediaRead) (hm : s.memOk) :
    (State.reconstructed s m).memOk := by
  simp only [State.reconstructed]; (repeat' split) <;> simp +contextual (maxDischargeDepth := 19) [hm]

@[simp] theorem transfer_pending (s : State) (m : MediaRead) (c : Nat) (errs : Nat) (wrong : Bool) :
    (State.transfer s m c errs wrong).pending = s.pending := by
  simp only [State.transfer]; (repeat' split) <;> simp

@[simp] theorem transfer_memOk (s : State) (m : MediaRead) (c : Nat) (errs : Nat) (wrong : Bool) (hm : s.memOk) :
    (State.transfer s m c errs wrong).memOk := by
  simp only [State.transfer]; (repeat' split) <;> simp +contextual (maxDischargeDepth := 19) [hm]

@[simp] theorem execReadTransfer_keeps (cyc : Nat) (id : Nat) (mch : Nat) (errs : Nat) (wrong : Bool) (s0 : State) :
    Keeps s0 (execReadTransfer cyc id mch errs wrong s0) := by
  simp only [execReadTransfer]; (repeat' split) <;> simp +contextual (maxDischargeDepth := 19)

@[simp] theorem execMissingBeat_keeps (cyc : Nat) (id : Nat) (mch : Nat) (s0 : State) :
    Keeps s0 (execMissingBeat cyc id mch s0) := by
  simp only [execMissingBeat]; (repeat' split) <;> simp +contextual (maxDischargeDepth := 19)

@[simp] theorem altRead_pending (s : State) (c : Nat) (psn : Nat) :
    (State.altRead s c psn).pending = s.pending := by simp [State.altRead]

@[simp] theorem altRead_memOk (s : State) (c : Nat) (psn : Nat) (hm : s.memOk) :
    (State.altRead s c psn).memOk := by simp +contextual (maxDischargeDepth := 19) [State.altRead, hm]

@[simp] theorem execAlternateReferenceRead_keeps (cyc : Nat) (id : Nat) (s0 : State) :
    Keeps s0 (execAlternateReferenceRead cyc id s0) := by
  simp only [execAlternateReferenceRead]; (repeat' split) <;> simp +contextual (maxDischargeDepth := 19)

@[simp] theorem execReconstructRead_keeps (cyc : Nat) (id : Nat) (s0 : State) :
    Keeps s0 (execReconstructRead cyc id s0) := by
  simp only [execReconstructRead]; (repeat' split) <;> simp +contextual (maxDischargeDepth := 19)

@[simp] theorem execAltWindowEnd_keeps (s0 : State) :
    Keeps s0 (execAltWindowEnd s0) := by simp +contextual (maxDischargeDepth := 19) [execAltWindowEnd]

@[simp] theorem beginRewrite_pending (s : State) (w : CwWrite) (b : Nat) :
    (State.beginRewrite s w b).pending = s.pending := by simp [State.beginRewrite]

@[simp] theorem beginRewrite_memOk (s : State) (w : CwWrite) (b : Nat) (hm : s.memOk) :
    (State.beginRewrite s w b).memOk := by simp +contextual (maxDischargeDepth := 19) [State.beginRewrite, hm]

@[simp] theorem execCorrectiveRewrite_keeps (cyc : Nat) (id : Nat) (beat : Nat) (s0 : State) :
    Keeps s0 (execCorrectiveRewrite cyc id beat s0) := by
  simp only [execCorrectiveRewrite]; (repeat' split) <;> simp +contextual (maxDischargeDepth := 19)

end Sys2Proof.Machine
end

