-- ==== Sys2Proof/Laws/Keep/Osc.lean ====
section
/-!
SUPPORT. What each operation of Machine/Osc.lean keeps: the queue of commands, and the canonical form of the memories.
-/
namespace Sys2Proof.Machine

@[simp] theorem execOscSwitch_keeps (cause : OscCause) (s0 : State) :
    Keeps s0 (execOscSwitch cause s0) := by simp +contextual (maxDischargeDepth := 19) [execOscSwitch]

@[simp] theorem execOscDisagree_keeps (ppm : Int) (s0 : State) :
    Keeps s0 (execOscDisagree ppm s0) := by simp +contextual (maxDischargeDepth := 19) [execOscDisagree]

@[simp] theorem execOscStandbyFail_keeps (cause : OscCause) (s0 : State) :
    Keeps s0 (execOscStandbyFail cause s0) := by simp +contextual (maxDischargeDepth := 19) [execOscStandbyFail]

@[simp] theorem execOscStandbyOk_keeps (s0 : State) :
    Keeps s0 (execOscStandbyOk s0) := by simp +contextual (maxDischargeDepth := 19) [execOscStandbyOk]

@[simp] theorem oscReturn_pending (s : State) :
    (State.oscReturn s).pending = s.pending := by simp [State.oscReturn]

@[simp] theorem oscReturn_memOk (s : State) (hm : s.memOk) :
    (State.oscReturn s).memOk := by simp [State.oscReturn, hm]

@[simp] theorem execReturnMain_keeps (s : State) :
    Keeps s (execReturnMain s) := by simp +contextual (maxDischargeDepth := 19) [execReturnMain]

@[simp] theorem oscForce_pending (s : State) :
    (State.oscForce s).pending = s.pending := by simp [State.oscForce]

@[simp] theorem oscForce_memOk (s : State) (hm : s.memOk) :
    (State.oscForce s).memOk := by simp [State.oscForce, hm]

@[simp] theorem execForceBackup_keeps (s : State) :
    Keeps s (execForceBackup s) := by simp +contextual (maxDischargeDepth := 19) [execForceBackup]

@[simp] theorem execFrameOverrun_keeps (late : BitVec 8) (s0 : State) :
    Keeps s0 (execFrameOverrun late s0) := by simp +contextual (maxDischargeDepth := 19) [execFrameOverrun]

end Sys2Proof.Machine
end

