-- ==== Sys2Proof/Laws/Keep/Xlate.lean ====
section
/-!
SUPPORT. What each operation of Machine/Xlate.lean keeps: the queue of commands, and the canonical form of the memories.
-/
namespace Sys2Proof.Machine

@[simp] theorem storeBegin_pending (s : State) (cls a : Nat) (bs : List (BitVec 8)) :
    (State.storeBegin s cls a bs).pending = s.pending := by simp [State.storeBegin]

@[simp] theorem storeBegin_memOk (s : State) (cls a : Nat) (bs : List (BitVec 8)) (hm : s.memOk) :
    (State.storeBegin s cls a bs).memOk := by simp +contextual (maxDischargeDepth := 19) [State.storeBegin, hm]

@[simp] theorem storeCut_pending (s : State) :
    (State.storeCut s).pending = s.pending := by simp [State.storeCut]

@[simp] theorem storeCut_memOk (s : State) (hm : s.memOk) : (State.storeCut s).memOk := by
  refine ⟨hm.1, Mem.wf_foldl _ (fun m w h => ?_) _ _ hm.2.1, hm.2.2⟩
  dsimp only
  split
  · exact h
  · simp [h]

@[simp] theorem storeDrop_pending (s : State) (cls : List Nat) :
    (State.storeDrop s cls).pending = s.pending := by simp [State.storeDrop]

@[simp] theorem storeDrop_memOk (s : State) (cls : List Nat) (hm : s.memOk) : (State.storeDrop s cls).memOk := by
  refine ⟨hm.1, Mem.wf_foldl _ (fun m w h => ?_) _ _ hm.2.1, hm.2.2⟩
  simp [h]

@[simp] theorem storePut_pending (s : State) (cls : Nat) (addr : Nat) (bs : List (BitVec 8)) (ok : Bool) :
    (State.storePut s cls addr bs ok).pending = s.pending := by simp [State.storePut]

@[simp] theorem storePut_memOk (s : State) (cls : Nat) (addr : Nat) (bs : List (BitVec 8)) (ok : Bool) (hm : s.memOk) :
    (State.storePut s cls addr bs ok).memOk := by simp +contextual (maxDischargeDepth := 19) [State.storePut, hm]

@[simp] theorem probe_pending (s : State) (dpa : Nat) :
    (State.probe s dpa).pending = s.pending := by simp [State.probe]

@[simp] theorem probe_memOk (s : State) (dpa : Nat) (hm : s.memOk) :
    (State.probe s dpa).memOk := by simp +contextual (maxDischargeDepth := 19) [State.probe, hm]

@[simp] theorem execTranslationProbe_keeps (dpa : Nat) (s : State) :
    Keeps s (execTranslationProbe dpa s) := by simp +contextual (maxDischargeDepth := 19) [execTranslationProbe]

@[simp] theorem execHdmDecoderCommit_keeps (head : Fin 2) (n : Nat) (base : Nat) (size : Nat) (ways : Nat) (gran : Nat) (skip : Nat) (lock : Bool) (s0 : State) :
    Keeps s0 (execHdmDecoderCommit head n base size ways gran skip lock s0) := by simp +contextual (maxDischargeDepth := 19) [execHdmDecoderCommit]

@[simp] theorem execWriteCounterWrap_keeps (district : Nat) (s0 : State) :
    Keeps s0 (execWriteCounterWrap district s0) := by
  simp only [execWriteCounterWrap]; (repeat' split) <;> simp +contextual (maxDischargeDepth := 19)

@[simp] theorem dropReads_pending (s : State) (u : ReadUse) :
    (State.dropReads s u).pending = s.pending := by simp [State.dropReads]

@[simp] theorem dropReads_memOk (s : State) (u : ReadUse) (hm : s.memOk) :
    (State.dropReads s u).memOk := by simp +contextual (maxDischargeDepth := 19) [State.dropReads, hm]

@[simp] theorem maintRead_pending (s : State) (u : ReadUse) (psn pos : Nat) :
    (State.maintRead s u psn pos).pending = s.pending := by simp [State.maintRead]

@[simp] theorem maintRead_memOk (s : State) (u : ReadUse) (psn pos : Nat) (hm : s.memOk) :
    (State.maintRead s u psn pos).memOk := by simp +contextual (maxDischargeDepth := 19) [State.maintRead, hm]

@[simp] theorem blockBegin_pending (s : State) (kind : ReadKind) (u : ReadUse) (lpn j : Nat) :
    (State.blockBegin s kind u lpn j).pending = s.pending := by simp [State.blockBegin]

@[simp] theorem blockBegin_memOk (s : State) (kind : ReadKind) (u : ReadUse) (lpn j : Nat) (hm : s.memOk) :
    (State.blockBegin s kind u lpn j).memOk := by simp +contextual (maxDischargeDepth := 19) [State.blockBegin, hm]

@[simp] theorem copyLost_pending (s : State) (src : Nat) (reader : Nat) (lost : List Nat) :
    (State.copyLost s src reader lost).pending = s.pending := by
  simp only [State.copyLost]
  repeat' (first | split | refine (foldl_pending _ (fun _ _ => ?_) _ _).trans ?_ | refine (gate_pending _ _ _ fun _ => ?_).trans ?_)
  all_goals simp

@[simp] theorem copyLost_memOk (s : State) (src : Nat) (reader : Nat) (lost : List Nat) (hm : s.memOk) :
    (State.copyLost s src reader lost).memOk := by
  simp only [State.copyLost]
  repeat' (first | split | refine foldl_memOk _ (fun _ _ _ => ?_) _ _ ?_ | refine gate_memOk _ _ _ ?_ fun _ _ => ?_)
  all_goals simp +contextual (maxDischargeDepth := 19) [*]

@[simp] theorem beginCopy_pending (s : State) (kind : CopyKind) (src dst : Nat) :
    (State.beginCopy s kind src dst).pending = s.pending := by simp [State.beginCopy]

@[simp] theorem beginCopy_memOk (s : State) (kind : CopyKind) (src dst : Nat) (hm : s.memOk) :
    (State.beginCopy s kind src dst).memOk := by simp +contextual (maxDischargeDepth := 19) [State.beginCopy, hm]

@[simp] theorem offerCopy_pending (s : State) (m : Move) (reader : Nat) :
    (State.offerCopy s m reader).pending = s.pending := by simp [State.offerCopy]

@[simp] theorem offerCopy_memOk (s : State) (m : Move) (reader : Nat) (hm : s.memOk) :
    (State.offerCopy s m reader).memOk := by simp +contextual (maxDischargeDepth := 19) [State.offerCopy, hm]

@[simp] theorem execGapMove_keeps (cyc district : Nat) (s0 : State) :
    Keeps s0 (execGapMove cyc district s0) := by
  simp only [execGapMove]; (repeat' split) <;> simp +contextual (maxDischargeDepth := 19)

@[simp] theorem execDistrictCheckpoint_keeps (ok : Bool) (s0 : State) :
    Keeps s0 (execDistrictCheckpoint ok s0) := by simp +contextual (maxDischargeDepth := 19) [execDistrictCheckpoint]

@[simp] theorem remapFull_pending (s : State) (table : Nat) :
    (State.remapFull s table).pending = s.pending := by simp [State.remapFull]

@[simp] theorem remapFull_memOk (s : State) (table : Nat) (hm : s.memOk) :
    (State.remapFull s table).memOk := by simp +contextual (maxDischargeDepth := 19) [State.remapFull, hm]

@[simp] theorem queueBerth_pending (s : State) (b : Nat) :
    (State.queueBerth s b).pending = s.pending := by simp [State.queueBerth]

@[simp] theorem queueBerth_memOk (s : State) (b : Nat) (hm : s.memOk) :
    (State.queueBerth s b).memOk := by simp +contextual (maxDischargeDepth := 19) [State.queueBerth, hm]

@[simp] theorem nextStripe_pending (s : State) : (State.nextStripe s).pending = s.pending := by
  unfold State.nextStripe State.gate
  repeat' split
  all_goals simp

@[simp] theorem nextStripe_memOk (s : State) (hm : s.memOk) :
    (State.nextStripe s).memOk := by
  simp only [State.nextStripe]; (repeat' split) <;> simp +contextual (maxDischargeDepth := 19) [hm]

@[simp] theorem execStripeRetirement_keeps (cyc : Nat) (s0 : State) :
    Keeps s0 (execStripeRetirement cyc s0) := by
  simp only [execStripeRetirement]; (repeat' split) <;> simp +contextual (maxDischargeDepth := 19)

@[simp] theorem startBerth_pending (s : State) (b : Nat) :
    (State.startBerth s b).pending = s.pending := by simp [State.startBerth]

@[simp] theorem startBerth_memOk (s : State) (b : Nat) (hm : s.memOk) :
    (State.startBerth s b).memOk := by simp +contextual (maxDischargeDepth := 19) [State.startBerth, hm]

@[simp] theorem nextOfBerth_pending (s : State) :
    (State.nextOfBerth s).pending = s.pending := by
  simp only [State.nextOfBerth]; (repeat' split) <;> simp

@[simp] theorem nextOfBerth_memOk (s : State) (hm : s.memOk) :
    (State.nextOfBerth s).memOk := by
  simp only [State.nextOfBerth]; (repeat' split) <;> simp +contextual (maxDischargeDepth := 19) [hm]

@[simp] theorem execBerthRetirement_keeps (cyc : Nat) (s0 : State) :
    Keeps s0 (execBerthRetirement cyc s0) := by
  simp only [execBerthRetirement]; (repeat' split) <;> simp +contextual (maxDischargeDepth := 19)

@[simp] theorem journal_pending (s : State) (kind : Nat) (run : Nat) (src : Nat) (dst : Nat) (ok : Bool) :
    (State.journal s kind run src dst ok).pending = s.pending := by simp [State.journal]

@[simp] theorem journal_memOk (s : State) (kind : Nat) (run : Nat) (src : Nat) (dst : Nat) (ok : Bool) (hm : s.memOk) :
    (State.journal s kind run src dst ok).memOk := by simp +contextual (maxDischargeDepth := 19) [State.journal, hm]

@[simp] theorem journalFail_pending (s : State) (kind src dst : Nat) :
    (State.journalFail s kind src dst).pending = s.pending := by simp [State.journalFail]

@[simp] theorem journalFail_memOk (s : State) (kind src dst : Nat) (hm : s.memOk) :
    (State.journalFail s kind src dst).memOk := by simp +contextual (maxDischargeDepth := 19) [State.journalFail, hm]

@[simp] theorem stripeGone_pending (s : State) (psn : Nat) :
    (State.stripeGone s psn).pending = s.pending := by simp [State.stripeGone]

@[simp] theorem stripeGone_memOk (s : State) (psn : Nat) (hm : s.memOk) :
    (State.stripeGone s psn).memOk := by simp +contextual (maxDischargeDepth := 19) [State.stripeGone, hm]

@[simp] theorem stripeEntry_pending (s : State) (src : Nat) (dst : Nat) (ok : Bool) :
    (State.stripeEntry s src dst ok).pending = s.pending := by simp [State.stripeEntry]

@[simp] theorem stripeEntry_memOk (s : State) (src : Nat) (dst : Nat) (ok : Bool) (hm : s.memOk) :
    (State.stripeEntry s src dst ok).memOk := by simp +contextual (maxDischargeDepth := 19) [State.stripeEntry, hm]

@[simp] theorem berthEntry_pending (s : State) (b : Nat) (t : Nat) (ok : Bool) :
    (State.berthEntry s b t ok).pending = s.pending := by simp [State.berthEntry]

@[simp] theorem berthEntry_memOk (s : State) (b : Nat) (t : Nat) (ok : Bool) (hm : s.memOk) :
    (State.berthEntry s b t ok).memOk := by simp +contextual (maxDischargeDepth := 19) [State.berthEntry, hm]

@[simp] theorem gapCommit_pending (s : State) (d : Nat) :
    (State.gapCommit s d).pending = s.pending := by simp [State.gapCommit]

@[simp] theorem gapCommit_memOk (s : State) (d : Nat) (hm : s.memOk) :
    (State.gapCommit s d).memOk := by simp [State.gapCommit, hm]

@[simp] theorem commitMove_pending (s : State) (m : Move) (ok : Bool) :
    (State.commitMove s m ok).pending = s.pending := by
  unfold State.commitMove; split <;> simp

@[simp] theorem commitMove_memOk (s : State) (m : Move) (ok : Bool) (hm : s.memOk) :
    (State.commitMove s m ok).memOk := by
  unfold State.commitMove; split <;> simp +contextual (maxDischargeDepth := 19) [hm]

@[simp] theorem dueBerthEntry_pending (s : State) (ok : Bool) :
    (State.dueBerthEntry s ok).pending = s.pending := by
  unfold State.dueBerthEntry; split <;> simp

@[simp] theorem dueBerthEntry_memOk (s : State) (ok : Bool) (hm : s.memOk) :
    (State.dueBerthEntry s ok).memOk := by
  unfold State.dueBerthEntry; split <;> simp +contextual (maxDischargeDepth := 19) [hm]

@[simp] theorem commitMoves_pending (s : State) (ok : Bool) :
    (State.commitMoves s ok).pending = s.pending := by simp [State.commitMoves]

@[simp] theorem commitMoves_memOk (s : State) (ok : Bool) (hm : s.memOk) :
    (State.commitMoves s ok).memOk := by simp +contextual (maxDischargeDepth := 19) [State.commitMoves, hm]

end Sys2Proof.Machine
end

