-- ==== Sys2Proof/Laws/Keep/CacheCmd.lean ====
section
/-!
SUPPORT. What each operation of Machine/CacheCmd.lean keeps: the queue of commands, and the canonical form of the memories.
-/
namespace Sys2Proof.Machine

@[simp] theorem destageSet_pending (s : State) (set : Nat) :
    (State.destageSet s set).pending = s.pending := by
  simp only [State.destageSet]
  repeat' (first | split | refine (foldl_pending _ (fun _ _ => ?_) _ _).trans ?_ | refine (gate_pending _ _ _ fun _ => ?_).trans ?_)
  all_goals simp

@[simp] theorem destageSet_memOk (s : State) (set : Nat) (hm : s.memOk) :
    (State.destageSet s set).memOk := by simp +contextual (maxDischargeDepth := 19) [State.destageSet, hm]

@[simp] theorem loseTag_pending (s : State) (set w : Nat) :
    (State.loseTag s set w).pending = s.pending := by simp [State.loseTag]

@[simp] theorem loseTag_memOk (s : State) (set w : Nat) (hm : s.memOk) :
    (State.loseTag s set w).memOk := by simp +contextual (maxDischargeDepth := 19) [State.loseTag, hm]

@[simp] theorem drainTags_pending (s : State) (set : Nat) (bad : List (Nat × Nat × Bool)) :
    (State.drainTags s set bad).pending = s.pending := by
  simp only [State.drainTags]
  repeat' (first | split | refine (foldl_pending _ (fun _ _ => ?_) _ _).trans ?_ | refine (gate_pending _ _ _ fun _ => ?_).trans ?_)
  all_goals simp

@[simp] theorem drainTags_memOk (s : State) (set : Nat) (bad : List (Nat × Nat × Bool)) (hm : s.memOk) :
    (State.drainTags s set bad).memOk := by simp +contextual (maxDischargeDepth := 19) [State.drainTags, hm]

@[simp] theorem execBackgroundDestage_keeps (cyc slice : Nat) (bad : List (Nat × Nat × Bool)) (s0 : State) :
    Keeps s0 (execBackgroundDestage cyc slice bad s0) := by
  simp only [execBackgroundDestage]; (repeat' split) <;> simp +contextual (maxDischargeDepth := 19)

@[simp] theorem lockFills_pending (s : State) (set : Nat) (w : Nat) (after : Option Nat) :
    (State.lockFills s set w after).pending = s.pending := by simp [State.lockFills]

@[simp] theorem lockFills_memOk (s : State) (set : Nat) (w : Nat) (after : Option Nat) (hm : s.memOk) :
    (State.lockFills s set w after).memOk := by simp +contextual (maxDischargeDepth := 19) [State.lockFills, hm]

@[simp] theorem lockRefuse_pending (s : State) (lpn : Nat) (n : Nat) :
    (State.lockRefuse s lpn n).pending = s.pending := by simp [State.lockRefuse]

@[simp] theorem lockRefuse_memOk (s : State) (lpn : Nat) (n : Nat) (hm : s.memOk) :
    (State.lockRefuse s lpn n).memOk := by simp [State.lockRefuse, hm]

theorem lockPage_some {s t : State} {lpn : Nat} (h : s.lockPage lpn = some t) :
    t.pending = s.pending ∧ (s.memOk → t.memOk) := by
  simp only [State.lockPage] at h
  split at h
  · split at h
    · cases h
      exact ⟨by simp, fun hm => by simp [hm]⟩
    · split at h
      · cases h
      · cases h
        exact ⟨by simp, fun hm => by simp +contextual (maxDischargeDepth := 19) [hm]⟩
  · split at h
    · cases h
      exact ⟨by simp, fun hm => by simp [hm]⟩
    · split at h
      · cases h
      · obtain ⟨c, -, rfl⟩ := Option.map_eq_some_iff.1 h
        exact ⟨by simp, fun hm => by simp +contextual (maxDischargeDepth := 19) [hm]⟩

@[simp] theorem modPort_pending (s : State) (f : RangePort → RangePort) :
    (State.modPort s f).pending = s.pending := by simp [State.modPort]

@[simp] theorem modPort_memOk (s : State) (f : RangePort → RangePort) (hm : s.memOk) :
    (State.modPort s f).memOk := by simp +contextual (maxDischargeDepth := 19) [State.modPort, hm]

@[simp] theorem portWaits_pending (s : State) (sel : Nat → Bool) :
    (State.portWaits s sel).pending = s.pending := by simp [State.portWaits]

@[simp] theorem portWaits_memOk (s : State) (sel : Nat → Bool) (hm : s.memOk) :
    (State.portWaits s sel).memOk := by simp +contextual (maxDischargeDepth := 19) [State.portWaits, hm]

@[simp] theorem portReach_pending (s : State) (k : Nat) :
    (State.portReach s k).pending = s.pending := by simp [State.portReach]

@[simp] theorem portReach_memOk (s : State) (k : Nat) (hm : s.memOk) :
    (State.portReach s k).memOk := by simp +contextual (maxDischargeDepth := 19) [State.portReach, hm]

theorem lockPages_keeps (n : Nat) (s : State) :
    (State.lockPages n s).pending = s.pending ∧ (s.memOk → (State.lockPages n s).memOk) := by
  induction n generalizing s with
  | zero => exact ⟨rfl, id⟩
  | succ n ih =>
    simp only [State.lockPages]
    split
    · exact ⟨rfl, id⟩
    · split
      · exact ⟨rfl, id⟩
      · have k := lockPage_some ‹_›
        exact ⟨(ih _).1.trans k.1, fun hm => (ih _).2 (k.2 hm)⟩

@[simp] theorem lockPages_pending (n : Nat) (s : State) : (State.lockPages n s).pending = s.pending := (lockPages_keeps n s).1

@[simp] theorem lockPages_memOk (n : Nat) (s : State) (hm : s.memOk) : (State.lockPages n s).memOk :=
  (lockPages_keeps n s).2 hm

@[simp] theorem lockRecords_pending (s : State) (pages : List (Nat × Nat)) (cause : Nat) (by' : Option Nat) :
    (State.lockRecords s pages cause by').pending = s.pending := by simp [State.lockRecords]

@[simp] theorem lockRecords_memOk (s : State) (pages : List (Nat × Nat)) (cause : Nat) (by' : Option Nat) (hm : s.memOk) :
    (State.lockRecords s pages cause by').memOk := by simp +contextual (maxDischargeDepth := 19) [State.lockRecords, hm]

@[simp] theorem rangeWay_pending (s : State) (set w : Nat) :
    (State.rangeWay s set w).pending = s.pending := by
  simp only [State.rangeWay]; (repeat' split) <;> simp

@[simp] theorem rangeWay_memOk (s : State) (set w : Nat) (hm : s.memOk) :
    (State.rangeWay s set w).memOk := by
  simp only [State.rangeWay]; (repeat' split) <;> simp +contextual (maxDischargeDepth := 19) [hm]

theorem rangePages_keeps (n : Nat) (s : State) :
    (State.rangePages n s).pending = s.pending ∧ (s.memOk → (State.rangePages n s).memOk) := by
  induction n generalizing s with
  | zero => exact ⟨rfl, id⟩
  | succ n ih =>
    simp only [State.rangePages]
    split
    · exact ⟨by simp, fun hm => by simp [hm]⟩
    split
    · exact ⟨(ih _).1.trans (by simp), fun hm => (ih _).2 (by simp +contextual (maxDischargeDepth := 19) [hm])⟩
    · exact ⟨by simp, fun hm => by simp [hm]⟩

@[simp] theorem rangePages_pending (n : Nat) (s : State) : (State.rangePages n s).pending = s.pending :=
  (rangePages_keeps n s).1

@[simp] theorem rangePages_memOk (n : Nat) (s : State) (hm : s.memOk) : (State.rangePages n s).memOk :=
  (rangePages_keeps n s).2 hm

theorem rangeWalk_keeps (i n : Nat) (s : State) :
    (State.rangeWalk i n s).pending = s.pending ∧ (s.memOk → (State.rangeWalk i n s).memOk) := by
  induction n generalizing s with
  | zero => exact ⟨rfl, id⟩
  | succ n ih =>
    simp only [State.rangeWalk]
    split
    · exact ⟨rfl, id⟩
    split
    · exact ⟨by simp, fun hm => by simp [hm]⟩
    split
    · exact ⟨(ih _).1.trans (by simp), fun hm => (ih _).2 (by simp +contextual (maxDischargeDepth := 19) [hm])⟩
    · exact ⟨rfl, id⟩

@[simp] theorem rangeWalk_pending (i n : Nat) (s : State) : (State.rangeWalk i n s).pending = s.pending :=
  (rangeWalk_keeps i n s).1

@[simp] theorem rangeWalk_memOk (i n : Nat) (s : State) (hm : s.memOk) : (State.rangeWalk i n s).memOk :=
  (rangeWalk_keeps i n s).2 hm

@[simp] theorem rangeGoOn_pending (s : State) :
    (State.rangeGoOn s).pending = s.pending := by
  simp only [State.rangeGoOn]; (repeat' split) <;> simp

@[simp] theorem rangeGoOn_memOk (s : State) (hm : s.memOk) :
    (State.rangeGoOn s).memOk := by
  simp only [State.rangeGoOn]; (repeat' split) <;> simp +contextual (maxDischargeDepth := 19) [hm]

@[simp] theorem rangeGo_pending (s : State) (op : RangeOp) (start : Nat) (count : Nat) :
    (State.rangeGo s op start count).pending = s.pending := by simp [State.rangeGo]

@[simp] theorem rangeGo_memOk (s : State) (op : RangeOp) (start : Nat) (count : Nat) (hm : s.memOk) :
    (State.rangeGo s op start count).memOk := by simp +contextual (maxDischargeDepth := 19) [State.rangeGo, hm]

@[simp] theorem portWrite_pending (s : State) (op : Nat) (start : Nat) (count : Nat) :
    (State.portWrite s op start count).pending = s.pending := by simp [State.portWrite]

@[simp] theorem portWrite_memOk (s : State) (op : Nat) (start : Nat) (count : Nat) (hm : s.memOk) :
    (State.portWrite s op start count).memOk := by simp +contextual (maxDischargeDepth := 19) [State.portWrite, hm]

@[simp] theorem execLockRange_keeps (start : Nat) (count : Nat) (s : State) :
    Keeps s (execLockRange start count s) := by simp +contextual (maxDischargeDepth := 19) [execLockRange]

@[simp] theorem execUnlockRange_keeps (start : Nat) (count : Nat) (s : State) :
    Keeps s (execUnlockRange start count s) := by simp +contextual (maxDischargeDepth := 19) [execUnlockRange]

@[simp] theorem execCleanRange_keeps (start : Nat) (count : Nat) (s : State) :
    Keeps s (execCleanRange start count s) := by simp +contextual (maxDischargeDepth := 19) [execCleanRange]

@[simp] theorem execInvalidateRange_keeps (start : Nat) (count : Nat) (s : State) :
    Keeps s (execInvalidateRange start count s) := by simp +contextual (maxDischargeDepth := 19) [execInvalidateRange]

@[simp] theorem execRangeDone_keeps (s0 : State) :
    Keeps s0 (execRangeDone s0) := by simp +contextual (maxDischargeDepth := 19) [execRangeDone]

@[simp] theorem losePage_pending (s : State) (set : Nat) (w : Nat) :
    (State.losePage s set w).pending = s.pending := by simp [State.losePage]

@[simp] theorem losePage_memOk (s : State) (set : Nat) (w : Nat) (hm : s.memOk) :
    (State.losePage s set w).memOk := by simp +contextual (maxDischargeDepth := 19) [State.losePage, hm]

@[simp] theorem loseChannel_pending (s : State) (c : Nat) :
    (State.loseChannel s c).pending = s.pending := by simp [State.loseChannel]

@[simp] theorem loseChannel_memOk (s : State) (c : Nat) (hm : s.memOk) :
    (State.loseChannel s c).memOk := by simp +contextual (maxDischargeDepth := 19) [State.loseChannel, hm]

@[simp] theorem dropWays_pending (s : State) (keys : List Nat) (cause : Nat) (by' : Option Nat) :
    (State.dropWays s keys cause by').pending = s.pending := by simp [State.dropWays]

@[simp] theorem dropWays_memOk (s : State) (keys : List Nat) (cause : Nat) (by' : Option Nat) (hm : s.memOk) :
    (State.dropWays s keys cause by').memOk := by simp +contextual (maxDischargeDepth := 19) [State.dropWays, hm]

@[simp] theorem execSliceRemoved_keeps (slice : Nat) (s0 : State) :
    Keeps s0 (execSliceRemoved slice s0) := by
  simp only [execSliceRemoved, State.gate]
  refine (keeps_next _ _).2 ⟨?_, fun hm => ?_⟩
  all_goals split
  all_goals try split
  all_goals simp +contextual (maxDischargeDepth := 19) [*]

@[simp] theorem execSliceDrained_keeps (slice : Nat) (s0 : State) :
    Keeps s0 (execSliceDrained slice s0) := by simp +contextual (maxDischargeDepth := 19) [execSliceDrained]

end Sys2Proof.Machine
end

