-- ==== Sys2Proof/Laws/Keep/Media.lean ====
section
/-!
SUPPORT. What each operation of Machine/Media.lean keeps: the queue of commands, and the canonical form of the memories.
-/
namespace Sys2Proof.Machine

@[simp] theorem degrade_pending (s : State) (c : Nat) (d : Nat) (q : Nat) :
    (State.degrade s c d q).pending = s.pending := by simp [State.degrade]

@[simp] theorem degrade_memOk (s : State) (c : Nat) (d : Nat) (q : Nat) (hm : s.memOk) :
    (State.degrade s c d q).memOk := by simp [State.degrade, hm]

@[simp] theorem cutReads_pending (s : State) (c d : Nat) :
    (State.cutReads s c d).pending = s.pending := by simp [State.cutReads]

@[simp] theorem cutReads_memOk (s : State) (c d : Nat) (hm : s.memOk) :
    (State.cutReads s c d).memOk := by simp +contextual (maxDischargeDepth := 19) [State.cutReads, hm]

@[simp] theorem dropDie_pending (s : State) (c d : Nat) :
    (State.dropDie s c d).pending = s.pending := by simp [State.dropDie]

@[simp] theorem dropDie_memOk (s : State) (c d : Nat) (hm : s.memOk) :
    (State.dropDie s c d).memOk := by simp +contextual (maxDischargeDepth := 19) [State.dropDie, hm]

@[simp] theorem failDie_pending (s : State) (c : Nat) (d : Nat) :
    (State.failDie s c d).pending = s.pending := by
  simp only [State.failDie]; (repeat' split) <;> simp

@[simp] theorem failDie_memOk (s : State) (c : Nat) (d : Nat) (hm : s.memOk) :
    (State.failDie s c d).memOk := by
  simp only [State.failDie]; (repeat' split) <;> simp +contextual (maxDischargeDepth := 19) [hm]

@[simp] theorem execDieFailed_keeps (mch : Nat) (die : Nat) (cause : Nat) (s0 : State) :
    Keeps s0 (execDieFailed mch die cause s0) := by simp +contextual (maxDischargeDepth := 19) [execDieFailed]

@[simp] theorem channelFail_pending (s : State) (mch : Nat) (cause : Nat) :
    (State.channelFail s mch cause).pending = s.pending := by simp [State.channelFail]

@[simp] theorem channelFail_memOk (s : State) (mch : Nat) (cause : Nat) (hm : s.memOk) :
    (State.channelFail s mch cause).memOk := by simp +contextual (maxDischargeDepth := 19) [State.channelFail, hm]

@[simp] theorem execChannelFailed_keeps (mch : Nat) (cause : Nat) (s0 : State) :
    Keeps s0 (execChannelFailed mch cause s0) := by simp +contextual (maxDischargeDepth := 19) [execChannelFailed]

@[simp] theorem substituteDies_pending (s : State) :
    (State.substituteDies s).pending = s.pending := by simp [State.substituteDies]

@[simp] theorem substituteDies_memOk (s : State) (hm : s.memOk) :
    (State.substituteDies s).memOk := by simp +contextual (maxDischargeDepth := 19) [State.substituteDies, hm]

@[simp] theorem execRebuildStart_keeps (die : Nat) (s0 : State) :
    Keeps s0 (execRebuildStart die s0) := by
  simp only [execRebuildStart]; (repeat' split) <;> simp +contextual (maxDischargeDepth := 19)

@[simp] theorem rebuildOwe_pending (s : State) (r : Rebuild) (m : MediaRead) :
    (State.rebuildOwe s r m).pending = s.pending := by
  simp only [State.rebuildOwe]; (repeat' split) <;> simp

@[simp] theorem rebuildOwe_memOk (s : State) (r : Rebuild) (m : MediaRead) (hm : s.memOk) :
    (State.rebuildOwe s r m).memOk := by
  simp only [State.rebuildOwe]; (repeat' split) <;> simp +contextual (maxDischargeDepth := 19) [hm]

@[simp] theorem execRebuildStripe_keeps (cyc die beat : Nat) (s0 : State) :
    Keeps s0 (execRebuildStripe cyc die beat s0) := by
  simp only [execRebuildStripe]; (repeat' split) <;> simp +contextual (maxDischargeDepth := 19)

@[simp] theorem execRebuildDone_keeps (die : Nat) (s0 : State) :
    Keeps s0 (execRebuildDone die s0) := by
  simp only [execRebuildDone]; (repeat' split) <;> simp +contextual (maxDischargeDepth := 19)

@[simp] theorem execRefreshOverdue_keeps (mch : Nat) (band : Nat) (s0 : State) :
    Keeps s0 (execRefreshOverdue mch band s0) := by simp +contextual (maxDischargeDepth := 19) [execRefreshOverdue]

@[simp] theorem bandBegin_pending (s : State) (c : Nat) (b : Nat) :
    (State.bandBegin s c b).pending = s.pending := by simp [State.bandBegin]

@[simp] theorem bandBegin_memOk (s : State) (c : Nat) (b : Nat) (hm : s.memOk) :
    (State.bandBegin s c b).memOk := by simp [State.bandBegin, hm]

@[simp] theorem sentinelsDue_pending (s : State) :
    (State.sentinelsDue s).pending = s.pending := by simp [State.sentinelsDue]

@[simp] theorem sentinelsDue_memOk (s : State) (hm : s.memOk) :
    (State.sentinelsDue s).memOk := by simp +contextual (maxDischargeDepth := 19) [State.sentinelsDue, hm]

@[simp] theorem execSentinelRewrite_keeps (s0 : State) :
    Keeps s0 (execSentinelRewrite s0) := by
  simp only [execSentinelRewrite]; (repeat' split) <;> simp +contextual (maxDischargeDepth := 19)

@[simp] theorem execMchTableCopy_keeps (s0 : State) :
    Keeps s0 (execMchTableCopy s0) := by simp +contextual (maxDischargeDepth := 19) [execMchTableCopy]

end Sys2Proof.Machine
end

