-- ==== Sys2Proof/Laws/Keep/MntOps.lean ====
section
/-!
SUPPORT. What each operation of Machine/MntOps.lean keeps: the queue of commands, and the canonical form of the memories.
-/
namespace Sys2Proof.Machine

@[simp] theorem msixAll_pending (s : State) (v : Nat) :
    (State.msixAll s v).pending = s.pending := by simp [State.msixAll]

@[simp] theorem msixAll_memOk (s : State) (v : Nat) (hm : s.memOk) :
    (State.msixAll s v).memOk := by simp +contextual (maxDischargeDepth := 19) [State.msixAll, hm]

@[simp] theorem defer_pending (s : State) (a : Nat) (b : Nat) :
    (State.defer s a b).pending = s.pending := by simp [State.defer]

@[simp] theorem defer_memOk (s : State) (a : Nat) (b : Nat) (hm : s.memOk) :
    (State.defer s a b).memOk := by simp +contextual (maxDischargeDepth := 19) [State.defer, hm]

@[simp] theorem actRefused_pending (s : State) (a : Nat) (cause : Nat) (target : Nat) (rec1 : Bool) :
    (State.actRefused s a cause target rec1).pending = s.pending := by simp [State.actRefused]

@[simp] theorem actRefused_memOk (s : State) (a : Nat) (cause : Nat) (target : Nat) (rec1 : Bool) (hm : s.memOk) :
    (State.actRefused s a cause target rec1).memOk := by simp +contextual (maxDischargeDepth := 19) [State.actRefused, hm]

@[simp] theorem bargeRecord_pending (s : State) (n : Nat) (d : Descriptor) (status : Nat) (result : Nat) :
    (State.bargeRecord s n d status result).pending = s.pending := by simp [State.bargeRecord]

@[simp] theorem bargeRecord_memOk (s : State) (n : Nat) (d : Descriptor) (status : Nat) (result : Nat) (hm : s.memOk) :
    (State.bargeRecord s n d status result).memOk := by simp [State.bargeRecord, hm]

@[simp] theorem atFnNote_pending (s : State) (target : Nat) (id : Nat) (stage : Nat) (barge : Bool) :
    (State.atFnNote s target id stage barge).pending = s.pending := by simp [State.atFnNote]

@[simp] theorem atFnNote_memOk (s : State) (target : Nat) (id : Nat) (stage : Nat) (barge : Bool) (hm : s.memOk) :
    (State.atFnNote s target id stage barge).memOk := by simp [State.atFnNote, hm]

@[simp] theorem bargeSuspect_pending (s : State) (ps : List Nat) :
    (State.bargeSuspect s ps).pending = s.pending := by simp [State.bargeSuspect]

@[simp] theorem bargeSuspect_memOk (s : State) (ps : List Nat) (hm : s.memOk) :
    (State.bargeSuspect s ps).memOk := by simp +contextual (maxDischargeDepth := 19) [State.bargeSuspect, hm]

@[simp] theorem bargeStop_pending (s : State) (n : Nat) (d : Descriptor) (status : Nat) (dpa : Nat) :
    (State.bargeStop s n d status dpa).pending = s.pending := by simp [State.bargeStop]

@[simp] theorem bargeStop_memOk (s : State) (n : Nat) (d : Descriptor) (status : Nat) (dpa : Nat) (hm : s.memOk) :
    (State.bargeStop s n d status dpa).memOk := by simp +contextual (maxDischargeDepth := 19) [State.bargeStop, hm]

@[simp] theorem bargeHalt_pending (s : State) (n : Nat) (d : Descriptor) (status : Nat) (dpa : Nat) :
    (State.bargeHalt s n d status dpa).pending = s.pending := by
  unfold State.bargeHalt; split <;> simp

@[simp] theorem bargeHalt_memOk (s : State) (n : Nat) (d : Descriptor) (status : Nat) (dpa : Nat) (hm : s.memOk) :
    (State.bargeHalt s n d status dpa).memOk := by
  unfold State.bargeHalt; split <;> simp +contextual (maxDischargeDepth := 19) [hm]

@[simp] theorem bargeOut_pending (s : State) (n : Nat) :
    (State.bargeOut s n).pending = s.pending := by
  simp only [State.bargeOut]; (repeat' split) <;> simp

@[simp] theorem bargeOut_memOk (s : State) (n : Nat) (hm : s.memOk) :
    (State.bargeOut s n).memOk := by
  simp only [State.bargeOut]; (repeat' split) <;> simp +contextual (maxDischargeDepth := 19) [hm]

end Sys2Proof.Machine
end

