-- ==== Sys2Proof/Laws/Keep/Dram.lean ====
section
/-!
SUPPORT. What each operation of Machine/Dram.lean keeps: the queue of commands, and the canonical form of the memories.
-/
namespace Sys2Proof.Machine

@[simp] theorem column_pending (s : State) (c : Nat) (x : Nat) (ev : Nat) :
    (State.column s c x ev).pending = s.pending := by simp [State.column]

@[simp] theorem column_memOk (s : State) (c : Nat) (x : Nat) (ev : Nat) (hm : s.memOk) :
    (State.column s c x ev).memOk := by simp +contextual (maxDischargeDepth := 19) [State.column, hm]

@[simp] theorem dramCorrected_pending (s : State) (c : Nat) (u : Nat) (dev : Nat) (x : Nat) :
    (State.dramCorrected s c u dev x).pending = s.pending := by simp [State.dramCorrected]

@[simp] theorem dramCorrected_memOk (s : State) (c : Nat) (u : Nat) (dev : Nat) (x : Nat) (hm : s.memOk) :
    (State.dramCorrected s c u dev x).memOk := by simp +contextual (maxDischargeDepth := 19) [State.dramCorrected, hm]

@[simp] theorem loseSector_pending (s : State) (set : Nat) (w : Nat) (i : Nat) :
    (State.loseSector s set w i).pending = s.pending := by simp [State.loseSector]

@[simp] theorem loseSector_memOk (s : State) (set : Nat) (w : Nat) (i : Nat) (hm : s.memOk) :
    (State.loseSector s set w i).memOk := by simp +contextual (maxDischargeDepth := 19) [State.loseSector, hm]

@[simp] theorem dropRead_pending (s : State) (c : Nat) (u : Nat) (id : Nat) :
    (State.dropRead s c u id).pending = s.pending := by simp [State.dropRead]

@[simp] theorem dropRead_memOk (s : State) (c : Nat) (u : Nat) (id : Nat) (hm : s.memOk) :
    (State.dropRead s c u id).memOk := by simp [State.dropRead, hm]

@[simp] theorem readLost_pending (s : State) (c : Nat) (u : Nat) (r : DrcRead) :
    (State.readLost s c u r).pending = s.pending := by
  unfold State.readLost; split <;> simp

@[simp] theorem readLost_memOk (s : State) (c : Nat) (u : Nat) (r : DrcRead) (hm : s.memOk) :
    (State.readLost s c u r).memOk := by
  unfold State.readLost; split <;> simp +contextual (maxDischargeDepth := 19) [hm]

@[simp] theorem readBursts_pending (s : State) (c : Nat) (r : DrcRead) :
    (State.readBursts s c r).pending = s.pending := by
  simp only [State.readBursts]; (repeat' split) <;> simp

@[simp] theorem readBursts_memOk (s : State) (c : Nat) (r : DrcRead) (hm : s.memOk) :
    (State.readBursts s c r).memOk := by
  simp only [State.readBursts]; (repeat' split) <;> simp +contextual (maxDischargeDepth := 19) [hm]

@[simp] theorem execDramReadReturn_keeps (cyc : Nat) (ch : Nat) (sub : Nat) (id : Nat) (errs : Nat) (dev : Nat) (s0 : State) :
    Keeps s0 (execDramReadReturn cyc ch sub id errs dev s0) := by
  simp only [execDramReadReturn]; (repeat' split) <;> simp +contextual (maxDischargeDepth := 19)

@[simp] theorem issueWrite_pending (s : State) (c : Nat) (u : Nat) (x : Nat) :
    (State.issueWrite s c u x).pending = s.pending := by
  unfold State.issueWrite; split <;> simp

@[simp] theorem issueWrite_memOk (s : State) (c : Nat) (u : Nat) (x : Nat) (hm : s.memOk) :
    (State.issueWrite s c u x).memOk := by
  unfold State.issueWrite; split <;> simp +contextual (maxDischargeDepth := 19) [hm]

@[simp] theorem drainWrites_pending (s : State) (c : Nat) (u : Nat) :
    (State.drainWrites s c u).pending = s.pending := by simp [State.drainWrites]

@[simp] theorem drainWrites_memOk (s : State) (c : Nat) (u : Nat) (hm : s.memOk) :
    (State.drainWrites s c u).memOk := by simp +contextual (maxDischargeDepth := 19) [State.drainWrites, hm]

@[simp] theorem execDramWriteIssue_keeps (cyc : Nat) (ch : Nat) (sub : Nat) (addr : Nat) (s0 : State) :
    Keeps s0 (execDramWriteIssue cyc ch sub addr s0) := by simp +contextual (maxDischargeDepth := 19) [execDramWriteIssue]

@[simp] theorem waitBlame_pending (s : State) (c u : Nat) (m : BitVec 8) :
    (State.waitBlame s c u m).pending = s.pending := by simp [State.waitBlame]

@[simp] theorem waitBlame_memOk (s : State) (c u : Nat) (m : BitVec 8) (hm : s.memOk) :
    (State.waitBlame s c u m).memOk := by simp [State.waitBlame, hm]

@[simp] theorem forceRefresh_pending (s : State) (c u n dur batch : Nat) :
    (State.forceRefresh s c u n dur batch).pending = s.pending := by simp [State.forceRefresh]

@[simp] theorem forceRefresh_memOk (s : State) (c u n dur batch : Nat) (hm : s.memOk) :
    (State.forceRefresh s c u n dur batch).memOk := by simp +contextual (maxDischargeDepth := 19) [State.forceRefresh, hm]

@[simp] theorem joinBatch_pending (s : State) (c u : Nat) :
    (State.joinBatch s c u).pending = s.pending := by simp [State.joinBatch]

@[simp] theorem joinBatch_memOk (s : State) (c u : Nat) (hm : s.memOk) :
    (State.joinBatch s c u).memOk := by simp +contextual (maxDischargeDepth := 19) [State.joinBatch, hm]

@[simp] theorem execDramRefreshDue_keeps (cyc : Nat) (ch : Nat) (sub : Nat) (dur : Nat) (s0 : State) :
    Keeps s0 (execDramRefreshDue cyc ch sub dur s0) := by simp +contextual (maxDischargeDepth := 19) [execDramRefreshDue]

@[simp] theorem mr4One_pending (s : State) (ch : Nat) (u : Nat) (hot : Bool) (dur : Nat) :
    (State.mr4One s ch u hot dur).pending = s.pending := by simp [State.mr4One]

@[simp] theorem mr4One_memOk (s : State) (ch : Nat) (u : Nat) (hot : Bool) (dur : Nat) (hm : s.memOk) :
    (State.mr4One s ch u hot dur).memOk := by simp +contextual (maxDischargeDepth := 19) [State.mr4One, hm]

@[simp] theorem execMr4Read_keeps (ch : Nat) (hot0 : Bool) (hot1 : Bool) (dur : Nat) (s0 : State) :
    Keeps s0 (execMr4Read ch hot0 hot1 dur s0) := by simp +contextual (maxDischargeDepth := 19) [execMr4Read]

@[simp] theorem withholdBank_pending (s : State) (c u bank : Nat) :
    (State.withholdBank s c u bank).pending = s.pending := by simp [State.withholdBank]

@[simp] theorem withholdBank_memOk (s : State) (c u bank : Nat) (hm : s.memOk) :
    (State.withholdBank s c u bank).memOk := by simp +contextual (maxDischargeDepth := 19) [State.withholdBank, hm]

@[simp] theorem execActMitigation_keeps (cyc : Nat) (ch : Nat) (sub : Nat) (bank : Nat) (row : Nat) (s0 : State) :
    Keeps s0 (execActMitigation cyc ch sub bank row s0) := by
  simp only [execActMitigation]; (repeat' split) <;> simp +contextual (maxDischargeDepth := 19)

@[simp] theorem execRfm_keeps (cyc : Nat) (ch : Nat) (sub : Nat) (bank : Nat) (needs : Bool) (threshold : Nat) (s0 : State) :
    Keeps s0 (execRfm cyc ch sub bank needs threshold s0) := by simp +contextual (maxDischargeDepth := 19) [execRfm]

@[simp] theorem execActTableClear_keeps (ch : Nat) (sub : Nat) (bank : Nat) (s0 : State) :
    Keeps s0 (execActTableClear ch sub bank s0) := by simp +contextual (maxDischargeDepth := 19) [execActTableClear]

@[simp] theorem execPageIdleExpiry_keeps (cyc : Nat) (ch : Nat) (sub : Nat) (bank : Nat) (s0 : State) :
    Keeps s0 (execPageIdleExpiry cyc ch sub bank s0) := by
  simp only [execPageIdleExpiry]; (repeat' split) <;> simp +contextual (maxDischargeDepth := 19)

@[simp] theorem execSelfRefreshEntry_keeps (cyc : Nat) (ch : Nat) (sub : Nat) (s0 : State) :
    Keeps s0 (execSelfRefreshEntry cyc ch sub s0) := by simp +contextual (maxDischargeDepth := 19) [execSelfRefreshEntry]

@[simp] theorem wakeSub_pending (s : State) (c : Nat) (u : Nat) :
    (State.wakeSub s c u).pending = s.pending := by simp [State.wakeSub]

@[simp] theorem wakeSub_memOk (s : State) (c : Nat) (u : Nat) (hm : s.memOk) :
    (State.wakeSub s c u).memOk := by simp [State.wakeSub, hm]

@[simp] theorem execSelfRefreshExit_keeps (cyc : Nat) (ch : Nat) (sub : Nat) (s0 : State) :
    Keeps s0 (execSelfRefreshExit cyc ch sub s0) := by simp +contextual (maxDischargeDepth := 19) [execSelfRefreshExit]

@[simp] theorem loseReads_pending (s : State) (c : Nat) :
    (State.loseReads s c).pending = s.pending := by simp [State.loseReads]

@[simp] theorem loseReads_memOk (s : State) (c : Nat) (hm : s.memOk) :
    (State.loseReads s c).memOk := by simp +contextual (maxDischargeDepth := 19) [State.loseReads, hm]

@[simp] theorem bitmapLoss_pending (s : State) (c : Nat) :
    (State.bitmapLoss s c).pending = s.pending := by simp [State.bitmapLoss]

@[simp] theorem bitmapLoss_memOk (s : State) (c : Nat) (hm : s.memOk) :
    (State.bitmapLoss s c).memOk := by simp +contextual (maxDischargeDepth := 19) [State.bitmapLoss, hm]

@[simp] theorem drcFail_pending (s : State) (c : Nat) (cause : Nat) (u : Nat) (dev : Nat) :
    (State.drcFail s c cause u dev).pending = s.pending := by simp [State.drcFail]

@[simp] theorem drcFail_memOk (s : State) (c : Nat) (cause : Nat) (u : Nat) (dev : Nat) (hm : s.memOk) :
    (State.drcFail s c cause u dev).memOk := by simp +contextual (maxDischargeDepth := 19) [State.drcFail, hm]

@[simp] theorem execDramChannelFailed_keeps (ch : Nat) (cause : Nat) (sub : Nat) (dev : Nat) (s0 : State) :
    Keeps s0 (execDramChannelFailed ch cause sub dev s0) := by simp +contextual (maxDischargeDepth := 19) [execDramChannelFailed]

@[simp] theorem execDramDeviceErased_keeps (ch : Nat) (sub : Nat) (dev : Nat) (cause : Nat) (s0 : State) :
    Keeps s0 (execDramDeviceErased ch sub dev cause s0) := by
  simp only [execDramDeviceErased]
  repeat' split
  all_goals refine (keeps_next _ _).2 ⟨?_, fun hm => ?_⟩
  all_goals repeat' (first | split | refine (foldl_pending _ (fun _ _ => ?_) _ _).trans ?_ | refine (gate_pending _ _ _ fun _ => ?_).trans ?_ | refine foldl_memOk _ (fun _ _ _ => ?_) _ _ ?_ | refine gate_memOk _ _ _ ?_ fun _ _ => ?_)
  all_goals simp +contextual (maxDischargeDepth := 19) [*]

@[simp] theorem execCacheReconfig_keeps (s0 : State) :
    Keeps s0 (execCacheReconfig s0) := by simp +contextual (maxDischargeDepth := 19) [execCacheReconfig]

@[simp] theorem execDramTrainingLost_keeps (ch : Nat) (sub : Nat) (ok : Bool) (s0 : State) :
    Keeps s0 (execDramTrainingLost ch sub ok s0) := by simp +contextual (maxDischargeDepth := 19) [execDramTrainingLost]

@[simp] theorem retrainDelays_pending (s : State) (c : Nat) :
    (State.retrainDelays s c).pending = s.pending := by simp [State.retrainDelays]

@[simp] theorem retrainDelays_memOk (s : State) (c : Nat) (hm : s.memOk) :
    (State.retrainDelays s c).memOk := by simp +contextual (maxDischargeDepth := 19) [State.retrainDelays, hm]

@[simp] theorem retrainStart_pending (s : State) (c : Nat) :
    (State.retrainStart s c).pending = s.pending := by
  unfold State.retrainStart; (repeat' split) <;> simp

@[simp] theorem retrainStart_memOk (s : State) (c : Nat) (hm : s.memOk) :
    (State.retrainStart s c).memOk := by
  unfold State.retrainStart; (repeat' split) <;> simp +contextual (maxDischargeDepth := 19) [hm]

@[simp] theorem driftOne_pending (s : State) (c : Nat) (u : Nat) (drift : Int) :
    (State.driftOne s c u drift).pending = s.pending := by simp [State.driftOne]

@[simp] theorem driftOne_memOk (s : State) (c : Nat) (u : Nat) (drift : Int) (hm : s.memOk) :
    (State.driftOne s c u drift).memOk := by simp +contextual (maxDischargeDepth := 19) [State.driftOne, hm]

@[simp] theorem execDriftCheck_keeps (ch : Nat) (drift0 : Int) (drift1 : Int) (s0 : State) :
    Keeps s0 (execDriftCheck ch drift0 drift1 s0) := by simp +contextual (maxDischargeDepth := 19) [execDriftCheck]

@[simp] theorem trained_pending (s : State) (c : Nat) (ok : Bool) (sub : Nat) (stage : Nat) (lane : Nat) (window : Nat) (ms : Nat) :
    (State.trained s c ok sub stage lane window ms).pending = s.pending := by simp [State.trained]

@[simp] theorem trained_memOk (s : State) (c : Nat) (ok : Bool) (sub : Nat) (stage : Nat) (lane : Nat) (window : Nat) (ms : Nat) (hm : s.memOk) :
    (State.trained s c ok sub stage lane window ms).memOk := by simp +contextual (maxDischargeDepth := 19) [State.trained, hm]

@[simp] theorem execDramRetrain_keeps (ch : Nat) (ok : Bool) (sub : Nat) (stage : Nat) (lane : Nat) (window : Nat) (ms : Nat) (s0 : State) :
    Keeps s0 (execDramRetrain ch ok sub stage lane window ms s0) := by simp +contextual (maxDischargeDepth := 19) [execDramRetrain]

@[simp] theorem execRetrainRetry_keeps (ch : Nat) (s0 : State) :
    Keeps s0 (execRetrainRetry ch s0) := by simp +contextual (maxDischargeDepth := 19) [execRetrainRetry]

@[simp] theorem execFrequencyChange_keeps (ch : Nat) (us : Nat) (s0 : State) :
    Keeps s0 (execFrequencyChange ch us s0) := by
  simp only [execFrequencyChange]; (repeat' split) <;> simp +contextual (maxDischargeDepth := 19)

@[simp] theorem trainGo_pending (s : State) (c : Nat) :
    (State.trainGo s c).pending = s.pending := by simp [State.trainGo]

@[simp] theorem trainGo_memOk (s : State) (c : Nat) (hm : s.memOk) :
    (State.trainGo s c).memOk := by simp +contextual (maxDischargeDepth := 19) [State.trainGo, hm]

@[simp] theorem execTrainRun_keeps (ch : Nat) (s0 : State) :
    Keeps s0 (execTrainRun ch s0) := by simp +contextual (maxDischargeDepth := 19) [execTrainRun]

@[simp] theorem execTrainRunDone_keeps (ch : Nat) (errs : List (Nat × Nat)) (s0 : State) :
    Keeps s0 (execTrainRunDone ch errs s0) := by simp +contextual (maxDischargeDepth := 19) [execTrainRunDone]

end Sys2Proof.Machine
end

