-- ==== Sys2Proof/Laws/Keep/PowerOps.lean ====
section
/-!
SUPPORT. What each operation of Machine/PowerOps.lean keeps: the queue of commands, and the canonical form of the memories.
-/
namespace Sys2Proof.Machine

@[simp] theorem setDomains_pending (s : State) (f : Nat → Nat) :
    (State.setDomains s f).pending = s.pending := by simp [State.setDomains]

@[simp] theorem setDomains_memOk (s : State) (f : Nat → Nat) (hm : s.memOk) :
    (State.setDomains s f).memOk := by simp [State.setDomains, hm]

@[simp] theorem clearRo_pending (s : State) (b : Nat) :
    (State.clearRo s b).pending = s.pending := by
  simp only [State.clearRo]
  repeat' (first | split | refine (foldl_pending _ (fun _ _ => ?_) _ _).trans ?_ | refine (gate_pending _ _ _ fun _ => ?_).trans ?_)
  all_goals simp

@[simp] theorem clearRo_memOk (s : State) (b : Nat) (hm : s.memOk) :
    (State.clearRo s b).memOk := by
  simp only [State.clearRo]
  repeat' (first | split | refine foldl_memOk _ (fun _ _ _ => ?_) _ _ ?_ | refine gate_memOk _ _ _ ?_ fun _ _ => ?_)
  all_goals simp +contextual (maxDischargeDepth := 19) [*]

@[simp] theorem retain_pending (s : State) :
    (State.retain s).pending = s.pending := by simp [State.retain]

@[simp] theorem retain_memOk (s : State) (hm : s.memOk) :
    (State.retain s).memOk := by simp [State.retain, hm]

@[simp] theorem restore_pending (s : State) :
    (State.restore s).pending = s.pending := by
  unfold State.restore; split <;> simp

@[simp] theorem restore_memOk (s : State) (hm : s.memOk) :
    (State.restore s).memOk := by
  unfold State.restore; split <;> simp +contextual (maxDischargeDepth := 19) [hm]

@[simp] theorem powerUpRo_pending (s old : State) :
    (State.powerUpRo s old).pending = s.pending := by simp [State.powerUpRo]

@[simp] theorem powerUpRo_memOk (s old : State) (hm : s.memOk) :
    (State.powerUpRo s old).memOk := by simp +contextual (maxDischargeDepth := 19) [State.powerUpRo, hm]

@[simp] theorem sendState_pending (s : State) :
    (State.sendState s).pending = s.pending := by simp [State.sendState]

@[simp] theorem sendState_memOk (s : State) (hm : s.memOk) :
    (State.sendState s).memOk := by simp [State.sendState, hm]

@[simp] theorem wakeMoored_pending (s : State) (cause : Nat) :
    (State.wakeMoored s cause).pending = s.pending := by simp [State.wakeMoored]

@[simp] theorem wakeMoored_memOk (s : State) (cause : Nat) (hm : s.memOk) :
    (State.wakeMoored s cause).memOk := by simp +contextual (maxDischargeDepth := 19) [State.wakeMoored, hm]

@[simp] theorem pfWrite_pending (s : State) (complete : Bool) :
    (State.pfWrite s complete).pending = s.pending := by simp [State.pfWrite]

@[simp] theorem pfWrite_memOk (s : State) (complete : Bool) (hm : s.memOk) :
    (State.pfWrite s complete).memOk := by simp +contextual (maxDischargeDepth := 19) [State.pfWrite, hm]

@[simp] theorem healthWrite_pending (s : State) :
    (State.healthWrite s).pending = s.pending := by simp [State.healthWrite]

@[simp] theorem healthWrite_memOk (s : State) (hm : s.memOk) :
    (State.healthWrite s).memOk := by simp [State.healthWrite, hm]

@[simp] theorem keyRecWrite_pending (s : State) :
    (State.keyRecWrite s).pending = s.pending := by simp [State.keyRecWrite]

@[simp] theorem keyRecWrite_memOk (s : State) (hm : s.memOk) :
    (State.keyRecWrite s).memOk := by simp +contextual (maxDischargeDepth := 19) [State.keyRecWrite, hm]

@[simp] theorem roleWrite_pending (s : State) (role : Nat) (clean : Bool) (full : Bool) (suspect : Bool) :
    (State.roleWrite s role clean full suspect).pending = s.pending := by simp [State.roleWrite]

@[simp] theorem roleWrite_memOk (s : State) (role : Nat) (clean : Bool) (full : Bool) (suspect : Bool) (hm : s.memOk) :
    (State.roleWrite s role clean full suspect).memOk := by simp [State.roleWrite, hm]

@[simp] theorem latchFirst_pending (s : State) (rail : Nat) (level : Nat) :
    (State.latchFirst s rail level).pending = s.pending := by
  unfold State.latchFirst; split <;> simp

@[simp] theorem latchFirst_memOk (s : State) (rail : Nat) (level : Nat) (hm : s.memOk) :
    (State.latchFirst s rail level).memOk := by
  unfold State.latchFirst; split <;> simp +contextual (maxDischargeDepth := 19) [hm]

@[simp] theorem closeWindows_pending (s : State) :
    (State.closeWindows s).pending = s.pending := by simp [State.closeWindows]

@[simp] theorem closeWindows_memOk (s : State) (hm : s.memOk) :
    (State.closeWindows s).memOk := by simp +contextual (maxDischargeDepth := 19) [State.closeWindows, hm]

@[simp] theorem endBackground_pending (s : State) :
    (State.endBackground s).pending = s.pending := by simp [State.endBackground]

@[simp] theorem endBackground_memOk (s : State) (hm : s.memOk) :
    (State.endBackground s).memOk := by simp [State.endBackground, hm]

@[simp] theorem dropTakes_pending (s : State) :
    (State.dropTakes s).pending = s.pending := by simp [State.dropTakes]

@[simp] theorem dropTakes_memOk (s : State) (hm : s.memOk) :
    (State.dropTakes s).memOk := by simp +contextual (maxDischargeDepth := 19) [State.dropTakes, hm]

@[simp] theorem enterFlush_pending (s0 : State) (cause : Nat) (halt : Bool) (onBank : Bool) :
    (State.enterFlush s0 cause halt onBank).pending = s0.pending := by
  unfold State.enterFlush; split <;> simp

@[simp] theorem enterFlush_memOk (s0 : State) (cause : Nat) (halt : Bool) (onBank : Bool) (hm : s0.memOk) :
    (State.enterFlush s0 cause halt onBank).memOk := by
  unfold State.enterFlush; split <;> simp +contextual (maxDischargeDepth := 19) [hm]

end Sys2Proof.Machine
end

