-- ==== Sys2Proof/Laws/Keep/MboxOps.lean ====
section
/-!
SUPPORT. What each operation of Machine/MboxOps.lean keeps: the queue of commands, and the canonical form of the memories.
-/
namespace Sys2Proof.Machine

@[simp] theorem generate_pending (s : State) :
    (State.generate s).pending = s.pending := by simp [State.generate]

@[simp] theorem generate_memOk (s : State) (hm : s.memOk) :
    (State.generate s).memOk := by simp +contextual (maxDischargeDepth := 19) [State.generate, hm]

@[simp] theorem reply_pending (s : State) (m : Master) (code : Nat) (payload : List (BitVec 8)) :
    (State.reply s m code payload).pending = s.pending := by simp [State.reply]

@[simp] theorem reply_memOk (s : State) (m : Master) (code : Nat) (payload : List (BitVec 8)) (hm : s.memOk) :
    (State.reply s m code payload).memOk := by simp +contextual (maxDischargeDepth := 19) [State.reply, hm]

@[simp] theorem serve_keeps (s0 : State) (m : Master) (basic : Bool) (f : State → State) (hp : ∀ x, (f x).pending = x.pending) (hk : ∀ x, x.memOk → (f x).memOk) :
    Keeps s0 (State.serve s0 m basic f) := by simp +contextual (maxDischargeDepth := 19) [hp, hk, State.serve]

@[simp] theorem mboxWake_pending (s : State) :
    (State.mboxWake s).pending = s.pending := by simp [State.mboxWake]

@[simp] theorem mboxWake_memOk (s : State) (hm : s.memOk) :
    (State.mboxWake s).memOk := by simp [State.mboxWake, hm]

@[simp] theorem vendorRecord_pending (s : State) (m : Master) (opcode : Nat) (detail : Nat) :
    (State.vendorRecord s m opcode detail).pending = s.pending := by simp [State.vendorRecord]

@[simp] theorem vendorRecord_memOk (s : State) (m : Master) (opcode : Nat) (detail : Nat) (hm : s.memOk) :
    (State.vendorRecord s m opcode detail).memOk := by simp [State.vendorRecord, hm]

@[simp] theorem vendorRefuse_pending (s : State) (m : Master) (opcode : Nat) (detail : Nat) :
    (State.vendorRefuse s m opcode detail).pending = s.pending := by simp [State.vendorRefuse]

@[simp] theorem vendorRefuse_memOk (s : State) (m : Master) (opcode : Nat) (detail : Nat) (hm : s.memOk) :
    (State.vendorRefuse s m opcode detail).memOk := by simp [State.vendorRefuse, hm]

@[simp] theorem vendorOk_pending (s : State) (m : Master) (out : List (BitVec 8)) :
    (State.vendorOk s m out).pending = s.pending := by simp [State.vendorOk]

@[simp] theorem vendorOk_memOk (s : State) (m : Master) (out : List (BitVec 8)) (hm : s.memOk) :
    (State.vendorOk s m out).memOk := by simp [State.vendorOk, hm]

@[simp] theorem vendor_keeps (s : State) (m : Master) (opcode : Nat) (len : Nat) (payload : List (BitVec 8)) (f : State → State) (hp : ∀ x, (f x).pending = x.pending) (hk : ∀ x, x.memOk → (f x).memOk) :
    Keeps s (State.vendor s m opcode len payload f) := by simp +contextual (maxDischargeDepth := 19) [hp, hk, State.vendor]

@[simp] theorem background_pending (s : State) (m : Master) (opcode : Nat) (f : State → State) (hp : ∀ x, (f x).pending = x.pending) :
    (State.background s m opcode f).pending = s.pending := by
  unfold State.background; split <;> simp [hp]

@[simp] theorem background_memOk (s : State) (m : Master) (opcode : Nat) (f : State → State) (hk : ∀ x, x.memOk → (f x).memOk) (hm : s.memOk) :
    (State.background s m opcode f).memOk := by
  unfold State.background; split <;> simp +contextual (maxDischargeDepth := 19) [hm, hk]

end Sys2Proof.Machine
end

