-- ==== Sys2Proof/Laws/Keep/Keys.lean ====
section
/-!
SUPPORT. What each operation of Machine/Keys.lean keeps: the queue of commands, and the canonical form of the memories.
-/
namespace Sys2Proof.Machine

@[simp] theorem freeLanding_pending (s : State) (k : Nat) :
    (State.freeLanding s k).pending = s.pending := by simp [State.freeLanding]

@[simp] theorem freeLanding_memOk (s : State) (k : Nat) (hm : s.memOk) :
    (State.freeLanding s k).memOk := by simp +contextual (maxDischargeDepth := 19) [State.freeLanding, hm]

@[simp] theorem cutShort_pending (s : State) (r : HostReq) :
    (State.cutShort s r).pending = s.pending := by
  unfold State.cutShort; split <;> simp

@[simp] theorem cutShort_memOk (s : State) (r : HostReq) (hm : s.memOk) :
    (State.cutShort s r).memOk := by
  unfold State.cutShort; split <;> simp [hm]

@[simp] theorem errorDrop_pending (s : State) : s.errorDrop.pending = s.pending := by simp [State.errorDrop]

@[simp] theorem errorDrop_memOk (s : State) (hm : s.memOk) : s.errorDrop.memOk := by
  simp +contextual (maxDischargeDepth := 19) [State.errorDrop, hm]

@[simp] theorem cryptoError_pending (s : State) (cause : Nat) :
    (State.cryptoError s cause).pending = s.pending := by simp [State.cryptoError]

@[simp] theorem cryptoError_memOk (s : State) (cause : Nat) (hm : s.memOk) :
    (State.cryptoError s cause).memOk := by simp +contextual (maxDischargeDepth := 19) [State.cryptoError, hm]

@[simp] theorem degradedOp_pending (s : State) (row : Nat) :
    (State.degradedOp s row).pending = s.pending := by simp [State.degradedOp]

@[simp] theorem degradedOp_memOk (s : State) (row : Nat) (hm : s.memOk) :
    (State.degradedOp s row).memOk := by simp [State.degradedOp, hm]

@[simp] theorem execEngineKat_keeps (engine : Nat) (pass : Bool) (s0 : State) :
    Keeps s0 (execEngineKat engine pass s0) := by simp +contextual (maxDischargeDepth := 19) [execEngineKat]

@[simp] theorem execEntropyTestFail_keeps (s0 : State) :
    Keeps s0 (execEntropyTestFail s0) := by simp +contextual (maxDischargeDepth := 19) [execEntropyTestFail]

@[simp] theorem keyRefused_pending (s : State) (k : Nat) (op : Nat) (code : Nat) :
    (State.keyRefused s k op code).pending = s.pending := by simp [State.keyRefused]

@[simp] theorem keyRefused_memOk (s : State) (k : Nat) (op : Nat) (code : Nat) (hm : s.memOk) :
    (State.keyRefused s k op code).memOk := by simp [State.keyRefused, hm]

@[simp] theorem keyQueue_pending (s : State) (k : Nat) (format : Bool) :
    (State.keyQueue s k format).pending = s.pending := by simp [State.keyQueue]

@[simp] theorem keyQueue_memOk (s : State) (k : Nat) (format : Bool) (hm : s.memOk) :
    (State.keyQueue s k format).memOk := by simp [State.keyQueue, hm]

@[simp] theorem dropPages_pending (s : State) (sel : Nat → Bool) :
    (State.dropPages s sel).pending = s.pending := by simp [State.dropPages]

@[simp] theorem dropPages_memOk (s : State) (sel : Nat → Bool) (hm : s.memOk) :
    (State.dropPages s sel).memOk := by simp +contextual (maxDischargeDepth := 19) [State.dropPages, hm]

@[simp] theorem formatMark_pending (s : State) (sel : Nat → Bool) :
    (State.formatMark s sel).pending = s.pending := by unfold State.formatMark; split <;> simp

@[simp] theorem formatMark_memOk (s : State) (sel : Nat → Bool) (hm : s.memOk) :
    (State.formatMark s sel).memOk := by
  unfold State.formatMark; split <;> simp +contextual (maxDischargeDepth := 19) [hm]

@[simp] theorem drawKey_pending (s : State) :
    (State.drawKey s).1.pending = s.pending := by simp [State.drawKey]

@[simp] theorem drawKey_memOk (s : State) (hm : s.memOk) :
    (State.drawKey s).1.memOk := by simp [State.drawKey, hm]

@[simp] theorem keyStart_pending (s : State) (k : Nat) (format : Bool) :
    (State.keyStart s k format).pending = s.pending := by simp [State.keyStart]

@[simp] theorem keyStart_memOk (s : State) (k : Nat) (format : Bool) (hm : s.memOk) :
    (State.keyStart s k format).memOk := by simp +contextual (maxDischargeDepth := 19) [State.keyStart, hm]

@[simp] theorem execKeyopStart_keeps (s0 : State) :
    Keeps s0 (execKeyopStart s0) := by
  simp only [execKeyopStart]; (repeat' split) <;> simp +contextual (maxDischargeDepth := 19)

@[simp] theorem genAdvance_pending (s : State) (k : Nat) :
    (State.genAdvance s k).pending = s.pending := by
  simp only [State.genAdvance]; (repeat' split) <;> simp

@[simp] theorem genAdvance_memOk (s : State) (k : Nat) (hm : s.memOk) :
    (State.genAdvance s k).memOk := by
  simp only [State.genAdvance]; (repeat' split) <;> simp +contextual (maxDischargeDepth := 19) [hm]

@[simp] theorem execRepaverPassStart_keeps (slot : Nat) (s0 : State) :
    Keeps s0 (execRepaverPassStart slot s0) := by simp +contextual (maxDischargeDepth := 19) [execRepaverPassStart]

@[simp] theorem repaverMove_pending (s : State) (lpn : Nat) (op : Nat) :
    (State.repaverMove s lpn op).pending = s.pending := by
  unfold State.repaverMove; (repeat' split) <;> simp

@[simp] theorem repaverMove_memOk (s : State) (lpn : Nat) (op : Nat) (hm : s.memOk) :
    (State.repaverMove s lpn op).memOk := by
  unfold State.repaverMove; (repeat' split) <;> simp +contextual (maxDischargeDepth := 19) [hm]

@[simp] theorem repaverTake_pending (s : State) (k lpn : Nat) (m : MediaRead) :
    (State.repaverTake s k lpn m).pending = s.pending := by simp [State.repaverTake]

@[simp] theorem repaverTake_memOk (s : State) (k lpn : Nat) (m : MediaRead) (hm : s.memOk) :
    (State.repaverTake s k lpn m).memOk := by simp +contextual (maxDischargeDepth := 19) [State.repaverTake, hm]

@[simp] theorem repaverRead_pending (s : State) (k : Nat) :
    (State.repaverRead s k).pending = s.pending := by
  simp only [State.repaverRead]; (repeat' split) <;> simp

@[simp] theorem repaverRead_memOk (s : State) (k : Nat) (hm : s.memOk) :
    (State.repaverRead s k).memOk := by
  simp only [State.repaverRead]; (repeat' split) <;> simp +contextual (maxDischargeDepth := 19) [hm]

@[simp] theorem execRepaverPage_keeps (cyc : Nat) (s0 : State) :
    Keeps s0 (execRepaverPage cyc s0) := by
  simp only [execRepaverPage]
  repeat' split
  all_goals refine (keeps_next _ _).2 ⟨?_, fun hm => ?_⟩
  all_goals repeat' (first | split | refine (foldl_pending _ (fun _ _ => ?_) _ _).trans ?_ | refine (gate_pending _ _ _ fun _ => ?_).trans ?_ | refine foldl_memOk _ (fun _ _ _ => ?_) _ _ ?_ | refine gate_memOk _ _ _ ?_ fun _ _ => ?_)
  all_goals simp +contextual (maxDischargeDepth := 19) [*]

@[simp] theorem passDone_pending (s : State) (k : Nat) (op : Nat) (code : Nat) :
    (State.passDone s k op code).pending = s.pending := by simp [State.passDone]

@[simp] theorem passDone_memOk (s : State) (k : Nat) (op : Nat) (code : Nat) (hm : s.memOk) :
    (State.passDone s k op code).memOk := by simp +contextual (maxDischargeDepth := 19) [State.passDone, hm]

@[simp] theorem execRekeyDone_keeps (slot : Nat) (s : State) :
    Keeps s (execRekeyDone slot s) := by simp +contextual (maxDischargeDepth := 19) [execRekeyDone]

@[simp] theorem execFormatDone_keeps (slot : Nat) (s : State) :
    Keeps s (execFormatDone slot s) := by simp +contextual (maxDischargeDepth := 19) [execFormatDone]

@[simp] theorem execRepaverBoundarySave_keeps (s0 : State) :
    Keeps s0 (execRepaverBoundarySave s0) := by simp +contextual (maxDischargeDepth := 19) [execRepaverBoundarySave]

@[simp] theorem proposeAtFn_pending (s : State) (change : Nat) (subject : Nat) (value : Nat) :
    (State.proposeAtFn s change subject value).pending = s.pending := by simp [State.proposeAtFn]

@[simp] theorem proposeAtFn_memOk (s : State) (change : Nat) (subject : Nat) (value : Nat) (hm : s.memOk) :
    (State.proposeAtFn s change subject value).memOk := by simp +contextual (maxDischargeDepth := 19) [State.proposeAtFn, hm]

@[simp] theorem keyCommand_pending (s : State) (m : Master) (session : Nat) (payload : List (BitVec 8)) (format : Bool) :
    (State.keyCommand s m session payload format).pending = s.pending := by simp [State.keyCommand]

@[simp] theorem keyCommand_memOk (s : State) (m : Master) (session : Nat) (payload : List (BitVec 8)) (format : Bool) (hm : s.memOk) :
    (State.keyCommand s m session payload format).memOk := by
  unfold State.keyCommand; (repeat' split) <;> simp +contextual (maxDischargeDepth := 19) [hm]

@[simp] theorem execKeyRekey_keeps (m : Master) (session : Nat) (payload : List (BitVec 8)) (s : State) :
    Keeps s (execKeyRekey m session payload s) := by simp +contextual (maxDischargeDepth := 19) [execKeyRekey]

@[simp] theorem execKeyFormat_keeps (m : Master) (session : Nat) (payload : List (BitVec 8)) (s : State) :
    Keeps s (execKeyFormat m session payload s) := by simp +contextual (maxDischargeDepth := 19) [execKeyFormat]

@[simp] theorem execSecServiceRequest_keeps (word : BitVec 512) (s0 : State) :
    Keeps s0 (execSecServiceRequest word s0) := by
  simp only [execSecServiceRequest]
  repeat' split
  all_goals refine (keeps_next _ _).2 ⟨?_, fun hm => ?_⟩
  all_goals repeat' (first | split | refine (foldl_pending _ (fun _ _ => ?_) _ _).trans ?_ | refine (gate_pending _ _ _ fun _ => ?_).trans ?_ | refine foldl_memOk _ (fun _ _ _ => ?_) _ _ ?_ | refine gate_memOk _ _ _ ?_ fun _ _ => ?_)
  all_goals simp +contextual (maxDischargeDepth := 19) [*]

@[simp] theorem modIde_pending (s : State) (head : Nat) (stream : Nat) (dir : Nat) (f : IdeStream → IdeStream) :
    (State.modIde s head stream dir f).pending = s.pending := by simp [State.modIde]

@[simp] theorem modIde_memOk (s : State) (head : Nat) (stream : Nat) (dir : Nat) (f : IdeStream → IdeStream) (hm : s.memOk) :
    (State.modIde s head stream dir f).memOk := by simp [State.modIde, hm]

@[simp] theorem execIdeFail_keeps (head : Nat) (set : Nat) (check : Nat) (s0 : State) :
    Keeps s0 (execIdeFail head set check s0) := by simp +contextual (maxDischargeDepth := 19) [execIdeFail]

@[simp] theorem execKeyProg_keeps (session : Nat) (head : Nat) (stream : Nat) (set : Nat) (dir : Nat) (s0 : State) :
    Keeps s0 (execKeyProg session head stream set dir s0) := by simp +contextual (maxDischargeDepth := 19) [execKeyProg]

@[simp] theorem execKSetGo_keeps (session : Nat) (head : Nat) (stream : Nat) (set : Nat) (dir : Nat) (s0 : State) :
    Keeps s0 (execKSetGo session head stream set dir s0) := by simp +contextual (maxDischargeDepth := 19) [execKSetGo]

@[simp] theorem execKSetStop_keeps (session : Nat) (head : Nat) (stream : Nat) (set : Nat) (dir : Nat) (s0 : State) :
    Keeps s0 (execKSetStop session head stream set dir s0) := by simp +contextual (maxDischargeDepth := 19) [execKSetStop]

@[simp] theorem execFerryKeyUpdate_keeps (s0 : State) :
    Keeps s0 (execFerryKeyUpdate s0) := by simp +contextual (maxDischargeDepth := 19) [execFerryKeyUpdate]

@[simp] theorem execDebugUnlock_keeps (level : Nat) (key : Nat) (valid : Bool) (s0 : State) :
    Keeps s0 (execDebugUnlock level key valid s0) := by simp +contextual (maxDischargeDepth := 19) [execDebugUnlock]

end Sys2Proof.Machine
end

