-- ==== Sys2Proof/Laws/Keep/Integrity.lean ====
section
/-!
SUPPORT. What each operation of Machine/Integrity.lean keeps: the queue of commands, and the canonical form of the memories.
-/
namespace Sys2Proof.Machine

@[simp] theorem landWith_pending (s : State) (lpn : Nat) (js : List Nat) (f : Nat → Sector × Bool) :
    (State.landWith s lpn js f).1.pending = s.pending := by
  simp only [State.landWith]; (repeat' split) <;> simp

@[simp] theorem landWith_memOk (s : State) (lpn : Nat) (js : List Nat) (f : Nat → Sector × Bool) (hm : s.memOk) :
    (State.landWith s lpn js f).1.memOk := by
  simp only [State.landWith]; (repeat' split) <;> simp +contextual (maxDischargeDepth := 19) [hm]

@[simp] theorem sweepLost_pending (s : State) (psn : Nat) (ps : List Nat) :
    (State.sweepLost s psn ps).pending = s.pending := by
  simp only [State.sweepLost]; (repeat' split) <;> simp

@[simp] theorem sweepLost_memOk (s : State) (psn : Nat) (ps : List Nat) (hm : s.memOk) :
    (State.sweepLost s psn ps).memOk := by
  simp only [State.sweepLost]; (repeat' split) <;> simp +contextual (maxDischargeDepth := 19) [hm]

@[simp] theorem sweepBand_pending (s : State) (c : Nat) (psn : Nat) :
    (State.sweepBand s c psn).pending = s.pending := by simp [State.sweepBand]

@[simp] theorem sweepBand_memOk (s : State) (c : Nat) (psn : Nat) (hm : s.memOk) :
    (State.sweepBand s c psn).memOk := by simp +contextual (maxDischargeDepth := 19) [State.sweepBand, hm]

@[simp] theorem sweepNext_pending (s0 : State) (c : Nat) (psn : Nat) :
    (State.sweepNext s0 c psn).pending = s0.pending := by simp [State.sweepNext]

@[simp] theorem sweepNext_memOk (s0 : State) (c : Nat) (psn : Nat) (hm : s0.memOk) :
    (State.sweepNext s0 c psn).memOk := by simp +contextual (maxDischargeDepth := 19) [State.sweepNext, hm]

@[simp] theorem sweepTake_pending (s : State) (c : Nat) (m : MediaRead) :
    (State.sweepTake s c m).pending = s.pending := by
  simp only [State.sweepTake]; (repeat' split) <;> simp

@[simp] theorem sweepTake_memOk (s : State) (c : Nat) (m : MediaRead) (hm : s.memOk) :
    (State.sweepTake s c m).memOk := by
  simp only [State.sweepTake]; (repeat' split) <;> simp +contextual (maxDischargeDepth := 19) [hm]

@[simp] theorem sweepBegin_pending (s : State) (c psn : Nat) :
    (State.sweepBegin s c psn).pending = s.pending := by simp [State.sweepBegin]

@[simp] theorem sweepBegin_memOk (s : State) (c psn : Nat) (hm : s.memOk) :
    (State.sweepBegin s c psn).memOk := by simp +contextual (maxDischargeDepth := 19) [State.sweepBegin, hm]

@[simp] theorem execSweepMediaRead_keeps (cyc mch : Nat) (s0 : State) :
    Keeps s0 (execSweepMediaRead cyc mch s0) := by
  simp only [execSweepMediaRead, State.gate]
  refine (keeps_next _ _).2 ⟨?_, fun hm => ?_⟩
  all_goals repeat' split
  all_goals simp +contextual (maxDischargeDepth := 19) [*]

@[simp] theorem sweepLate_pending (s : State) (r : Nat) (pos : Nat) (len : Nat) :
    (State.sweepLate s r pos len).pending = s.pending := by simp [State.sweepLate]

@[simp] theorem sweepLate_memOk (s : State) (r : Nat) (pos : Nat) (len : Nat) (hm : s.memOk) :
    (State.sweepLate s r pos len).memOk := by simp +contextual (maxDischargeDepth := 19) [State.sweepLate, hm]

@[simp] theorem parityWith_pending (s : State) (psn : Nat) (ws : List Codeword) (p : Codeword) :
    (State.parityWith s psn ws p).pending = s.pending := by simp [State.parityWith]

@[simp] theorem parityWith_memOk (s : State) (psn : Nat) (ws : List Codeword) (p : Codeword) (hm : s.memOk) :
    (State.parityWith s psn ws p).memOk := by simp +contextual (maxDischargeDepth := 19) [State.parityWith, hm]

@[simp] theorem parityCheck_pending (s : State) (psn : Nat) :
    (State.parityCheck s psn).pending = s.pending := by simp [State.parityCheck]

@[simp] theorem parityCheck_memOk (s : State) (psn : Nat) (hm : s.memOk) :
    (State.parityCheck s psn).memOk := by simp +contextual (maxDischargeDepth := 19) [State.parityCheck, hm]

@[simp] theorem scanNote_pending (s : State) (lpn : Nat) :
    (State.scanNote s lpn).pending = s.pending := by simp [State.scanNote]

@[simp] theorem scanNote_memOk (s : State) (lpn : Nat) (hm : s.memOk) :
    (State.scanNote s lpn).memOk := by simp [State.scanNote, hm]

@[simp] theorem passBegin_pending (s : State) (region : Nat) :
    (State.passBegin s region).pending = s.pending := by simp [State.passBegin]

@[simp] theorem passBegin_memOk (s : State) (region : Nat) (hm : s.memOk) :
    (State.passBegin s region).memOk := by simp +contextual (maxDischargeDepth := 19) [State.passBegin, hm]

@[simp] theorem logicalBegin_pending (s : State) (region lpn : Nat) :
    (State.logicalBegin s region lpn).pending = s.pending := by simp [State.logicalBegin]

@[simp] theorem logicalBegin_memOk (s : State) (region lpn : Nat) (hm : s.memOk) :
    (State.logicalBegin s region lpn).memOk := by simp +contextual (maxDischargeDepth := 19) [State.logicalBegin, hm]

@[simp] theorem logicalCheck_pending (s : State) (psn : Nat) (rs : List MediaRead) :
    (State.logicalCheck s psn rs).pending = s.pending := by
  simp only [State.logicalCheck]; (repeat' split) <;> simp

@[simp] theorem logicalCheck_memOk (s : State) (psn : Nat) (rs : List MediaRead) (hm : s.memOk) :
    (State.logicalCheck s psn rs).memOk := by
  simp only [State.logicalCheck]; (repeat' split) <;> simp +contextual (maxDischargeDepth := 19) [hm]

@[simp] theorem logicalTake_pending (s : State) (region lpn psn pos len : Nat) :
    (State.logicalTake s region lpn psn pos len).pending = s.pending := by simp [State.logicalTake]

@[simp] theorem logicalTake_memOk (s : State) (region lpn psn pos len : Nat) (hm : s.memOk) :
    (State.logicalTake s region lpn psn pos len).memOk := by simp +contextual (maxDischargeDepth := 19) [State.logicalTake, hm]

@[simp] theorem execSweepLogicalRead_keeps (cyc region : Nat) (s0 : State) :
    Keeps s0 (execSweepLogicalRead cyc region s0) := by
  simp only [execSweepLogicalRead]; (repeat' split) <;> simp +contextual (maxDischargeDepth := 19)

@[simp] theorem peerLost_pending (s : State) (key : Nat) :
    (State.peerLost s key).pending = s.pending := by simp [State.peerLost]

@[simp] theorem peerLost_memOk (s : State) (key : Nat) (hm : s.memOk) :
    (State.peerLost s key).memOk := by simp +contextual (maxDischargeDepth := 19) [State.peerLost, hm]

@[simp] theorem peerGone_pending (s : State) :
    (State.peerGone s).pending = s.pending := by simp [State.peerGone]

@[simp] theorem peerGone_memOk (s : State) (hm : s.memOk) :
    (State.peerGone s).memOk := by simp +contextual (maxDischargeDepth := 19) [State.peerGone, hm]

@[simp] theorem execPeerRepaired_keeps (cyc : Nat) (lpn : Nat) (block : Nat) (data : BitVec 2048) (poison : BitVec 4) (readable : Bool) (s0 : State) :
    Keeps s0 (execPeerRepaired cyc lpn block data poison readable s0) := by simp +contextual (maxDischargeDepth := 19) [execPeerRepaired]

@[simp] theorem romRestart_pending (s : State) (pair : Nat) :
    (State.romRestart s pair).pending = s.pending := by
  unfold State.romRestart; (repeat' split) <;> simp

@[simp] theorem romRestart_memOk (s : State) (pair : Nat) (hm : s.memOk) :
    (State.romRestart s pair).memOk := by
  unfold State.romRestart; (repeat' split) <;> simp +contextual (maxDischargeDepth := 19) [hm]

@[simp] theorem mgtTrap_pending (s : State) (pair : Nat) (cause : Nat) (addr : Nat) :
    (State.mgtTrap s pair cause addr).pending = s.pending := by simp [State.mgtTrap]

@[simp] theorem mgtTrap_memOk (s : State) (pair : Nat) (cause : Nat) (addr : Nat) (hm : s.memOk) :
    (State.mgtTrap s pair cause addr).memOk := by simp [State.mgtTrap, hm]

@[simp] theorem sramLost_pending (s : State) (block : Nat) (site : Nat) (a : Nat) (b : Nat) (c : Nat) (addr : Nat) (both : Bool) :
    (State.sramLost s block site a b c addr both).pending = s.pending := by
  unfold State.sramLost; split <;> simp

@[simp] theorem sramLost_memOk (s : State) (block : Nat) (site : Nat) (a : Nat) (b : Nat) (c : Nat) (addr : Nat) (both : Bool) (hm : s.memOk) :
    (State.sramLost s block site a b c addr both).memOk := by
  unfold State.sramLost; split <;> simp +contextual (maxDischargeDepth := 19) [hm]

@[simp] theorem execSramSweepRead_keeps (block : Nat) (sram : Nat) (addr : Nat) (errs : Nat) (site : Nat) (a : Nat) (b : Nat) (c : Nat) (both : Bool) (last : Bool) (s0 : State) :
    Keeps s0 (execSramSweepRead block sram addr errs site a b c both last s0) := by simp +contextual (maxDischargeDepth := 19) [execSramSweepRead]

@[simp] theorem areaRestore_pending (s : State) (c x : Nat) :
    (State.areaRestore s c x).pending = s.pending := by simp [State.areaRestore]

@[simp] theorem areaRestore_memOk (s : State) (c x : Nat) (hm : s.memOk) :
    (State.areaRestore s c x).memOk := by simp +contextual (maxDischargeDepth := 19) [State.areaRestore, hm]

@[simp] theorem sweptLost_pending (s : State) (ch : Nat) (addr : Nat) :
    (State.sweptLost s ch addr).pending = s.pending := by
  unfold State.sweptLost; split <;> simp

@[simp] theorem sweptLost_memOk (s : State) (ch : Nat) (addr : Nat) (hm : s.memOk) :
    (State.sweptLost s ch addr).memOk := by
  unfold State.sweptLost; split <;> simp +contextual (maxDischargeDepth := 19) [hm]

@[simp] theorem sweptBurst_pending (s1 : State) (ch : Nat) (addr : Nat) (errs : Nat) (again : Nat) (dev : Nat) :
    (State.sweptBurst s1 ch addr errs again dev).pending = s1.pending := by simp [State.sweptBurst]

@[simp] theorem sweptBurst_memOk (s1 : State) (ch : Nat) (addr : Nat) (errs : Nat) (again : Nat) (dev : Nat) (hm : s1.memOk) :
    (State.sweptBurst s1 ch addr errs again dev).memOk := by simp +contextual (maxDischargeDepth := 19) [State.sweptBurst, hm]

@[simp] theorem execDramSweepRead_keeps (cyc : Nat) (ch : Nat) (addr : Nat) (errs : Nat) (again : Nat) (dev : Nat) (last : Bool) (s0 : State) :
    Keeps s0 (execDramSweepRead cyc ch addr errs again dev last s0) := by
  simp only [execDramSweepRead]
  repeat' split
  all_goals refine (keeps_next _ _).2 ⟨?_, fun hm => ?_⟩
  all_goals repeat' (first | split | refine (foldl_pending _ (fun _ _ => ?_) _ _).trans ?_ | refine (gate_pending _ _ _ fun _ => ?_).trans ?_ | refine foldl_memOk _ (fun _ _ _ => ?_) _ _ ?_ | refine gate_memOk _ _ _ ?_ fun _ _ => ?_)
  all_goals simp +contextual (maxDischargeDepth := 19) [*]

@[simp] theorem spoil_pending (s : State) (lpn i : Nat) :
    (State.spoil s lpn i).pending = s.pending := by
  simp only [State.spoil]; (repeat' split) <;> simp

@[simp] theorem spoil_memOk (s : State) (lpn i : Nat) (hm : s.memOk) :
    (State.spoil s lpn i).memOk := by
  simp only [State.spoil]; (repeat' split) <;> simp +contextual (maxDischargeDepth := 19) [hm]

@[simp] theorem datapathLost_pending (s : State) (kind : Nat) (id : Nat) :
    (State.datapathLost s kind id).pending = s.pending := by
  simp only [State.datapathLost]; (repeat' split) <;> simp

@[simp] theorem datapathLost_memOk (s : State) (kind : Nat) (id : Nat) (hm : s.memOk) :
    (State.datapathLost s kind id).memOk := by
  simp only [State.datapathLost]; (repeat' split) <;> simp +contextual (maxDischargeDepth := 19) [hm]

@[simp] theorem execDatapathRetried_keeps (block : Nat) (stage : Nat) (check : Nat) (again : Bool) (kind : Nat) (id : Nat) (s0 : State) :
    Keeps s0 (execDatapathRetried block stage check again kind id s0) := by simp +contextual (maxDischargeDepth := 19) [execDatapathRetried]

@[simp] theorem execMacWindowEnd_keeps (s0 : State) :
    Keeps s0 (execMacWindowEnd s0) := by simp +contextual (maxDischargeDepth := 19) [execMacWindowEnd]

@[simp] theorem execMgtCheckpoint_keeps (pair : Nat) (s0 : State) :
    Keeps s0 (execMgtCheckpoint pair s0) := by simp +contextual (maxDischargeDepth := 19) [execMgtCheckpoint]

@[simp] theorem execMgtLockstep_keeps (pair : Nat) (s0 : State) :
    Keeps s0 (execMgtLockstep pair s0) := by
  simp only [execMgtLockstep]
  repeat' split
  all_goals refine (keeps_next _ _).2 ⟨?_, fun hm => ?_⟩
  all_goals repeat' (first | split | refine (foldl_pending _ (fun _ _ => ?_) _ _).trans ?_ | refine (gate_pending _ _ _ fun _ => ?_).trans ?_ | refine foldl_memOk _ (fun _ _ _ => ?_) _ _ ?_ | refine gate_memOk _ _ _ ?_ fun _ _ => ?_)
  all_goals simp +contextual (maxDischargeDepth := 19) [*]

@[simp] theorem execMgtTrap_keeps (pair : Nat) (cause : Nat) (addr : Nat) (s0 : State) :
    Keeps s0 (execMgtTrap pair cause addr s0) := by simp +contextual (maxDischargeDepth := 19) [execMgtTrap]

@[simp] theorem execRomRestartDone_keeps (pair : Nat) (s0 : State) :
    Keeps s0 (execRomRestartDone pair s0) := by simp +contextual (maxDischargeDepth := 19) [execRomRestartDone]

end Sys2Proof.Machine
end

