-- ==== Sys2Proof/Laws/Keep/Image.lean ====
section
/-!
SUPPORT. What each operation of Machine/Image.lean keeps: the queue of commands, and the canonical form of the memories.
-/
namespace Sys2Proof.Machine

@[simp] theorem imgWord_pending (s : State) (b : Nat) (off : Nat) (v : Word) :
    (State.imgWord s b off v).pending = s.pending := by simp [State.imgWord]

@[simp] theorem imgWord_memOk (s : State) (b : Nat) (off : Nat) (v : Word) (hm : s.memOk) :
    (State.imgWord s b off v).memOk := by simp [State.imgWord, hm]

@[simp] theorem imgTable_pending (s : State) (b : Nat) (off : Nat) (len : Nat) (get : Nat → BitVec 8) :
    (State.imgTable s b off len get).pending = s.pending := by simp [State.imgTable]

@[simp] theorem imgTable_memOk (s : State) (b : Nat) (off : Nat) (len : Nat) (get : Nat → BitVec 8) (hm : s.memOk) :
    (State.imgTable s b off len get).memOk := by simp +contextual (maxDischargeDepth := 19) [State.imgTable, hm]

@[simp] theorem imgPut_pending (s : State) (b : Nat) (off : Nat) (v : Word) :
    (State.imgPut s b off v).pending = s.pending := by simp [State.imgPut]

@[simp] theorem imgPut_memOk (s : State) (b : Nat) (off : Nat) (v : Word) (hm : s.memOk) :
    (State.imgPut s b off v).memOk := by simp [State.imgPut, hm]

@[simp] theorem imgApply_pending (s : State) (r : ImgRec) :
    (State.imgApply s r).pending = s.pending := by
  unfold State.imgApply; split <;> simp

@[simp] theorem imgApply_memOk (s : State) (r : ImgRec) (hm : s.memOk) :
    (State.imgApply s r).memOk := by
  unfold State.imgApply; split <;> simp +contextual (maxDischargeDepth := 19) [hm]

@[simp] theorem imgScratch_memOk (s : State) (hm : s.memOk) : s.imgScratch.memOk := ⟨rfl, hm.2.1, rfl⟩

end Sys2Proof.Machine
end

