-- ==== Sys2Proof/Laws/Keep/Store.lean ====
section
/-!
SUPPORT. What each operation of Machine/Store.lean keeps: the queue of commands, and the canonical form of the memories.
-/
namespace Sys2Proof.Machine

@[simp] theorem protectSet_pending (s : State) :
    (State.protectSet s).pending = s.pending := by simp [State.protectSet]

@[simp] theorem protectSet_memOk (s : State) (hm : s.memOk) :
    (State.protectSet s).memOk := by simp [State.protectSet, hm]

@[simp] theorem imgOpenCmd_pending (s : State) :
    (State.imgOpenCmd s).pending = s.pending := by simp [State.imgOpenCmd]

@[simp] theorem imgOpenCmd_memOk (s : State) (hm : s.memOk) :
    (State.imgOpenCmd s).memOk := by simp +contextual (maxDischargeDepth := 19) [State.imgOpenCmd, hm]

@[simp] theorem imgCheckCmd_pending (s : State) :
    (State.imgCheckCmd s).pending = s.pending := by simp [State.imgCheckCmd]

@[simp] theorem imgCheckCmd_memOk (s : State) (hm : s.memOk) :
    (State.imgCheckCmd s).memOk := by simp +contextual (maxDischargeDepth := 19) [State.imgCheckCmd, hm]

@[simp] theorem execImageWindowOpen_keeps (s : State) :
    Keeps s (execImageWindowOpen s) := by simp +contextual (maxDischargeDepth := 19) [execImageWindowOpen]

@[simp] theorem execImageCheck_keeps (s : State) :
    Keeps s (execImageCheck s) := by simp +contextual (maxDischargeDepth := 19) [execImageCheck]

@[simp] theorem execImageCheckDone_keeps (sig : Bool) (s0 : State) :
    Keeps s0 (execImageCheckDone sig s0) := by simp +contextual (maxDischargeDepth := 19) [execImageCheckDone]

@[simp] theorem calOpenCmd_pending (s : State) :
    (State.calOpenCmd s).pending = s.pending := by simp [State.calOpenCmd]

@[simp] theorem calOpenCmd_memOk (s : State) (hm : s.memOk) :
    (State.calOpenCmd s).memOk := by simp +contextual (maxDischargeDepth := 19) [State.calOpenCmd, hm]

@[simp] theorem calWritten_pending (s : State) (source : Nat) :
    (State.calWritten s source).pending = s.pending := by simp [State.calWritten]

@[simp] theorem calWritten_memOk (s : State) (source : Nat) (hm : s.memOk) :
    (State.calWritten s source).memOk := by simp [State.calWritten, hm]

@[simp] theorem calCloseCmd_pending (s : State) :
    (State.calCloseCmd s).pending = s.pending := by simp [State.calCloseCmd]

@[simp] theorem calCloseCmd_memOk (s : State) (hm : s.memOk) :
    (State.calCloseCmd s).memOk := by simp +contextual (maxDischargeDepth := 19) [State.calCloseCmd, hm]

@[simp] theorem execCalWindowOpen_keeps (s : State) :
    Keeps s (execCalWindowOpen s) := by simp +contextual (maxDischargeDepth := 19) [execCalWindowOpen]

@[simp] theorem execCalWindowClose_keeps (s : State) :
    Keeps s (execCalWindowClose s) := by simp +contextual (maxDischargeDepth := 19) [execCalWindowClose]

@[simp] theorem storeWindow_pending (s : State) (m : Master) (off : Nat) (size : Nat) (be : BitVec 64) (v : BitVec 512) :
    (State.storeWindow s m off size be v).pending = s.pending := by simp [State.storeWindow]

@[simp] theorem storeWindow_memOk (s : State) (m : Master) (off : Nat) (size : Nat) (be : BitVec 64) (v : BitVec 512) (hm : s.memOk) :
    (State.storeWindow s m off size be v).memOk := by
  simp only [State.storeWindow]
  repeat' (first | split | refine foldl_memOk _ (fun _ _ _ => ?_) _ _ ?_ | refine gate_memOk _ _ _ ?_ fun _ _ => ?_)
  all_goals simp +contextual (maxDischargeDepth := 19) [*]

@[simp] theorem storePoke_pending (s : State) (a : Nat) (bs : List (BitVec 8)) :
    (State.storePoke s a bs).pending = s.pending := by simp [State.storePoke]

@[simp] theorem storePoke_memOk (s : State) (a : Nat) (bs : List (BitVec 8)) (hm : s.memOk) :
    (State.storePoke s a bs).memOk := by simp [State.storePoke, hm]

@[simp] theorem calGeneric_pending (s : State) :
    (State.calGeneric s).pending = s.pending := by simp [State.calGeneric]

@[simp] theorem calGeneric_memOk (s : State) (hm : s.memOk) :
    (State.calGeneric s).memOk := by simp +contextual (maxDischargeDepth := 19) [State.calGeneric, hm]

@[simp] theorem recalCurve_pending (s : State) (o : Nat × Nat × Int) :
    (State.recalCurve s o).pending = s.pending := by simp [State.recalCurve]

@[simp] theorem recalCurve_memOk (s : State) (o : Nat × Nat × Int) (hm : s.memOk) :
    (State.recalCurve s o).memOk := by simp +contextual (maxDischargeDepth := 19) [State.recalCurve, hm]

@[simp] theorem calSeal_pending (s : State) :
    (State.calSeal s).pending = s.pending := by simp [State.calSeal]

@[simp] theorem calSeal_memOk (s : State) (hm : s.memOk) :
    (State.calSeal s).memOk := by simp [State.calSeal, hm]

@[simp] theorem calDone_pending (s : State) :
    (State.calDone s).pending = s.pending := by simp [State.calDone]

@[simp] theorem calDone_memOk (s : State) (hm : s.memOk) :
    (State.calDone s).memOk := by simp [State.calDone, hm]

@[simp] theorem calRecal_pending (s : State) (offs : List (Nat × Nat × Int)) :
    (State.calRecal s offs).pending = s.pending := by simp [State.calRecal]

@[simp] theorem calRecal_memOk (s : State) (offs : List (Nat × Nat × Int)) (hm : s.memOk) :
    (State.calRecal s offs).memOk := by simp +contextual (maxDischargeDepth := 19) [State.calRecal, hm]

@[simp] theorem execEventRingWrite_keeps (ok : Bool) (s0 : State) :
    Keeps s0 (execEventRingWrite ok s0) := by
  simp only [execEventRingWrite]; (repeat' split) <;> simp +contextual (maxDischargeDepth := 19)

end Sys2Proof.Machine
end

