-- ==== Sys2Proof/Laws/Keep/Maintenance.lean ====
section
/-!
SUPPORT. What each operation of Machine/Maintenance.lean keeps: the queue of commands, and the canonical form of the memories.
-/
namespace Sys2Proof.Machine

@[simp] theorem recalStart_pending (s0 : State) (m : Master) (payload : List (BitVec 8)) :
    (State.recalStart s0 m payload).pending = s0.pending := by simp [State.recalStart]

@[simp] theorem recalStart_memOk (s0 : State) (m : Master) (payload : List (BitVec 8)) (hm : s0.memOk) :
    (State.recalStart s0 m payload).memOk := by simp +contextual (maxDischargeDepth := 19) [State.recalStart, hm]

@[simp] theorem execRecalibrate_keeps (m : Master) (payload : List (BitVec 8)) (s : State) :
    Keeps s (execRecalibrate m payload s) := by simp +contextual (maxDischargeDepth := 19) [execRecalibrate]

@[simp] theorem execRecalDone_keeps (offs : List (Nat × Nat × Int)) (ok : Bool) (s0 : State) :
    Keeps s0 (execRecalDone offs ok s0) := by simp +contextual (maxDischargeDepth := 19) [execRecalDone]

@[simp] theorem capStart_pending (s : State) :
    (State.capStart s).pending = s.pending := by
  unfold State.capStart; (repeat' split) <;> simp

@[simp] theorem capStart_memOk (s : State) (hm : s.memOk) :
    (State.capStart s).memOk := by
  unfold State.capStart; (repeat' split) <;> simp +contextual (maxDischargeDepth := 19) [hm]

@[simp] theorem execCapacitorHealthTest_keeps (s0 : State) :
    Keeps s0 (execCapacitorHealthTest s0) := by simp +contextual (maxDischargeDepth := 19) [execCapacitorHealthTest]

@[simp] theorem execBankTest_keeps (cm : Nat) (esr : Nat) (timeout : Bool) (s0 : State) :
    Keeps s0 (execBankTest cm esr timeout s0) := by simp +contextual (maxDischargeDepth := 19) [execBankTest]

@[simp] theorem execBankMonitor_keeps (cells : List Nat) (vres : Nat) (fell : Bool) (s0 : State) :
    Keeps s0 (execBankMonitor cells vres fell s0) := by
  simp only [execBankMonitor]; (repeat' split) <;> simp +contextual (maxDischargeDepth := 19)

@[simp] theorem zeroDram_pending (s : State) :
    (State.zeroDram s).pending = s.pending := by simp [State.zeroDram]

@[simp] theorem zeroDram_memOk (s : State) (hm : s.memOk) :
    (State.zeroDram s).memOk := ⟨rfl, hm.2.1, hm.2.2⟩

@[simp] theorem actBegin_pending (s : State) (a : Nat) :
    (State.actBegin s a).pending = s.pending := by
  unfold State.actBegin; (repeat' split) <;> simp

@[simp] theorem actBegin_memOk (s : State) (a : Nat) (hm : s.memOk) :
    (State.actBegin s a).memOk := by
  unfold State.actBegin; (repeat' split) <;> simp +contextual (maxDischargeDepth := 19) [hm]

@[simp] theorem execActResumed_keeps (activity : Nat) (s0 : State) :
    Keeps s0 (execActResumed activity s0) := by
  simp only [execActResumed]; (repeat' split) <;> simp +contextual (maxDischargeDepth := 19)

@[simp] theorem execMoorRefreshWake_keeps (s0 : State) :
    Keeps s0 (execMoorRefreshWake s0) := by simp +contextual (maxDischargeDepth := 19) [execMoorRefreshWake]

end Sys2Proof.Machine
end

