-- ==== Sys2Proof/Laws/Keep/Barge.lean ====
section
/-!
SUPPORT. What each operation of Machine/Barge.lean keeps: the queue of commands, and the canonical form of the memories.
-/
namespace Sys2Proof.Machine

@[simp] theorem doorbell_pending (s : State) (n : Nat) (tail : Nat) (cause : Nat) :
    (State.doorbell s n tail cause).pending = s.pending := by simp [State.doorbell]

@[simp] theorem doorbell_memOk (s : State) (n : Nat) (tail : Nat) (cause : Nat) (hm : s.memOk) :
    (State.doorbell s n tail cause).memOk := by simp [State.doorbell, hm]

@[simp] theorem execBargeDoorbell_keeps (m : Master) (payload : List (BitVec 8)) (s : State) :
    Keeps s (execBargeDoorbell m payload s) := by simp +contextual (maxDischargeDepth := 19) [execBargeDoorbell]

@[simp] theorem bargeGoOn_pending (s : State) (n : Nat) :
    (State.bargeGoOn s n).pending = s.pending := by simp [State.bargeGoOn]

@[simp] theorem bargeGoOn_memOk (s : State) (n : Nat) (hm : s.memOk) :
    (State.bargeGoOn s n).memOk := by simp +contextual (maxDischargeDepth := 19) [State.bargeGoOn, hm]

@[simp] theorem execBargeResume_keeps (ch : Nat) (s : State) :
    Keeps s (execBargeResume ch s) := by simp +contextual (maxDischargeDepth := 19) [execBargeResume]

@[simp] theorem bargeRun_pending (s : State) (n : Nat) :
    (State.bargeRun s n).pending = s.pending := by simp [State.bargeRun]

@[simp] theorem bargeRun_memOk (s : State) (n : Nat) (hm : s.memOk) :
    (State.bargeRun s n).memOk := by simp [State.bargeRun, hm]

@[simp] theorem bargePropose_pending (s : State) (n : Nat) (d : Descriptor) :
    (State.bargePropose s n d).pending = s.pending := by simp [State.bargePropose]

@[simp] theorem bargePropose_memOk (s : State) (n : Nat) (d : Descriptor) (hm : s.memOk) :
    (State.bargePropose s n d).memOk := by simp +contextual (maxDischargeDepth := 19) [State.bargePropose, hm]

@[simp] theorem execDescriptorStart_keeps (ch : Nat) (s0 : State) :
    Keeps s0 (execDescriptorStart ch s0) := by
  simp only [execDescriptorStart]; (repeat' split) <;> simp +contextual (maxDischargeDepth := 19)

@[simp] theorem bargeStep_pending (s : State) (n : Nat) (ev : Nat) :
    (State.bargeStep s n ev).pending = s.pending := by simp [State.bargeStep]

@[simp] theorem bargeStep_memOk (s : State) (n : Nat) (ev : Nat) (hm : s.memOk) :
    (State.bargeStep s n ev).memOk := by simp +contextual (maxDischargeDepth := 19) [State.bargeStep, hm]

@[simp] theorem bargeAhead_pending (s : State) (n k : Nat) :
    (State.bargeAhead s n k).pending = s.pending := by
  simp only [State.bargeAhead]; (repeat' split) <;> simp

@[simp] theorem bargeAhead_memOk (s : State) (n k : Nat) (hm : s.memOk) :
    (State.bargeAhead s n k).memOk := by
  simp only [State.bargeAhead]; (repeat' split) <;> simp +contextual (maxDischargeDepth := 19) [hm]

@[simp] theorem bargeUsed_pending (s : State) (n dpa : Nat) (last : Bool) :
    (State.bargeUsed s n dpa last).pending = s.pending := by simp [State.bargeUsed]

@[simp] theorem bargeUsed_memOk (s : State) (n dpa : Nat) (last : Bool) (hm : s.memOk) :
    (State.bargeUsed s n dpa last).memOk := by simp +contextual (maxDischargeDepth := 19) [State.bargeUsed, hm]

@[simp] theorem bargeBad_pending (s : State) (n : Nat) (d : Descriptor) (a : Nat) :
    (State.bargeBad s n d a).pending = s.pending := by
  simp only [State.bargeBad]; (repeat' split) <;> simp

@[simp] theorem bargeBad_memOk (s : State) (n : Nat) (d : Descriptor) (a : Nat) (hm : s.memOk) :
    (State.bargeBad s n d a).memOk := by
  simp only [State.bargeBad]; (repeat' split) <;> simp +contextual (maxDischargeDepth := 19) [hm]

@[simp] theorem bargeReadOne_pending (s : State) (n : Nat) :
    (State.bargeReadOne s n).pending = s.pending := by
  simp only [State.bargeReadOne]; (repeat' split) <;> simp

@[simp] theorem bargeReadOne_memOk (s : State) (n : Nat) (hm : s.memOk) :
    (State.bargeReadOne s n).memOk := by
  simp only [State.bargeReadOne]; (repeat' split) <;> simp +contextual (maxDischargeDepth := 19) [hm]

@[simp] theorem bargeWriteOne_pending (s : State) (n : Nat) (bad : List Nat) :
    (State.bargeWriteOne s n bad).pending = s.pending := by
  simp only [State.bargeWriteOne]; (repeat' split) <;> simp

@[simp] theorem bargeWriteOne_memOk (s : State) (n : Nat) (bad : List Nat) (hm : s.memOk) :
    (State.bargeWriteOne s n bad).memOk := by
  simp only [State.bargeWriteOne]; (repeat' split) <;> simp +contextual (maxDischargeDepth := 19) [hm]

@[simp] theorem repeatOn_pending (f : State → State) (h : ∀ x, (f x).pending = x.pending) (k : Nat) (s : State) :
    (repeatOn f k s).pending = s.pending := by
  induction k generalizing s with
  | zero => rfl
  | succ k ih => exact (ih _).trans (h s)

@[simp] theorem repeatOn_memOk (f : State → State) (h : ∀ x, x.memOk → (f x).memOk) (k : Nat) (s : State) (hm : s.memOk) :
    (repeatOn f k s).memOk := by
  induction k generalizing s with
  | zero => exact hm
  | succ k ih => exact ih _ (h s hm)

@[simp] theorem bargePhase_pending (s : State) (n : Nat) :
    (State.bargePhase s n).pending = s.pending := by
  simp only [State.bargePhase]; (repeat' split) <;> simp

@[simp] theorem bargePhase_memOk (s : State) (n : Nat) (hm : s.memOk) :
    (State.bargePhase s n).memOk := by
  simp only [State.bargePhase]; (repeat' split) <;> simp +contextual (maxDischargeDepth := 19) [hm]

@[simp] theorem bargeMove_pending (s : State) (n : Nat) (k : Nat) (op : Nat) (lost : List Nat) :
    (State.bargeMove s n k op lost).pending = s.pending := by
  simp only [State.bargeMove]
  repeat' (first | split | refine (foldl_pending _ (fun _ _ => ?_) _ _).trans ?_ | refine (gate_pending _ _ _ fun _ => ?_).trans ?_)
  all_goals simp

@[simp] theorem bargeMove_memOk (s : State) (n : Nat) (k : Nat) (op : Nat) (lost : List Nat) (hm : s.memOk) :
    (State.bargeMove s n k op lost).memOk := by
  simp only [State.bargeMove]
  repeat' (first | split | refine foldl_memOk _ (fun _ _ _ => ?_) _ _ ?_ | refine gate_memOk _ _ _ ?_ fun _ _ => ?_)
  all_goals simp +contextual (maxDischargeDepth := 19) [*]

@[simp] theorem execBargeCopy_keeps (cyc : Nat) (ch : Nat) (sectors : Nat) (lost : List Nat) (s : State) :
    Keeps s (execBargeCopy cyc ch sectors lost s) := by simp +contextual (maxDischargeDepth := 19) [execBargeCopy]

@[simp] theorem execBargeFill_keeps (cyc : Nat) (ch : Nat) (sectors : Nat) (s : State) :
    Keeps s (execBargeFill cyc ch sectors s) := by simp +contextual (maxDischargeDepth := 19) [execBargeFill]

@[simp] theorem execBargeZero_keeps (cyc : Nat) (ch : Nat) (sectors : Nat) (s : State) :
    Keeps s (execBargeZero cyc ch sectors s) := by simp +contextual (maxDischargeDepth := 19) [execBargeZero]

@[simp] theorem execBargeCrc_keeps (cyc ch sectors : Nat) (s : State) :
    Keeps s (execBargeCrc cyc ch sectors s) := by simp +contextual (maxDischargeDepth := 19) [execBargeCrc]

@[simp] theorem bargeFinish_pending (s : State) (n : Nat) (d : Descriptor) :
    (State.bargeFinish s n d).pending = s.pending := by simp [State.bargeFinish]

@[simp] theorem bargeFinish_memOk (s : State) (n : Nat) (d : Descriptor) (hm : s.memOk) :
    (State.bargeFinish s n d).memOk := by simp +contextual (maxDischargeDepth := 19) [State.bargeFinish, hm]

@[simp] theorem bargeBoth_pending (s : State) (n : Nat) :
    (State.bargeBoth s n).pending = s.pending := by
  unfold State.bargeBoth; split <;> simp

@[simp] theorem bargeBoth_memOk (s : State) (n : Nat) (hm : s.memOk) :
    (State.bargeBoth s n).memOk := by
  unfold State.bargeBoth; split <;> simp +contextual (maxDischargeDepth := 19) [hm]

@[simp] theorem execBargeComplete_keeps (ch : Nat) (s0 : State) :
    Keeps s0 (execBargeComplete ch s0) := by
  simp only [execBargeComplete]
  repeat' split
  all_goals refine (keeps_next _ _).2 ⟨?_, fun hm => ?_⟩
  all_goals repeat' (first | split | refine (foldl_pending _ (fun _ _ => ?_) _ _).trans ?_ | refine (gate_pending _ _ _ fun _ => ?_).trans ?_ | refine foldl_memOk _ (fun _ _ _ => ?_) _ _ ?_ | refine gate_memOk _ _ _ ?_ fun _ _ => ?_)
  all_goals simp +contextual (maxDischargeDepth := 19) [*]

end Sys2Proof.Machine
end

