-- ==== Sys2Proof/Laws/Keep/Power.lean ====
section
/-!
SUPPORT. What each operation of Machine/Power.lean keeps: the queue of commands, and the canonical form of the memories.
-/
namespace Sys2Proof.Machine

@[simp] theorem powerOff_pending (s : State) (aux : Bool) (to' : Nat) :
    (State.powerOff s aux to').pending = s.pending := by simp [State.powerOff]

@[simp] theorem powerOff_memOk (s : State) (aux : Bool) (to' : Nat) (hm : s.memOk) :
    (State.powerOff s aux to').memOk := ⟨rfl, hm.2.1, hm.2.2⟩

@[simp] theorem flushFor_pending (s : State) (cause : Nat) (halt : Bool) (onBank : Bool) :
    (State.flushFor s cause halt onBank).pending = s.pending := by simp [State.flushFor]

@[simp] theorem flushFor_memOk (s : State) (cause : Nat) (halt : Bool) (onBank : Bool) (hm : s.memOk) :
    (State.flushFor s cause halt onBank).memOk := by simp [State.flushFor, hm]

@[simp] theorem offRequest_pending (s : State) :
    (State.offRequest s).pending = s.pending := by simp [State.offRequest]

@[simp] theorem offRequest_memOk (s : State) (hm : s.memOk) :
    (State.offRequest s).memOk := by simp +contextual (maxDischargeDepth := 19) [State.offRequest, hm]

@[simp] theorem offStand_pending (s : State) :
    (State.offStand s).pending = s.pending := by simp [State.offStand]

@[simp] theorem offStand_memOk (s : State) (hm : s.memOk) :
    (State.offStand s).memOk := by simp +contextual (maxDischargeDepth := 19) [State.offStand, hm]

@[simp] theorem onRequest_pending (s : State) (cause : Nat) :
    (State.onRequest s cause).pending = s.pending := by simp [State.onRequest]

@[simp] theorem onRequest_memOk (s : State) (cause : Nat) (hm : s.memOk) :
    (State.onRequest s cause).memOk := by simp [State.onRequest, hm]

@[simp] theorem execPwrReqOff_keeps (s : State) :
    Keeps s (execPwrReqOff s) := by simp +contextual (maxDischargeDepth := 19) [execPwrReqOff]

@[simp] theorem flushCount_pending (s : State) :
    (State.flushCount s).pending = s.pending := by simp [State.flushCount]

@[simp] theorem flushCount_memOk (s : State) (hm : s.memOk) :
    (State.flushCount s).memOk := by simp [State.flushCount, hm]

@[simp] theorem flushSave_pending (s0 : State) :
    (State.flushSave s0).pending = s0.pending := by simp [State.flushSave]

@[simp] theorem flushSave_memOk (s0 : State) (hm : s0.memOk) :
    (State.flushSave s0).memOk := by simp +contextual (maxDischargeDepth := 19) [State.flushSave, hm]

@[simp] theorem execPowerDown_keeps (s0 : State) :
    Keeps s0 (execPowerDown s0) := by
  simp only [execPowerDown]; (repeat' split) <;> simp +contextual (maxDischargeDepth := 19)

@[simp] theorem execFlushAbort_keeps (vres : Nat) (s0 : State) :
    Keeps s0 (execFlushAbort vres s0) := by simp +contextual (maxDischargeDepth := 19) [execFlushAbort]

@[simp] theorem railSet_pending (s : State) (r : Nat) (st : Nat) (mv : Nat) :
    (State.railSet s r st mv).pending = s.pending := by simp [State.railSet]

@[simp] theorem railSet_memOk (s : State) (r : Nat) (st : Nat) (mv : Nat) (hm : s.memOk) :
    (State.railSet s r st mv).memOk := by simp [State.railSet, hm]

@[simp] theorem mainLost_pending (s : State) :
    (State.mainLost s).pending = s.pending := by simp [State.mainLost]

@[simp] theorem mainLost_memOk (s : State) (hm : s.memOk) :
    (State.mainLost s).memOk := by simp +contextual (maxDischargeDepth := 19) [State.mainLost, hm]

@[simp] theorem execMainPowerLoss_keeps (mv : Nat) (s0 : State) :
    Keeps s0 (execMainPowerLoss mv s0) := by simp +contextual (maxDischargeDepth := 19) [execMainPowerLoss]

@[simp] theorem execRailWarn_keeps (rail : Nat) (mv : Nat) (s0 : State) :
    Keeps s0 (execRailWarn rail mv s0) := by simp +contextual (maxDischargeDepth := 19) [execRailWarn]

@[simp] theorem release_pending (s : State) (rs : List Nat) :
    (State.release s rs).pending = s.pending := by simp [State.release]

@[simp] theorem release_memOk (s : State) (rs : List Nat) (hm : s.memOk) :
    (State.release s rs).memOk := by simp [State.release, hm]

@[simp] theorem dramLost_pending (s : State) :
    (State.dramLost s).pending = s.pending := by simp [State.dramLost]

@[simp] theorem dramLost_memOk (s : State) (hm : s.memOk) :
    (State.dramLost s).memOk := by simp +contextual (maxDischargeDepth := 19) [State.dramLost, hm]

@[simp] theorem railFails_pending (s : State) (rail : Nat) (mv : Nat) :
    (State.railFails s rail mv).pending = s.pending := by
  simp only [State.railFails]; (repeat' split) <;> simp

@[simp] theorem railFails_memOk (s : State) (rail : Nat) (mv : Nat) (hm : s.memOk) :
    (State.railFails s rail mv).memOk := by
  simp only [State.railFails]; (repeat' split) <;> simp +contextual (maxDischargeDepth := 19) [hm]

@[simp] theorem railLateFault_pending (s : State) (rail : Nat) :
    (State.railLateFault s rail).pending = s.pending := by simp [State.railLateFault]

@[simp] theorem railLateFault_memOk (s : State) (rail : Nat) (hm : s.memOk) :
    (State.railLateFault s rail).memOk := by simp +contextual (maxDischargeDepth := 19) [State.railLateFault, hm]

@[simp] theorem execRailFault_keeps (rail : Nat) (mv : Nat) (s0 : State) :
    Keeps s0 (execRailFault rail mv s0) := by
  simp only [execRailFault]
  repeat' split
  all_goals refine (keeps_next _ _).2 ⟨?_, fun hm => ?_⟩
  all_goals repeat' (first | split | refine (foldl_pending _ (fun _ _ => ?_) _ _).trans ?_ | refine (gate_pending _ _ _ fun _ => ?_).trans ?_ | refine foldl_memOk _ (fun _ _ _ => ?_) _ _ ?_ | refine gate_memOk _ _ _ ?_ fun _ _ => ?_)
  all_goals simp +contextual (maxDischargeDepth := 19) [*]

@[simp] theorem execRailInTolerance_keeps (rail : Nat) (mv : Nat) (s0 : State) :
    Keeps s0 (execRailInTolerance rail mv s0) := by simp +contextual (maxDischargeDepth := 19) [execRailInTolerance]

@[simp] theorem powerUp_pending (s : State) (miss : Option (Nat × Nat)) :
    (State.powerUp s miss).pending = s.pending := by
  unfold State.powerUp; (repeat' split) <;> simp

@[simp] theorem powerUp_memOk (s : State) (miss : Option (Nat × Nat)) (hm : s.memOk) :
    (State.powerUp s miss).memOk := by
  unfold State.powerUp; (repeat' split) <;> simp +contextual (maxDischargeDepth := 19) [hm]

@[simp] theorem execPowerUp_keeps (miss : Option (Nat × Nat)) (s0 : State) :
    Keeps s0 (execPowerUp miss s0) := by simp +contextual (maxDischargeDepth := 19) [execPowerUp]

@[simp] theorem execPowerUpRetry_keeps (miss : Option (Nat × Nat)) (s0 : State) :
    Keeps s0 (execPowerUpRetry miss s0) := by simp +contextual (maxDischargeDepth := 19) [execPowerUpRetry]

@[simp] theorem execIdleEntry_keeps (s0 : State) :
    Keeps s0 (execIdleEntry s0) := by simp +contextual (maxDischargeDepth := 19) [execIdleEntry]

@[simp] theorem moorRequest_pending (s : State) :
    (State.moorRequest s).pending = s.pending := by
  unfold State.moorRequest; (repeat' split) <;> simp

@[simp] theorem moorRequest_memOk (s : State) (hm : s.memOk) :
    (State.moorRequest s).memOk := by
  unfold State.moorRequest; (repeat' split) <;> simp +contextual (maxDischargeDepth := 19) [hm]

@[simp] theorem execPwrReqMoored_keeps (s : State) :
    Keeps s (execPwrReqMoored s) := by simp +contextual (maxDischargeDepth := 19) [execPwrReqMoored]

@[simp] theorem execPwrReqOpen_keeps (s : State) :
    Keeps s (execPwrReqOpen s) := by simp +contextual (maxDischargeDepth := 19) [execPwrReqOpen]

@[simp] theorem execMooredWake_keeps (cause : Nat) (failed : List Nat) (s0 : State) :
    Keeps s0 (execMooredWake cause failed s0) := by simp +contextual (maxDischargeDepth := 19) [execMooredWake]

@[simp] theorem classReq_pending (s : State) (c : Nat) :
    (State.classReq s c).pending = s.pending := by simp [State.classReq]

@[simp] theorem classReq_memOk (s : State) (c : Nat) (hm : s.memOk) :
    (State.classReq s c).memOk := by simp [State.classReq, hm]

@[simp] theorem execSlotPowerLimit_keeps (watts : Nat) (s0 : State) :
    Keeps s0 (execSlotPowerLimit watts s0) := by
  simp only [execSlotPowerLimit]
  repeat' split
  all_goals refine (keeps_next _ _).2 ⟨?_, fun hm => ?_⟩
  all_goals repeat' (first | split | refine (foldl_pending _ (fun _ _ => ?_) _ _).trans ?_ | refine (gate_pending _ _ _ fun _ => ?_).trans ?_ | refine foldl_memOk _ (fun _ _ _ => ?_) _ _ ?_ | refine gate_memOk _ _ _ ?_ fun _ _ => ?_)
  all_goals simp +contextual (maxDischargeDepth := 19) [*]

@[simp] theorem execPowerClassSet_keeps (m : Master) (payload : List (BitVec 8)) (s : State) :
    Keeps s (execPowerClassSet m payload s) := by simp +contextual (maxDischargeDepth := 19) [execPowerClassSet]

@[simp] theorem execThermalStep_keeps (temp : Int) (s0 : State) :
    Keeps s0 (execThermalStep temp s0) := by simp +contextual (maxDischargeDepth := 19) [execThermalStep]

@[simp] theorem execThermalTrip_keeps (part : Nat) (ch : Nat) (die : Nat) (temp : Int) (s0 : State) :
    Keeps s0 (execThermalTrip part ch die temp s0) := by simp +contextual (maxDischargeDepth := 19) [execThermalTrip]

@[simp] theorem execTickLost_keeps (causeMain : OscCause) (causeBackup : OscCause) (s0 : State) :
    Keeps s0 (execTickLost causeMain causeBackup s0) := by simp +contextual (maxDischargeDepth := 19) [execTickLost]

end Sys2Proof.Machine
end

