-- ==== Sys2Proof/Laws/Keep/View.lean ====
section
/-!
SUPPORT. What each operation of Machine/View.lean keeps: the queue of commands, and the canonical form of the memories.
-/
namespace Sys2Proof.Machine

@[simp] theorem busRead_pending (s : State) (m : Master) (off : Nat) (size : Nat) :
    (State.busRead s m off size).1.pending = s.pending := by
  simp only [State.busRead]; (repeat' split) <;> simp

@[simp] theorem busRead_memOk (s : State) (m : Master) (off : Nat) (size : Nat) (hm : s.memOk) :
    (State.busRead s m off size).1.memOk := by
  simp only [State.busRead]; (repeat' split) <;> simp +contextual (maxDischargeDepth := 19) [hm]

end Sys2Proof.Machine
end

