-- ==== Sys2Proof/Laws/Keep/Reset.lean ====
section
/-!
SUPPORT. What each operation of Machine/Reset.lean keeps: the queue of commands, and the canonical form of the memories.
-/
namespace Sys2Proof.Machine

@[simp] theorem mapHead_pending (s : State) (h : Nat) (f : HostReq → HostReq) :
    (State.mapHead s h f).pending = s.pending := by simp [State.mapHead]

@[simp] theorem mapHead_memOk (s : State) (h : Nat) (f : HostReq → HostReq) (hm : s.memOk) :
    (State.mapHead s h f).memOk := by simp [State.mapHead, hm]

@[simp] theorem muteHead_pending (s : State) (h : Nat) :
    (State.muteHead s h).pending = s.pending := by simp [State.muteHead]

@[simp] theorem muteHead_memOk (s : State) (h : Nat) (hm : s.memOk) :
    (State.muteHead s h).memOk := by simp [State.muteHead, hm]

@[simp] theorem dropRequests_pending (s : State) (h : Nat) :
    (State.dropRequests s h).pending = s.pending := by simp [State.dropRequests]

@[simp] theorem dropRequests_memOk (s : State) (h : Nat) (hm : s.memOk) :
    (State.dropRequests s h).memOk := by simp +contextual (maxDischargeDepth := 19) [State.dropRequests, hm]

@[simp] theorem warmRecord_pending (s : State) (h : Nat) (kind : Nat) (discarded : Nat) :
    (State.warmRecord s h kind discarded).pending = s.pending := by simp [State.warmRecord]

@[simp] theorem warmRecord_memOk (s : State) (h : Nat) (kind : Nat) (discarded : Nat) (hm : s.memOk) :
    (State.warmRecord s h kind discarded).memOk := by simp [State.warmRecord, hm]

@[simp] theorem dropDoe_pending (s : State) (h : Nat) :
    (State.dropDoe s h).pending = s.pending := by simp [State.dropDoe]

@[simp] theorem dropDoe_memOk (s : State) (h : Nat) (hm : s.memOk) :
    (State.dropDoe s h).memOk := by simp [State.dropDoe, hm]

@[simp] theorem warmReset_pending (s : State) (h : Nat) :
    (State.warmReset s h).pending = s.pending := by simp [State.warmReset]

@[simp] theorem warmReset_memOk (s : State) (h : Nat) (hm : s.memOk) :
    (State.warmReset s h).memOk := by simp +contextual (maxDischargeDepth := 19) [State.warmReset, hm]

@[simp] theorem execPerstAssert_keeps (head : Fin 2) (s0 : State) :
    Keeps s0 (execPerstAssert head s0) := by simp +contextual (maxDischargeDepth := 19) [execPerstAssert]

@[simp] theorem execPerstDeassert_keeps (head : Fin 2) (s0 : State) :
    Keeps s0 (execPerstDeassert head s0) := by simp +contextual (maxDischargeDepth := 19) [execPerstDeassert]

@[simp] theorem execFlr_keeps (head : Fin 2) (s0 : State) :
    Keeps s0 (execFlr head s0) := by simp +contextual (maxDischargeDepth := 19) [execFlr]

@[simp] theorem execCxlReset_keeps (head : Fin 2) (s0 : State) :
    Keeps s0 (execCxlReset head s0) := by simp +contextual (maxDischargeDepth := 19) [execCxlReset]

@[simp] theorem coldReset_pending (s : State) :
    (State.coldReset s).pending = s.pending := by simp [State.coldReset]

@[simp] theorem coldReset_memOk (s : State) (hm : s.memOk) :
    (State.coldReset s).memOk := by simp [State.coldReset, hm]

@[simp] theorem execColdReset_keeps (s : State) :
    Keeps s (execColdReset s) := by simp +contextual (maxDischargeDepth := 19) [execColdReset]

@[simp] theorem resetRegs_pending (s : State) (b : Nat) :
    (State.resetRegs s b).pending = s.pending := by simp [State.resetRegs]

@[simp] theorem resetRegs_memOk (s : State) (b : Nat) (hm : s.memOk) :
    (State.resetRegs s b).memOk := by simp [State.resetRegs, hm]

@[simp] theorem resetCen_pending (s : State) :
    (State.resetCen s).pending = s.pending := by simp [State.resetCen]

@[simp] theorem resetCen_memOk (s : State) (hm : s.memOk) :
    (State.resetCen s).memOk := by simp [State.resetCen, hm]

@[simp] theorem resetBrg_pending (s : State) :
    (State.resetBrg s).pending = s.pending := by simp [State.resetBrg]

@[simp] theorem resetBrg_memOk (s : State) (hm : s.memOk) :
    (State.resetBrg s).memOk := by simp +contextual (maxDischargeDepth := 19) [State.resetBrg, hm]

@[simp] theorem softReset_pending (s : State) (page : Nat) (m : Master) :
    (State.softReset s page m).pending = s.pending := by
  unfold State.softReset; split <;> simp

@[simp] theorem softReset_memOk (s : State) (page : Nat) (m : Master) (hm : s.memOk) :
    (State.softReset s page m).memOk := by
  unfold State.softReset; split <;> simp +contextual (maxDischargeDepth := 19) [hm]

@[simp] theorem execSoftReset_keeps (m : Master) (page : Nat) (s : State) :
    Keeps s (execSoftReset m page s) := by simp +contextual (maxDischargeDepth := 19) [execSoftReset]

@[simp] theorem execPwrdisAssert_keeps (s0 : State) :
    Keeps s0 (execPwrdisAssert s0) := by simp +contextual (maxDischargeDepth := 19) [execPwrdisAssert]

@[simp] theorem execPwrdisDeassert_keeps (s0 : State) :
    Keeps s0 (execPwrdisDeassert s0) := by simp +contextual (maxDischargeDepth := 19) [execPwrdisDeassert]

@[simp] theorem execPrsntHigh_keeps (s0 : State) :
    Keeps s0 (execPrsntHigh s0) := by simp +contextual (maxDischargeDepth := 19) [execPrsntHigh]

@[simp] theorem execPrsntLow_keeps (s0 : State) :
    Keeps s0 (execPrsntLow s0) := by simp +contextual (maxDischargeDepth := 19) [execPrsntLow]

@[simp] theorem execInputFault_keeps (s0 : State) :
    Keeps s0 (execInputFault s0) := by simp +contextual (maxDischargeDepth := 19) [execInputFault]

@[simp] theorem execFerryPresChange_keeps (present : Bool) (s0 : State) :
    Keeps s0 (execFerryPresChange present s0) := by simp +contextual (maxDischargeDepth := 19) [execFerryPresChange]

@[simp] theorem execSmbclkLowTimeout_keeps (s0 : State) :
    Keeps s0 (execSmbclkLowTimeout s0) := by simp +contextual (maxDischargeDepth := 19) [execSmbclkLowTimeout]

end Sys2Proof.Machine
end

