-- ==== Sys2Proof/Laws/Keep/Bus.lean ====
section
/-!
SUPPORT. What each operation of Machine/Bus.lean keeps: the queue of commands, and the canonical form of the memories.
-/
namespace Sys2Proof.Machine

@[simp] theorem actTop_pending (s : State) (m : Master) (acts : List (Nat × Word)) :
    (State.actTop s m acts).pending = s.pending := by simp [State.actTop]

@[simp] theorem actTop_memOk (s : State) (m : Master) (acts : List (Nat × Word)) (hm : s.memOk) :
    (State.actTop s m acts).memOk := by simp +contextual (maxDischargeDepth := 19) [State.actTop, hm]

@[simp] theorem portGo_pending (s : State) :
    (State.portGo s).pending = s.pending := by
  simp only [State.portGo]; (repeat' split) <;> simp

@[simp] theorem portGo_memOk (s : State) (hm : s.memOk) :
    (State.portGo s).memOk := by
  simp only [State.portGo]; (repeat' split) <;> simp +contextual (maxDischargeDepth := 19) [hm]

@[simp] theorem queueFlush_pending (s : State) (q : QueueId) :
    (State.queueFlush s q).pending = s.pending := by
  unfold State.queueFlush; split <;> simp

@[simp] theorem queueFlush_memOk (s : State) (q : QueueId) (hm : s.memOk) :
    (State.queueFlush s q).memOk := by
  unfold State.queueFlush; split <;> simp +contextual (maxDischargeDepth := 19) [hm]

@[simp] theorem actBrg_pending (s : State) (ws : List (Nat × Word)) (acts : List (Nat × Word)) :
    (State.actBrg s ws acts).pending = s.pending := by simp [State.actBrg]

@[simp] theorem actBrg_memOk (s : State) (ws : List (Nat × Word)) (acts : List (Nat × Word)) (hm : s.memOk) :
    (State.actBrg s ws acts).memOk := by simp +contextual (maxDischargeDepth := 19) [State.actBrg, hm]

@[simp] theorem act_pending (s : State) (m : Master) (b : Nat) (ws : List (Nat × Word)) (acts : List (Nat × Word)) :
    (State.act s m b ws acts).pending = s.pending := by
  unfold State.act; split <;> simp

@[simp] theorem act_memOk (s : State) (m : Master) (b : Nat) (ws : List (Nat × Word)) (acts : List (Nat × Word)) (hm : s.memOk) :
    (State.act s m b ws acts).memOk := by
  unfold State.act; split <;> simp +contextual (maxDischargeDepth := 19) [hm]

@[simp] theorem writeAct_pending (s : State) (m : Master) (off : Nat) (size : Nat) (be : BitVec 64) (v : BitVec 512) (mode : WriteMode) (back : Nat) :
    (State.writeAct s m off size be v mode back).pending = s.pending := by
  simp only [State.writeAct]; (repeat' split) <;> simp

@[simp] theorem writeAct_memOk (s : State) (m : Master) (off : Nat) (size : Nat) (be : BitVec 64) (v : BitVec 512) (mode : WriteMode) (back : Nat) (hm : s.memOk) :
    (State.writeAct s m off size be v mode back).memOk := by
  simp only [State.writeAct]; (repeat' split) <;> simp +contextual (maxDischargeDepth := 19) [hm]

@[simp] theorem windowWrite_pending (s : State) (m : Master) (b : Nat) (off : Nat) (size : Nat) (be : BitVec 64) (v : BitVec 512) :
    (State.windowWrite s m b off size be v).pending = s.pending := by
  simp only [State.windowWrite]; (repeat' split) <;> simp

@[simp] theorem windowWrite_memOk (s : State) (m : Master) (b : Nat) (off : Nat) (size : Nat) (be : BitVec 64) (v : BitVec 512) (hm : s.memOk) :
    (State.windowWrite s m b off size be v).memOk := by
  simp only [State.windowWrite]; (repeat' split) <;> simp +contextual (maxDischargeDepth := 19) [hm]

@[simp] theorem busWrite_pending (s : State) (m : Master) (off : Nat) (size : Nat) (be : BitVec 64) (v : BitVec 512) :
    (State.busWrite s m off size be v).pending = s.pending := by
  unfold State.busWrite; split <;> simp

@[simp] theorem busWrite_memOk (s : State) (m : Master) (off : Nat) (size : Nat) (be : BitVec 64) (v : BitVec 512) (hm : s.memOk) :
    (State.busWrite s m off size be v).memOk := by
  unfold State.busWrite; split <;> simp +contextual (maxDischargeDepth := 19) [hm]

@[simp] theorem bar2Count_pending (s : State) (m : Master) (write : Bool) :
    (State.bar2Count s m write).pending = s.pending := by simp [State.bar2Count]

@[simp] theorem bar2Count_memOk (s : State) (m : Master) (write : Bool) (hm : s.memOk) :
    (State.bar2Count s m write).memOk := by simp +contextual (maxDischargeDepth := 19) [State.bar2Count, hm]

@[simp] theorem execRegisterWrite_keeps (m : Master) (off : Nat) (size : Nat) (be : BitVec 64) (value : BitVec 512) (s : State) :
    Keeps s (execRegisterWrite m off size be value s) := by simp +contextual (maxDischargeDepth := 19) [execRegisterWrite]

@[simp] theorem execStoreWindowWrite_keeps (m : Master) (off size : Nat) (be : BitVec 64) (value : BitVec 512) (s : State) :
    Keeps s (execStoreWindowWrite m off size be value s) := by simp +contextual (maxDischargeDepth := 19) [execStoreWindowWrite]

@[simp] theorem execSetAliasWrite_keeps (m : Master) (off : Nat) (size : Nat) (be : BitVec 64) (value : BitVec 512) (s : State) :
    Keeps s (execSetAliasWrite m off size be value s) := by simp +contextual (maxDischargeDepth := 19) [execSetAliasWrite]

@[simp] theorem execClearAliasWrite_keeps (m : Master) (off : Nat) (size : Nat) (be : BitVec 64) (value : BitVec 512) (s : State) :
    Keeps s (execClearAliasWrite m off size be value s) := by simp +contextual (maxDischargeDepth := 19) [execClearAliasWrite]

@[simp] theorem execToggleAliasWrite_keeps (m : Master) (off : Nat) (size : Nat) (be : BitVec 64) (value : BitVec 512) (s : State) :
    Keeps s (execToggleAliasWrite m off size be value s) := by simp +contextual (maxDischargeDepth := 19) [execToggleAliasWrite]

@[simp] theorem execPostedWrite_keeps (m : Master) (off : Nat) (size : Nat) (be : BitVec 64) (value : BitVec 512) (s : State) :
    Keeps s (execPostedWrite m off size be value s) := by simp +contextual (maxDischargeDepth := 19) [execPostedWrite]

end Sys2Proof.Machine
end

