-- ==== Sys2Proof/Laws/Keep/Startup.lean ====
section
/-!
SUPPORT. What each operation of Machine/Startup.lean keeps: the queue of commands, and the canonical form of the memories.
-/
namespace Sys2Proof.Machine

@[simp] theorem bistFail_pending (s : State) (x : Nat × Nat × Nat) :
    (State.bistFail s x).pending = s.pending := by
  simp only [State.bistFail]; (repeat' split) <;> simp

@[simp] theorem bistFail_memOk (s : State) (x : Nat × Nat × Nat) (hm : s.memOk) :
    (State.bistFail s x).memOk := by
  simp only [State.bistFail]; (repeat' split) <;> simp +contextual (maxDischargeDepth := 19) [hm]

@[simp] theorem selectHeads_pending (s : State) (samples : List Bool) :
    (State.selectHeads s samples).pending = s.pending := by simp [State.selectHeads]

@[simp] theorem selectHeads_memOk (s : State) (samples : List Bool) (hm : s.memOk) :
    (State.selectHeads s samples).memOk := by simp +contextual (maxDischargeDepth := 19) [State.selectHeads, hm]

theorem loadRec_some {s t : State} {copy : Nat} {polls : List (Nat × Nat)} {r : ImgRec} (h : s.loadRec copy polls r = some t) :
    t.pending = s.pending ∧ (s.memOk → t.memOk) := by
  simp only [State.loadRec] at h
  split at h
  · cases h
    exact ⟨by simp, fun hm => by simp +contextual (maxDischargeDepth := 19) [hm]⟩
  · split at h
    · cases h
      exact ⟨rfl, id⟩
    · cases h
  · split at h
    · cases h
      exact ⟨rfl, id⟩
    · cases h
  · cases h
    exact ⟨by simp, fun hm => by simp [hm]⟩

theorem loadAll_ok {copy : Nat} {polls : List (Nat × Nat)} {rs : List ImgRec} {s t : State}
    (h : State.loadAll copy polls rs s = .ok t) : t.pending = s.pending ∧ (s.memOk → t.memOk) := by
  induction rs generalizing s with
  | nil =>
    simp only [State.loadAll] at h
    cases h
    exact ⟨rfl, id⟩
  | cons r rs ih =>
    simp only [State.loadAll] at h
    split at h
    · have k := loadRec_some ‹_›
      have k' := ih h
      exact ⟨k'.1.trans k.1, fun hm => k'.2 (k.2 hm)⟩
    · cases h

@[simp] theorem loaderDone_pending (t : State) (store : List Host.Cell) (k : Nat) (tie : Bool) (otherValid : Bool) :
    (State.loaderDone t store k tie otherValid).pending = t.pending := by simp [State.loaderDone]

@[simp] theorem loaderDone_memOk (t : State) (store : List Host.Cell) (k : Nat) (tie : Bool) (otherValid : Bool) (hm : t.memOk) :
    (State.loaderDone t store k tie otherValid).memOk := by simp +contextual (maxDischargeDepth := 19) [State.loaderDone, hm]

theorem loadCopies_keeps (polls : List (Nat × Nat)) (tie : Bool) (l causes : List (Nat × Nat)) (s : State) :
    (State.loadCopies polls tie l causes s).pending = s.pending ∧ (s.memOk → (State.loadCopies polls tie l causes s).memOk) := by
  induction l generalizing tie causes s with
  | nil =>
    simp only [State.loadCopies]
    exact ⟨by simp, fun hm => by simp [hm]⟩
  | cons p l ih =>
    simp only [State.loadCopies]
    split
    · have k := ih tie (causes ++ [(p.1, p.2)]) (s.record bPst 380 0x0E03 .warning [(1, p.1), (1, p.2)])
      exact ⟨k.1.trans (by simp), fun hm => k.2 (by simp [hm])⟩
    · split
      · refine ⟨(ih _ _ _).1.trans (by simp), fun hm => (ih _ _ _).2 (by simp [hm])⟩
      · have k := loadAll_ok ‹_›
        exact ⟨by simp [k.1], fun hm => loaderDone_memOk _ _ _ _ _ (foldl_memOk _ (fun x a hx => by simp [hx]) _ _ (k.2 hm))⟩

@[simp] theorem loadCopies_pending (polls : List (Nat × Nat)) (tie : Bool) (l causes : List (Nat × Nat)) (s : State) :
    (State.loadCopies polls tie l causes s).pending = s.pending := (loadCopies_keeps polls tie l causes s).1

@[simp] theorem loadCopies_memOk (polls : List (Nat × Nat)) (tie : Bool) (l causes : List (Nat × Nat)) (s : State)
    (hm : s.memOk) : (State.loadCopies polls tie l causes s).memOk := (loadCopies_keeps polls tie l causes s).2 hm

@[simp] theorem runLoader_pending (s : State) (sigA : Bool) (sigB : Bool) (polls : List (Nat × Nat)) :
    (State.runLoader s sigA sigB polls).pending = s.pending :=
  loadCopies_pending _ _ _ _ _

@[simp] theorem runLoader_memOk (s : State) (sigA : Bool) (sigB : Bool) (polls : List (Nat × Nat)) (hm : s.memOk) :
    (State.runLoader s sigA sigB polls).memOk :=
  loadCopies_memOk _ _ _ _ _ hm

@[simp] theorem lastCycle_pending (s : State) (before : Nat) :
    (State.lastCycle s before).pending = s.pending := by
  unfold State.lastCycle; (repeat' split) <;> simp

@[simp] theorem lastCycle_memOk (s : State) (before : Nat) (hm : s.memOk) :
    (State.lastCycle s before).memOk := by
  unfold State.lastCycle; (repeat' split) <;> simp +contextual (maxDischargeDepth := 19) [hm]

@[simp] theorem commitStart_pending (s : State) (fn : Nat) :
    (State.commitStart s fn).pending = s.pending := by simp [State.commitStart]

@[simp] theorem commitStart_memOk (s : State) (fn : Nat) (hm : s.memOk) :
    (State.commitStart s fn).memOk := by simp [State.commitStart, hm]

@[simp] theorem adopt_pending (s0 : State) (samples : List Bool) :
    (State.adopt s0 samples).pending = s0.pending := by simp [State.adopt]

@[simp] theorem adopt_memOk (s0 : State) (samples : List Bool) (hm : s0.memOk) :
    (State.adopt s0 samples).memOk := by simp +contextual (maxDischargeDepth := 19) [State.adopt, hm]

@[simp] theorem loaderBegin_pending (s : State) (mainOk backupOk storeOk : Bool) :
    (State.loaderBegin s mainOk backupOk storeOk).pending = s.pending := by
  unfold State.loaderBegin; split <;> simp

@[simp] theorem loaderBegin_memOk (s : State) (mainOk backupOk storeOk : Bool) (hm : s.memOk) :
    (State.loaderBegin s mainOk backupOk storeOk).memOk := by
  unfold State.loaderBegin; split <;> simp +contextual (maxDischargeDepth := 19) [hm]

@[simp] theorem startLoader_pending (s : State) (samples : List Bool) (mainOk backupOk sigA sigB : Bool)
    (polls : List (Nat × Nat)) (storeOk : Bool) :
    (State.startLoader s samples mainOk backupOk sigA sigB polls storeOk).pending = s.pending := by
  simp [State.startLoader]

@[simp] theorem startLoader_memOk (s : State) (samples : List Bool) (mainOk backupOk sigA sigB : Bool)
    (polls : List (Nat × Nat)) (storeOk : Bool) (hm : s.memOk) :
    (State.startLoader s samples mainOk backupOk sigA sigB polls storeOk).memOk := by
  simp +contextual (maxDischargeDepth := 19) [State.startLoader, hm]

@[simp] theorem healthLoad_pending (s : State) :
    (State.healthLoad s).pending = s.pending := by
  unfold State.healthLoad; split <;> simp

@[simp] theorem healthLoad_memOk (s : State) (hm : s.memOk) :
    (State.healthLoad s).memOk := by
  unfold State.healthLoad; split <;> simp +contextual (maxDischargeDepth := 19) [hm]

@[simp] theorem selfFail_pending (s : State) (row : Nat) :
    (State.selfFail s row).pending = s.pending := by simp [State.selfFail]

@[simp] theorem selfFail_memOk (s : State) (row : Nat) (hm : s.memOk) :
    (State.selfFail s row).memOk := by simp [State.selfFail, hm]

@[simp] theorem fwStart_pending (s : State) (bad : List Nat) :
    (State.fwStart s bad).pending = s.pending := by simp [State.fwStart]

@[simp] theorem fwStart_memOk (s : State) (bad : List Nat) (hm : s.memOk) :
    (State.fwStart s bad).memOk := by simp +contextual (maxDischargeDepth := 19) [State.fwStart, hm]

@[simp] theorem startFirmware_pending (s : State) (bad : List Nat) (fail : Option (Nat × Nat)) (entropy : Bool) (bist : List (Nat × Nat × Nat)) :
    (State.startFirmware s bad fail entropy bist).pending = s.pending := by
  unfold State.startFirmware; split <;> simp

@[simp] theorem startFirmware_memOk (s : State) (bad : List Nat) (fail : Option (Nat × Nat)) (entropy : Bool) (bist : List (Nat × Nat × Nat)) (hm : s.memOk) :
    (State.startFirmware s bad fail entropy bist).memOk := by
  unfold State.startFirmware; split <;> simp +contextual (maxDischargeDepth := 19) [hm]

@[simp] theorem startTraining_pending (s : State) (fails : List (Nat × Nat × Nat × Nat)) (windows : List (Nat × Nat × Nat × Nat)) :
    (State.startTraining s fails windows).pending = s.pending := by simp [State.startTraining]

@[simp] theorem startTraining_memOk (s : State) (fails : List (Nat × Nat × Nat × Nat)) (windows : List (Nat × Nat × Nat × Nat)) (hm : s.memOk) :
    (State.startTraining s fails windows).memOk := by simp +contextual (maxDischargeDepth := 19) [State.startTraining, hm]

@[simp] theorem seedSampler_pending (s : State) (h : Nat) :
    (State.seedSampler s h).pending = s.pending := by simp [State.seedSampler]

@[simp] theorem seedSampler_memOk (s : State) (h : Nat) (hm : s.memOk) :
    (State.seedSampler s h).memOk := by simp +contextual (maxDischargeDepth := 19) [State.seedSampler, hm]

@[simp] theorem startKeys_pending (s : State) :
    (State.startKeys s).pending = s.pending := by simp [State.startKeys]

@[simp] theorem startKeys_memOk (s : State) (hm : s.memOk) :
    (State.startKeys s).memOk := by
  simp only [State.startKeys]
  repeat' (first | split | refine foldl_memOk _ (fun _ _ _ => ?_) _ _ ?_ | refine gate_memOk _ _ _ ?_ fun _ _ => ?_)
  all_goals simp +contextual (maxDischargeDepth := 19) [*]

@[simp] theorem rebaseBands_pending (s : State) (c : Nat) (oldFn : Nat) (off : Nat) (clean : Bool) :
    (State.rebaseBands s c oldFn off clean).pending = s.pending := by simp [State.rebaseBands]

@[simp] theorem rebaseBands_memOk (s : State) (c : Nat) (oldFn : Nat) (off : Nat) (clean : Bool) (hm : s.memOk) :
    (State.rebaseBands s c oldFn off clean).memOk := by simp [State.rebaseBands, hm]

@[simp] theorem repairCw_pending (s : State) (psn q : Nat) (w : Codeword) :
    (State.repairCw s psn q w).pending = s.pending := by simp [State.repairCw]

@[simp] theorem repairCw_memOk (s : State) (psn q : Nat) (w : Codeword) (hm : s.memOk) :
    (State.repairCw s psn q w).memOk := by simp +contextual (maxDischargeDepth := 19) [State.repairCw, hm]

@[simp] theorem poisonBlocks_pending (s : State) (psn : Nat) (js : List Nat) :
    (State.poisonBlocks s psn js).pending = s.pending := by simp [State.poisonBlocks]

@[simp] theorem poisonBlocks_memOk (s : State) (psn : Nat) (js : List Nat) (hm : s.memOk) :
    (State.poisonBlocks s psn js).memOk := by simp +contextual (maxDischargeDepth := 19) [State.poisonBlocks, hm]

@[simp] theorem tornStripe_pending (s : State) (d : Nat) (slot : Nat) (psn : Nat) (blocks : List Nat) :
    (State.tornStripe s d slot psn blocks).pending = s.pending := by
  simp only [State.tornStripe]; (repeat' split) <;> simp

@[simp] theorem tornStripe_memOk (s : State) (d : Nat) (slot : Nat) (psn : Nat) (blocks : List Nat) (hm : s.memOk) :
    (State.tornStripe s d slot psn blocks).memOk := by
  simp only [State.tornStripe]; (repeat' split) <;> simp +contextual (maxDischargeDepth := 19) [hm]

@[simp] theorem pointerScan_pending (s : State) (bad : List (Nat × Nat)) :
    (State.pointerScan s bad).pending = s.pending := by
  unfold State.pointerScan; split <;> simp

@[simp] theorem pointerScan_memOk (s : State) (bad : List (Nat × Nat)) (hm : s.memOk) :
    (State.pointerScan s bad).memOk := by
  unfold State.pointerScan; split <;> simp +contextual (maxDischargeDepth := 19) [hm]

@[simp] theorem tornCheck_pending (s : State) (psn : Nat) (bad : List (Nat × Nat)) :
    (State.tornCheck s psn bad).pending = s.pending := by simp [State.tornCheck]

@[simp] theorem tornCheck_memOk (s : State) (psn : Nat) (bad : List (Nat × Nat)) (hm : s.memOk) :
    (State.tornCheck s psn bad).memOk := by simp +contextual (maxDischargeDepth := 19) [State.tornCheck, hm]

@[simp] theorem keysLoad_pending (s : State) (unwrapBad : List Nat) :
    (State.keysLoad s unwrapBad).pending = s.pending := by
  unfold State.keysLoad; split <;> simp

@[simp] theorem keysLoad_memOk (s : State) (unwrapBad : List Nat) (hm : s.memOk) :
    (State.keysLoad s unwrapBad).memOk := by
  unfold State.keysLoad; split <;> simp +contextual (maxDischargeDepth := 19) [hm]

@[simp] theorem passesAnew_pending (s : State) :
    (State.passesAnew s).pending = s.pending := by simp [State.passesAnew]

@[simp] theorem passesAnew_memOk (s : State) (hm : s.memOk) :
    (State.passesAnew s).memOk := by simp +contextual (maxDischargeDepth := 19) [State.passesAnew, hm]

@[simp] theorem mediaRestore_pending (s : State) (clean : Bool) (phyBad : List Nat) (tags : List (Nat × Nat)) :
    (State.mediaRestore s clean phyBad tags).pending = s.pending := by simp [State.mediaRestore]

@[simp] theorem mediaRestore_memOk (s : State) (clean : Bool) (phyBad : List Nat) (tags : List (Nat × Nat)) (hm : s.memOk) :
    (State.mediaRestore s clean phyBad tags).memOk := by simp +contextual (maxDischargeDepth := 19) [State.mediaRestore, hm]

@[simp] theorem phyFail_pending (s : State) (c : Nat) :
    (State.phyFail s c).pending = s.pending := by simp [State.phyFail]

@[simp] theorem phyFail_memOk (s : State) (c : Nat) (hm : s.memOk) :
    (State.phyFail s c).memOk := by simp [State.phyFail, hm]

@[simp] theorem dirtyRaise_pending (s : State) (clean : Bool) :
    (State.dirtyRaise s clean).pending = s.pending := by simp [State.dirtyRaise]

@[simp] theorem dirtyRaise_memOk (s : State) (clean : Bool) (hm : s.memOk) :
    (State.dirtyRaise s clean).memOk := by simp [State.dirtyRaise, hm]

@[simp] theorem pairStart_pending (s : State) :
    (State.pairStart s).pending = s.pending := by simp [State.pairStart]

@[simp] theorem pairStart_memOk (s : State) (hm : s.memOk) :
    (State.pairStart s).memOk := by simp +contextual (maxDischargeDepth := 19) [State.pairStart, hm]

@[simp] theorem saveLost_pending (s : State) (down : Bool) (saveBad : Option Nat) (slot : Nat) :
    (State.saveLost s down saveBad slot).pending = s.pending := by
  unfold State.saveLost; split <;> simp

@[simp] theorem saveLost_memOk (s : State) (down : Bool) (saveBad : Option Nat) (slot : Nat) (hm : s.memOk) :
    (State.saveLost s down saveBad slot).memOk := by
  unfold State.saveLost; split <;> simp +contextual (maxDischargeDepth := 19) [hm]

@[simp] theorem calCheck_pending (s : State) :
    (State.calCheck s).pending = s.pending := by
  unfold State.calCheck; split <;> simp

@[simp] theorem calCheck_memOk (s : State) (hm : s.memOk) :
    (State.calCheck s).memOk := by
  unfold State.calCheck; split <;> simp +contextual (maxDischargeDepth := 19) [hm]

@[simp] theorem lockAtStart_pending (s : State) :
    (State.lockAtStart s).pending = s.pending := by simp [State.lockAtStart]

@[simp] theorem lockAtStart_memOk (s : State) (hm : s.memOk) :
    (State.lockAtStart s).memOk := by simp [State.lockAtStart, hm]

@[simp] theorem offTimes_pending (s : State) (c : Nat) (off : List (Nat × Nat)) (oldFn : Nat) (clean : Bool) :
    (State.offTimes s c off oldFn clean).pending = s.pending := by simp [State.offTimes]

@[simp] theorem offTimes_memOk (s : State) (c : Nat) (off : List (Nat × Nat)) (oldFn : Nat) (clean : Bool) (hm : s.memOk) :
    (State.offTimes s c off oldFn clean).memOk := by simp +contextual (maxDischargeDepth := 19) [State.offTimes, hm]

@[simp] theorem startMedia_pending (s : State) (phyBad : List Nat) (unwrapBad : List Nat) (saveBad : Option Nat) (torn : List (Nat × Nat)) (tags : List (Nat × Nat)) (off : List (Nat × Nat)) :
    (State.startMedia s phyBad unwrapBad saveBad torn tags off).pending = s.pending := by
  simp only [State.startMedia]
  repeat' (first | split | refine (foldl_pending _ (fun _ _ => ?_) _ _).trans ?_ | refine (gate_pending _ _ _ fun _ => ?_).trans ?_)
  all_goals simp

@[simp] theorem startMedia_memOk (s : State) (phyBad : List Nat) (unwrapBad : List Nat) (saveBad : Option Nat) (torn : List (Nat × Nat)) (tags : List (Nat × Nat)) (off : List (Nat × Nat)) (hm : s.memOk) :
    (State.startMedia s phyBad unwrapBad saveBad torn tags off).memOk := by
  simp only [State.startMedia]
  repeat' (first | split | refine foldl_memOk _ (fun _ _ _ => ?_) _ _ ?_ | refine gate_memOk _ _ _ ?_ fun _ _ => ?_)
  all_goals simp +contextual (maxDischargeDepth := 19) [*]

@[simp] theorem startDone_pending (s : State) (ms : List Nat) :
    (State.startDone s ms).pending = s.pending := by simp [State.startDone]

@[simp] theorem startDone_memOk (s : State) (ms : List Nat) (hm : s.memOk) :
    (State.startDone s ms).memOk := by simp +contextual (maxDischargeDepth := 19) [State.startDone, hm]

@[simp] theorem execColdStart_keeps (input : StartIn) (ms : List Nat) (s0 : State) :
    Keeps s0 (execColdStart input ms s0) := by
  unfold execColdStart; (repeat' split) <;> simp +contextual (maxDischargeDepth := 19)

@[simp] theorem execStartupTimeout_keeps (ms : Nat) (s0 : State) :
    Keeps s0 (execStartupTimeout ms s0) := by simp +contextual (maxDischargeDepth := 19) [execStartupTimeout]

end Sys2Proof.Machine
end

