-- ==== Sys2Proof/Laws/Keep/Pair.lean ====
section
/-!
SUPPORT. What each operation of Machine/Pair.lean keeps: the queue of commands, and the canonical form of the memories.
-/
namespace Sys2Proof.Machine

@[simp] theorem pairUpdate_pending (s : State) :
    (State.pairUpdate s).pending = s.pending := by simp [State.pairUpdate]

@[simp] theorem pairUpdate_memOk (s : State) (hm : s.memOk) :
    (State.pairUpdate s).memOk := by simp +contextual (maxDischargeDepth := 19) [State.pairUpdate, hm]

@[simp] theorem roleNow_pending (s : State) (role : Nat) :
    (State.roleNow s role).pending = s.pending := by simp [State.roleNow]

@[simp] theorem roleNow_memOk (s : State) (role : Nat) (hm : s.memOk) :
    (State.roleNow s role).memOk := by simp [State.roleNow, hm]

@[simp] theorem refuseHeld_pending (s : State) :
    (State.refuseHeld s).pending = s.pending := by simp [State.refuseHeld]

@[simp] theorem refuseHeld_memOk (s : State) (hm : s.memOk) :
    (State.refuseHeld s).memOk := by simp +contextual (maxDischargeDepth := 19) [State.refuseHeld, hm]

@[simp] theorem releaseWaits_pending (s : State) :
    (State.releaseWaits s).pending = s.pending := by
  simp only [State.releaseWaits]
  repeat' (first | split | refine (foldl_pending _ (fun _ _ => ?_) _ _).trans ?_ | refine (gate_pending _ _ _ fun _ => ?_).trans ?_)
  all_goals simp

@[simp] theorem releaseWaits_memOk (s : State) (hm : s.memOk) :
    (State.releaseWaits s).memOk := by
  simp only [State.releaseWaits]
  repeat' (first | split | refine foldl_memOk _ (fun _ _ _ => ?_) _ _ ?_ | refine gate_memOk _ _ _ ?_ fun _ _ => ?_)
  all_goals simp +contextual (maxDischargeDepth := 19) [*]

@[simp] theorem releaseStream_pending (s : State) :
    (State.releaseStream s).pending = s.pending := by simp [State.releaseStream]

@[simp] theorem releaseStream_memOk (s : State) (hm : s.memOk) :
    (State.releaseStream s).memOk := by simp +contextual (maxDischargeDepth := 19) [State.releaseStream, hm]

@[simp] theorem ferryDelay_pending (s : State) : s.ferryDelay.pending = s.pending := by simp [State.ferryDelay]

@[simp] theorem ferryDelay_memOk (s : State) (hm : s.memOk) : s.ferryDelay.memOk := by simp [State.ferryDelay, hm]

@[simp] theorem splitDelay_pending (s : State) : s.splitDelay.pending = s.pending := by simp [State.splitDelay]

@[simp] theorem splitDelay_memOk (s : State) (hm : s.memOk) : s.splitDelay.memOk := by simp [State.splitDelay, hm]

@[simp] theorem split_pending (s : State) (cause : Nat) :
    (State.split s cause).pending = s.pending := by simp [State.split]

@[simp] theorem split_memOk (s : State) (cause : Nat) (hm : s.memOk) :
    (State.split s cause).memOk := by
  unfold State.split; exact splitDelay_memOk _ (by simp +contextual (maxDischargeDepth := 19) [hm])

@[simp] theorem promote_pending (s : State) (token : Nat) (cause : Nat) (stay : Bool) :
    (State.promote s token cause stay).pending = s.pending := by simp [State.promote]

@[simp] theorem promote_memOk (s : State) (token : Nat) (cause : Nat) (stay : Bool) (hm : s.memOk) :
    (State.promote s token cause stay).memOk := by simp +contextual (maxDischargeDepth := 19) [State.promote, hm]

@[simp] theorem demote_pending (s : State) (token stored : Nat) (follow : Bool) :
    (State.demote s token stored follow).pending = s.pending := by simp [State.demote]

@[simp] theorem demote_memOk (s : State) (token stored : Nat) (follow : Bool) (hm : s.memOk) :
    (State.demote s token stored follow).memOk := by simp +contextual (maxDischargeDepth := 19) [State.demote, hm]

@[simp] theorem tokenSeen_pending (s : State) (token : Nat) :
    (State.tokenSeen s token).pending = s.pending := by simp [State.tokenSeen]

@[simp] theorem tokenSeen_memOk (s : State) (token : Nat) (hm : s.memOk) :
    (State.tokenSeen s token).memOk := by simp +contextual (maxDischargeDepth := 19) [State.tokenSeen, hm]

@[simp] theorem heard_pending (s : State) :
    (State.heard s).pending = s.pending := by simp [State.heard]

@[simp] theorem heard_memOk (s : State) (hm : s.memOk) :
    (State.heard s).memOk := by simp [State.heard, hm]

@[simp] theorem linkDown_pending (s : State) (cause : Nat) :
    (State.linkDown s cause).pending = s.pending := by simp [State.linkDown]

@[simp] theorem linkDown_memOk (s : State) (cause : Nat) (hm : s.memOk) :
    (State.linkDown s cause).memOk := by simp [State.linkDown, hm]

@[simp] theorem joinFail_pending (s : State) (step : Nat) (cause : Nat) :
    (State.joinFail s step cause).pending = s.pending := by simp [State.joinFail]

@[simp] theorem joinFail_memOk (s : State) (step : Nat) (cause : Nat) (hm : s.memOk) :
    (State.joinFail s step cause).memOk := by simp [State.joinFail, hm]

@[simp] theorem execFerryLinkDown_keeps (s0 : State) :
    Keeps s0 (execFerryLinkDown s0) := by simp +contextual (maxDischargeDepth := 19) [execFerryLinkDown]

@[simp] theorem execLinkWidth_keeps (width : Nat) (s0 : State) :
    Keeps s0 (execLinkWidth width s0) := by simp +contextual (maxDischargeDepth := 19) [execLinkWidth]

@[simp] theorem execLinkRetrain_keeps (cyc : Nat) (cause : Nat) (s0 : State) :
    Keeps s0 (execLinkRetrain cyc cause s0) := by simp +contextual (maxDischargeDepth := 19) [execLinkRetrain]

@[simp] theorem flitBack_pending (s : State) (nak : Bool) :
    (State.flitBack s nak).pending = s.pending := by simp [State.flitBack]

@[simp] theorem flitBack_memOk (s : State) (nak : Bool) (hm : s.memOk) :
    (State.flitBack s nak).memOk := by simp [State.flitBack, hm]

@[simp] theorem flitTake_pending (s : State) (tx seq : Nat) (ack : Option Nat) (nak : Bool) (wcred pcred bytes : Nat) :
    (State.flitTake s tx seq ack nak wcred pcred bytes).pending = s.pending := by simp [State.flitTake]

@[simp] theorem flitTake_memOk (s : State) (tx seq : Nat) (ack : Option Nat) (nak : Bool) (wcred pcred bytes : Nat) (hm : s.memOk) :
    (State.flitTake s tx seq ack nak wcred pcred bytes).memOk := by
  simp only [State.flitTake]
  simp +contextual (maxDischargeDepth := 19) [hm]

@[simp] theorem execFlitReceive_keeps (cyc : Nat) (crcOk : Bool) (tagOk : Bool) (seq : Nat) (sent : Nat) (ack : Option Nat) (nak : Bool) (wcred : Nat) (pcred : Nat) (bytes : Nat) (s0 : State) :
    Keeps s0 (execFlitReceive cyc crcOk tagOk seq sent ack nak wcred pcred bytes s0) := by
  unfold execFlitReceive; (repeat' split) <;> simp +contextual (maxDischargeDepth := 19)

@[simp] theorem sendFence_pending (s : State) :
    (State.sendFence s).pending = s.pending := by simp [State.sendFence]

@[simp] theorem sendFence_memOk (s : State) (hm : s.memOk) :
    (State.sendFence s).memOk := by simp [State.sendFence, hm]

@[simp] theorem sendSyncs_pending (s : State) (target : Nat) :
    (State.sendSyncs s target).pending = s.pending := by simp [State.sendSyncs]

@[simp] theorem sendSyncs_memOk (s : State) (target : Nat) (hm : s.memOk) :
    (State.sendSyncs s target).memOk := by simp +contextual (maxDischargeDepth := 19) [State.sendSyncs, hm]

@[simp] theorem execFerryLinkUp_keeps (input : JoinIn) (s0 : State) :
    Keeps s0 (execFerryLinkUp input s0) := by
  unfold execFerryLinkUp; (repeat' split) <;> simp +contextual (maxDischargeDepth := 19)

@[simp] theorem joinRoles_pending (s : State) (lead : Bool) (token : Nat) :
    (State.joinRoles s lead token).pending = s.pending := by simp [State.joinRoles]

@[simp] theorem joinRoles_memOk (s : State) (lead : Bool) (token : Nat) (hm : s.memOk) :
    (State.joinRoles s lead token).memOk := by simp +contextual (maxDischargeDepth := 19) [State.joinRoles, hm]

@[simp] theorem noJoin_pending (s : State) (st : PState × Role) :
    (State.noJoin s st).pending = s.pending := by simp [State.noJoin]

@[simp] theorem noJoin_memOk (s : State) (st : PState × Role) (hm : s.memOk) :
    (State.noJoin s st).memOk := by simp [State.noJoin, hm]

@[simp] theorem execFenceMsg_keeps (claim : Nat) (clean : Bool) (full : Bool) (bitmap : Bool) (suspect : Bool) (token : Nat) (session : Nat) (widx : Nat) (names : Nat) (fn : Nat) (s0 : State) :
    Keeps s0 (execFenceMsg claim clean full bitmap suspect token session widx names fn s0) := by simp +contextual (maxDischargeDepth := 19) [execFenceMsg]

@[simp] theorem execBellMsg_keeps (lowRate : Bool) (fn : Nat) (delay : Nat) (offset : Int) (s0 : State) :
    Keeps s0 (execBellMsg lowRate fn delay offset s0) := by simp +contextual (maxDischargeDepth := 19) [execBellMsg]

@[simp] theorem execStateSend_keeps (cyc : Nat) (s0 : State) :
    Keeps s0 (execStateSend cyc s0) := by simp +contextual (maxDischargeDepth := 19) [execStateSend]

@[simp] theorem execStateMsg_keeps (cyc : Nat) (power : Nat) (mediaFn : Nat) (pairFn : Nat) (left : Nat) (s0 : State) :
    Keeps s0 (execStateMsg cyc power mediaFn pairFn left s0) := by simp +contextual (maxDischargeDepth := 19) [execStateMsg]

@[simp] theorem execHeartbeatSend_keeps (cyc : Nat) (s0 : State) :
    Keeps s0 (execHeartbeatSend cyc s0) := by
  simp only [execHeartbeatSend]
  repeat' split
  all_goals refine (keeps_next _ _).2 ⟨?_, fun hm => ?_⟩
  all_goals repeat' (first | split | refine (foldl_pending _ (fun _ _ => ?_) _ _).trans ?_ | refine (gate_pending _ _ _ fun _ => ?_).trans ?_ | refine foldl_memOk _ (fun _ _ _ => ?_) _ _ ?_ | refine gate_memOk _ _ _ ?_ fun _ _ => ?_)
  all_goals simp +contextual (maxDischargeDepth := 19) [*]

@[simp] theorem execHeartbeatMsg_keeps (cyc : Nat) (token : Nat) (relayed : Option (BitVec 256)) (s0 : State) :
    Keeps s0 (execHeartbeatMsg cyc token relayed s0) := by
  unfold execHeartbeatMsg; (repeat' split) <;> simp +contextual (maxDischargeDepth := 19)

@[simp] theorem execSilenceTimeout_keeps (cyc : Nat) (s0 : State) :
    Keeps s0 (execSilenceTimeout cyc s0) := by simp +contextual (maxDischargeDepth := 19) [execSilenceTimeout]

@[simp] theorem resignDone_pending (s : State) (clean : Bool) :
    (State.resignDone s clean).pending = s.pending := by simp [State.resignDone]

@[simp] theorem resignDone_memOk (s : State) (clean : Bool) (hm : s.memOk) :
    (State.resignDone s clean).memOk := by simp +contextual (maxDischargeDepth := 19) [State.resignDone, hm]

@[simp] theorem resignTry_pending (s : State) :
    (State.resignTry s).pending = s.pending := by simp [State.resignTry]

@[simp] theorem resignTry_memOk (s : State) (hm : s.memOk) :
    (State.resignTry s).memOk := by simp +contextual (maxDischargeDepth := 19) [State.resignTry, hm]

@[simp] theorem leavePair_pending (s : State) (detach : Bool) :
    (State.leavePair s detach).pending = s.pending := by simp [State.leavePair]

@[simp] theorem leavePair_memOk (s : State) (detach : Bool) (hm : s.memOk) :
    (State.leavePair s detach).memOk := by simp +contextual (maxDischargeDepth := 19) [State.leavePair, hm]

@[simp] theorem execResignDrainTimeout_keeps (cyc : Nat) (s0 : State) :
    Keeps s0 (execResignDrainTimeout cyc s0) := by
  simp only [execResignDrainTimeout]; (repeat' split) <;> simp +contextual (maxDischargeDepth := 19)

@[simp] theorem handoverTry_pending (s : State) :
    (State.handoverTry s).pending = s.pending := by simp [State.handoverTry]

@[simp] theorem handoverTry_memOk (s : State) (hm : s.memOk) :
    (State.handoverTry s).memOk := by simp +contextual (maxDischargeDepth := 19) [State.handoverTry, hm]

@[simp] theorem execRoleHandover_keeps (token : Nat) (s0 : State) :
    Keeps s0 (execRoleHandover token s0) := by simp +contextual (maxDischargeDepth := 19) [execRoleHandover]

@[simp] theorem execRoleAccept_keeps (token : Nat) (s0 : State) :
    Keeps s0 (execRoleAccept token s0) := by simp +contextual (maxDischargeDepth := 19) [execRoleAccept]

@[simp] theorem execRoleResign_keeps (token : Nat) (s0 : State) :
    Keeps s0 (execRoleResign token s0) := by simp +contextual (maxDischargeDepth := 19) [execRoleResign]

@[simp] theorem execRoleDepart_keeps (token : Nat) (s0 : State) :
    Keeps s0 (execRoleDepart token s0) := by simp +contextual (maxDischargeDepth := 19) [execRoleDepart]

@[simp] theorem execRoleDemoted_keeps (token : Nat) (s0 : State) :
    Keeps s0 (execRoleDemoted token s0) := by simp +contextual (maxDischargeDepth := 19) [execRoleDemoted]

@[simp] theorem execHandoverTimeout_keeps (cyc : Nat) (s0 : State) :
    Keeps s0 (execHandoverTimeout cyc s0) := by
  simp only [execHandoverTimeout]; (repeat' split) <;> simp +contextual (maxDischargeDepth := 19)

@[simp] theorem execMirrorWrite_keeps (cyc : Nat) (lpn : Nat) (sector : Nat) (data : List Sector) (poison : BitVec 4) (s0 : State) :
    Keeps s0 (execMirrorWrite cyc lpn sector data poison s0) := by simp +contextual (maxDischargeDepth := 19) [execMirrorWrite]

@[simp] theorem ackWait_pending (s : State) (w : HostReq × Option Bool) :
    (State.ackWait s w).pending = s.pending := by
  unfold State.ackWait; split <;> simp

@[simp] theorem ackWait_memOk (s : State) (w : HostReq × Option Bool) (hm : s.memOk) :
    (State.ackWait s w).memOk := by
  unfold State.ackWait; split <;> simp +contextual (maxDischargeDepth := 19) [hm]

@[simp] theorem execMirrorAck_keeps (cyc : Nat) (widx : Nat) (s0 : State) :
    Keeps s0 (execMirrorAck cyc widx s0) := by
  simp only [execMirrorAck]
  repeat' split
  all_goals refine (keeps_next _ _).2 ⟨?_, fun hm => ?_⟩
  all_goals repeat' (first | split | refine (foldl_pending _ (fun _ _ => ?_) _ _).trans ?_ | refine (gate_pending _ _ _ fun _ => ?_).trans ?_ | refine foldl_memOk _ (fun _ _ _ => ?_) _ _ ?_ | refine gate_memOk _ _ _ ?_ fun _ _ => ?_)
  all_goals simp +contextual (maxDischargeDepth := 19) [*]

@[simp] theorem pairCommand_pending (s : State) (m : Master) (opcode : Nat) (ok : Bool) (f : State → State) (hp : ∀ x, (f x).pending = x.pending) :
    (State.pairCommand s m opcode ok f).pending = s.pending := by simp [hp, State.pairCommand]

@[simp] theorem pairCommand_memOk (s : State) (m : Master) (opcode : Nat) (ok : Bool) (f : State → State) (hk : ∀ x, x.memOk → (f x).memOk) (hm : s.memOk) :
    (State.pairCommand s m opcode ok f).memOk := by simp +contextual (maxDischargeDepth := 19) [State.pairCommand, hm, hk]

@[simp] theorem execPairStatus_keeps (m : Master) (payload : List (BitVec 8)) (s : State) :
    Keeps s (execPairStatus m payload s) := by simp +contextual (maxDischargeDepth := 19) [execPairStatus]

@[simp] theorem execPairPromote_keeps (m : Master) (payload : List (BitVec 8)) (s : State) :
    Keeps s (execPairPromote m payload s) := by simp +contextual (maxDischargeDepth := 19) [execPairPromote]

@[simp] theorem execPairDemote_keeps (m : Master) (payload : List (BitVec 8)) (s : State) :
    Keeps s (execPairDemote m payload s) := by simp +contextual (maxDischargeDepth := 19) [execPairDemote]

@[simp] theorem execPairHandover_keeps (m : Master) (payload : List (BitVec 8)) (s : State) :
    Keeps s (execPairHandover m payload s) := by simp +contextual (maxDischargeDepth := 19) [execPairHandover]

@[simp] theorem execPairDetach_keeps (m : Master) (payload : List (BitVec 8)) (s : State) :
    Keeps s (execPairDetach m payload s) := by simp +contextual (maxDischargeDepth := 19) [execPairDetach]

@[simp] theorem execPairAttach_keeps (m : Master) (payload : List (BitVec 8)) (s : State) :
    Keeps s (execPairAttach m payload s) := by simp +contextual (maxDischargeDepth := 19) [execPairAttach]

@[simp] theorem execPairResyncRate_keeps (m : Master) (payload : List (BitVec 8)) (s : State) :
    Keeps s (execPairResyncRate m payload s) := by simp +contextual (maxDischargeDepth := 19) [execPairResyncRate]

end Sys2Proof.Machine
end

