-- ==== Sys2Proof/Laws/Keep/Resync.lean ====
section
/-!
SUPPORT. What each operation of Machine/Resync.lean keeps: the queue of commands, and the canonical form of the memories.
-/
namespace Sys2Proof.Machine

@[simp] theorem takeBegin_pending (s : State) (lpn : Nat) (answer : Bool) :
    (State.takeBegin s lpn answer).pending = s.pending := by simp [State.takeBegin]

@[simp] theorem takeBegin_memOk (s : State) (lpn : Nat) (answer : Bool) (hm : s.memOk) :
    (State.takeBegin s lpn answer).memOk := by simp +contextual (maxDischargeDepth := 19) [State.takeBegin, hm]

@[simp] theorem takeEnd_pending (s : State) (t : PageTake) :
    (State.takeEnd s t).pending = s.pending := by simp [State.takeEnd]

@[simp] theorem takeEnd_memOk (s : State) (t : PageTake) (hm : s.memOk) :
    (State.takeEnd s t).memOk := by simp +contextual (maxDischargeDepth := 19) [State.takeEnd, hm]

@[simp] theorem sendBitmap_pending (s : State) (f : Fry) :
    (State.sendBitmap s f).pending = s.pending := by simp [State.sendBitmap]

@[simp] theorem sendBitmap_memOk (s : State) (f : Fry) (hm : s.memOk) :
    (State.sendBitmap s f).memOk := by simp +contextual (maxDischargeDepth := 19) [State.sendBitmap, hm]

@[simp] theorem execResyncPageBitmap_keeps (cyc : Nat) (index : Nat) (pages : List Nat) (s0 : State) :
    Keeps s0 (execResyncPageBitmap cyc index pages s0) := by simp +contextual (maxDischargeDepth := 19) [execResyncPageBitmap]

@[simp] theorem sendMerged_pending (s : State) :
    (State.sendMerged s).pending = s.pending := by simp [State.sendMerged]

@[simp] theorem sendMerged_memOk (s : State) (hm : s.memOk) :
    (State.sendMerged s).memOk := by simp +contextual (maxDischargeDepth := 19) [State.sendMerged, hm]

@[simp] theorem resyncSend_pending (s : State) (t : PageTake) :
    (State.resyncSend s t).pending = s.pending := by simp [State.resyncSend]

@[simp] theorem resyncSend_memOk (s : State) (t : PageTake) (hm : s.memOk) :
    (State.resyncSend s t).memOk := by simp +contextual (maxDischargeDepth := 19) [State.resyncSend, hm]

@[simp] theorem resyncFirst_pending (s : State) :
    (State.resyncFirst s).pending = s.pending := by
  simp only [State.resyncFirst]; (repeat' split) <;> simp

@[simp] theorem resyncFirst_memOk (s : State) (hm : s.memOk) :
    (State.resyncFirst s).memOk := by
  simp only [State.resyncFirst]; (repeat' split) <;> simp +contextual (maxDischargeDepth := 19) [hm]

@[simp] theorem resyncNext_pending (s : State) :
    (State.resyncNext s).pending = s.pending := by
  simp only [State.resyncNext]; (repeat' split) <;> simp

@[simp] theorem resyncNext_memOk (s : State) (hm : s.memOk) :
    (State.resyncNext s).memOk := by
  simp only [State.resyncNext]; (repeat' split) <;> simp +contextual (maxDischargeDepth := 19) [hm]

@[simp] theorem execResyncPageSend_keeps (cyc : Nat) (s0 : State) :
    Keeps s0 (execResyncPageSend cyc s0) := by simp +contextual (maxDischargeDepth := 19) [execResyncPageSend]

@[simp] theorem pageWrite_pending (s : State) (lpn : Nat) (data : Nat → Sector) (poison : BitVec 64) :
    (State.pageWrite s lpn data poison).pending = s.pending := by simp [State.pageWrite]

@[simp] theorem pageWrite_memOk (s : State) (lpn : Nat) (data : Nat → Sector) (poison : BitVec 64) (hm : s.memOk) :
    (State.pageWrite s lpn data poison).memOk := by simp +contextual (maxDischargeDepth := 19) [State.pageWrite, hm]

@[simp] theorem execResyncPageData_keeps (cyc : Nat) (lpn : Nat) (data : List Sector) (poison : BitVec 64) (s0 : State) :
    Keeps s0 (execResyncPageData cyc lpn data poison s0) := by simp +contextual (maxDischargeDepth := 19) [execResyncPageData]

@[simp] theorem execResyncPageZero_keeps (cyc : Nat) (lpn : Nat) (s0 : State) :
    Keeps s0 (execResyncPageZero cyc lpn s0) := by simp +contextual (maxDischargeDepth := 19) [execResyncPageZero]

@[simp] theorem execResyncPageDone_keeps (cyc : Nat) (s0 : State) :
    Keeps s0 (execResyncPageDone cyc s0) := by simp +contextual (maxDischargeDepth := 19) [execResyncPageDone]

@[simp] theorem pageAnswer_pending (s : State) (t : PageTake) :
    (State.pageAnswer s t).pending = s.pending := by simp [State.pageAnswer]

@[simp] theorem pageAnswer_memOk (s : State) (t : PageTake) (hm : s.memOk) :
    (State.pageAnswer s t).memOk := by simp +contextual (maxDischargeDepth := 19) [State.pageAnswer, hm]

@[simp] theorem pageAsked_pending (s : State) (lpn : Nat) :
    (State.pageAsked s lpn).pending = s.pending := by
  simp only [State.pageAsked]; (repeat' split) <;> simp

@[simp] theorem pageAsked_memOk (s : State) (lpn : Nat) (hm : s.memOk) :
    (State.pageAsked s lpn).memOk := by
  simp only [State.pageAsked]; (repeat' split) <;> simp +contextual (maxDischargeDepth := 19) [hm]

@[simp] theorem execResyncPageRequest_keeps (cyc lpn widx : Nat) (s0 : State) :
    Keeps s0 (execResyncPageRequest cyc lpn widx s0) := by simp +contextual (maxDischargeDepth := 19) [execResyncPageRequest]

@[simp] theorem execResyncBitmapCleared_keeps (s0 : State) :
    Keeps s0 (execResyncBitmapCleared s0) := by simp +contextual (maxDischargeDepth := 19) [execResyncBitmapCleared]

@[simp] theorem regionAttr_pending (s : State) (n : Nat) (v : Nat) :
    (State.regionAttr s n v).pending = s.pending := by simp [State.regionAttr]

@[simp] theorem regionAttr_memOk (s : State) (n : Nat) (v : Nat) (hm : s.memOk) :
    (State.regionAttr s n v).memOk := by simp +contextual (maxDischargeDepth := 19) [State.regionAttr, hm]

@[simp] theorem execConfigAtFnPropose_keeps (change : Nat) (id : Nat) (target : Nat) (subject : Nat) (value : Nat) (s0 : State) :
    Keeps s0 (execConfigAtFnPropose change id target subject value s0) := by simp +contextual (maxDischargeDepth := 19) [execConfigAtFnPropose]

@[simp] theorem answerOwed_pending (s : State) (ok : Bool) (target : Nat) (id : Nat) :
    (State.answerOwed s ok target id).pending = s.pending := by
  unfold State.answerOwed; split <;> simp

@[simp] theorem answerOwed_memOk (s : State) (ok : Bool) (target : Nat) (id : Nat) (hm : s.memOk) :
    (State.answerOwed s ok target id).memOk := by
  unfold State.answerOwed; split <;> simp +contextual (maxDischargeDepth := 19) [hm]

@[simp] theorem execConfigAtFnAck_keeps (id : Nat) (s0 : State) :
    Keeps s0 (execConfigAtFnAck id s0) := by
  simp only [execConfigAtFnAck]; (repeat' split) <;> simp +contextual (maxDischargeDepth := 19)

@[simp] theorem atFnFail_pending (s : State) (a : AtFn) (stage : Nat) (cause : Nat) :
    (State.atFnFail s a stage cause).pending = s.pending := by simp [State.atFnFail]

@[simp] theorem atFnFail_memOk (s : State) (a : AtFn) (stage : Nat) (cause : Nat) (hm : s.memOk) :
    (State.atFnFail s a stage cause).memOk := by simp +contextual (maxDischargeDepth := 19) [State.atFnFail, hm]

@[simp] theorem execConfigAtFnRefuse_keeps (id : Nat) (bell : Bool) (s0 : State) :
    Keeps s0 (execConfigAtFnRefuse id bell s0) := by
  simp only [execConfigAtFnRefuse]; (repeat' split) <;> simp +contextual (maxDischargeDepth := 19)

@[simp] theorem execConfigAtFnCancel_keeps (id : Nat) (s0 : State) :
    Keeps s0 (execConfigAtFnCancel id s0) := by
  simp only [execConfigAtFnCancel]; (repeat' split) <;> simp +contextual (maxDischargeDepth := 19)

@[simp] theorem execConfigAtFnSync_keeps (change : Nat) (target : Nat) (subject : Nat) (value : Nat) (s0 : State) :
    Keeps s0 (execConfigAtFnSync change target subject value s0) := by simp +contextual (maxDischargeDepth := 19) [execConfigAtFnSync]

@[simp] theorem changeApply_pending (s : State) (a : AtFn) :
    (State.changeApply s a).pending = s.pending := by
  unfold State.changeApply; split <;> simp

@[simp] theorem changeApply_memOk (s : State) (a : AtFn) (hm : s.memOk) :
    (State.changeApply s a).memOk := by
  unfold State.changeApply; split <;> simp +contextual (maxDischargeDepth := 19) [hm]

@[simp] theorem atFnTick_pending (s : State) :
    (State.atFnTick s).pending = s.pending := by
  simp only [State.atFnTick]; (repeat' split) <;> simp

@[simp] theorem atFnTick_memOk (s : State) (hm : s.memOk) :
    (State.atFnTick s).memOk := by
  simp only [State.atFnTick]; (repeat' split) <;> simp +contextual (maxDischargeDepth := 19) [hm]

@[simp] theorem bargeCancel_pending (s : State) (n : Nat) (b : BargeAtFn) (stage : Nat) (cause : Nat) :
    (State.bargeCancel s n b stage cause).pending = s.pending := by simp [State.bargeCancel]

@[simp] theorem bargeCancel_memOk (s : State) (n : Nat) (b : BargeAtFn) (stage : Nat) (cause : Nat) (hm : s.memOk) :
    (State.bargeCancel s n b stage cause).memOk := by simp +contextual (maxDischargeDepth := 19) [State.bargeCancel, hm]

@[simp] theorem execAtFnCancelled_keeps (s0 : State) :
    Keeps s0 (execAtFnCancelled s0) := by
  simp only [execAtFnCancelled]; (repeat' split) <;> simp +contextual (maxDischargeDepth := 19)

@[simp] theorem execBargeAtFnPropose_keeps (ch : Nat) (id : Nat) (launch : Nat) (widx : Nat) (desc : BitVec 512) (s0 : State) :
    Keeps s0 (execBargeAtFnPropose ch id launch widx desc s0) := by simp +contextual (maxDischargeDepth := 19) [execBargeAtFnPropose]

@[simp] theorem execBargeAtFnAck_keeps (ch : Nat) (id : Nat) (s0 : State) :
    Keeps s0 (execBargeAtFnAck ch id s0) := by
  simp only [execBargeAtFnAck]; (repeat' split) <;> simp +contextual (maxDischargeDepth := 19)

@[simp] theorem execBargeAtFnRefuse_keeps (ch : Nat) (id : Nat) (bell : Bool) (s0 : State) :
    Keeps s0 (execBargeAtFnRefuse ch id bell s0) := by
  simp only [execBargeAtFnRefuse]; (repeat' split) <;> simp +contextual (maxDischargeDepth := 19)

@[simp] theorem execBargeAtFnCancel_keeps (ch : Nat) (id : Nat) (s0 : State) :
    Keeps s0 (execBargeAtFnCancel ch id s0) := by
  simp only [execBargeAtFnCancel]; (repeat' split) <;> simp +contextual (maxDischargeDepth := 19)

@[simp] theorem execBargeAtFnDone_keeps (ch : Nat) (id : Nat) (s0 : State) :
    Keeps s0 (execBargeAtFnDone ch id s0) := by
  simp only [execBargeAtFnDone]; (repeat' split) <;> simp +contextual (maxDischargeDepth := 19)

@[simp] theorem execBargeAtFnHalted_keeps (ch : Nat) (id : Nat) (s0 : State) :
    Keeps s0 (execBargeAtFnHalted ch id s0) := by
  simp only [execBargeAtFnHalted]; (repeat' split) <;> simp +contextual (maxDischargeDepth := 19)

@[simp] theorem bargeTick_pending (s : State) :
    (State.bargeTick s).pending = s.pending := by simp [State.bargeTick]

@[simp] theorem bargeTick_memOk (s : State) (hm : s.memOk) :
    (State.bargeTick s).memOk := by simp +contextual (maxDischargeDepth := 19) [State.bargeTick, hm]

@[simp] theorem bargeAlone_pending (s : State) :
    (State.bargeAlone s).pending = s.pending := by simp [State.bargeAlone]

@[simp] theorem bargeAlone_memOk (s : State) (hm : s.memOk) :
    (State.bargeAlone s).memOk := by simp +contextual (maxDischargeDepth := 19) [State.bargeAlone, hm]

@[simp] theorem joinEnter_pending (s : State) (ps : PState) (role : Role) :
    (State.joinEnter s ps role).pending = s.pending := by simp [State.joinEnter]

@[simp] theorem joinEnter_memOk (s : State) (ps : PState) (role : Role) (hm : s.memOk) :
    (State.joinEnter s ps role).memOk := by simp +contextual (maxDischargeDepth := 19) [State.joinEnter, hm]

@[simp] theorem resyncEnd_pending (s : State) (role : Role) :
    (State.resyncEnd s role).pending = s.pending := by simp [State.resyncEnd]

@[simp] theorem resyncEnd_memOk (s : State) (role : Role) (hm : s.memOk) :
    (State.resyncEnd s role).memOk := by simp +contextual (maxDischargeDepth := 19) [State.resyncEnd, hm]

@[simp] theorem pairTick_pending (s : State) :
    (State.pairTick s).pending = s.pending := by
  unfold State.pairTick; (repeat' split) <;> simp

@[simp] theorem pairTick_memOk (s : State) (hm : s.memOk) :
    (State.pairTick s).memOk := by
  unfold State.pairTick; (repeat' split) <;> simp +contextual (maxDischargeDepth := 19) [hm]

end Sys2Proof.Machine
end

