-- ==== Sys2Proof/Laws/Keep/Link.lean ====
section
/-!
SUPPORT. What each operation of Machine/Link.lean keeps: the queue of commands, and the canonical form of the memories.
-/
namespace Sys2Proof.Machine

@[simp] theorem settle_pending (s : State) (h : Nat) (rate : Nat) (width : Nat) :
    (State.settle s h rate width).pending = s.pending := by simp [State.settle]

@[simp] theorem settle_memOk (s : State) (h : Nat) (rate : Nat) (width : Nat) (hm : s.memOk) :
    (State.settle s h rate width).memOk := by simp +contextual (maxDischargeDepth := 19) [State.settle, hm]

@[simp] theorem execLaneFailed_keeps (head : Fin 2) (lane : Nat) (cause : Nat) (symbols : Nat) (s0 : State) :
    Keeps s0 (execLaneFailed head lane cause symbols s0) := by simp +contextual (maxDischargeDepth := 19) [execLaneFailed]

@[simp] theorem execWidthChanged_keeps (head : Fin 2) (width : Nat) (l0p : Bool) (us : Nat) (s0 : State) :
    Keeps s0 (execWidthChanged head width l0p us s0) := by simp +contextual (maxDischargeDepth := 19) [execWidthChanged]

@[simp] theorem execLinkUp_keeps (head : Fin 2) (rate : Nat) (width : Nat) (flit : Nat) (s0 : State) :
    Keeps s0 (execLinkUp head rate width flit s0) := by simp +contextual (maxDischargeDepth := 19) [execLinkUp]

@[simp] theorem execLinkDown_keeps (head : Fin 2) (cause : Nat) (s0 : State) :
    Keeps s0 (execLinkDown head cause s0) := by simp +contextual (maxDischargeDepth := 19) [execLinkDown]

@[simp] theorem moorNow_pending (s : State) :
    (State.moorNow s).pending = s.pending := by simp [State.moorNow]

@[simp] theorem moorNow_memOk (s : State) (hm : s.memOk) :
    (State.moorNow s).memOk := by simp +contextual (maxDischargeDepth := 19) [State.moorNow, hm]

@[simp] theorem execMoorEntered_keeps (head : Fin 2) (us : Nat) (s0 : State) :
    Keeps s0 (execMoorEntered head us s0) := by simp +contextual (maxDischargeDepth := 19) [execMoorEntered]

@[simp] theorem execMoorWake_keeps (head : Fin 2) (us : Nat) (s0 : State) :
    Keeps s0 (execMoorWake head us s0) := by simp +contextual (maxDischargeDepth := 19) [execMoorWake]

@[simp] theorem execGpfPhase1_keeps (head : Fin 2) (s0 : State) :
    Keeps s0 (execGpfPhase1 head s0) := by simp +contextual (maxDischargeDepth := 19) [execGpfPhase1]

@[simp] theorem execGpfPhase2_keeps (cyc : Nat) (head : Fin 2) (s0 : State) :
    Keeps s0 (execGpfPhase2 cyc head s0) := by simp +contextual (maxDischargeDepth := 19) [execGpfPhase2]

@[simp] theorem execGpfDone_keeps (cyc : Nat) (head : Fin 2) (drained : Nat) (s0 : State) :
    Keeps s0 (execGpfDone cyc head drained s0) := by
  simp only [execGpfDone]; (repeat' split) <;> simp +contextual (maxDischargeDepth := 19)

@[simp] theorem execCpmuCounterOverflow_keeps (head : Fin 2) (n : Nat) (inc : Nat) (s0 : State) :
    Keeps s0 (execCpmuCounterOverflow head n inc s0) := by simp +contextual (maxDischargeDepth := 19) [execCpmuCounterOverflow]

@[simp] theorem execDoeRequest_keeps (head : Fin 2) (proto : Nat) (index : Nat) (s0 : State) :
    Keeps s0 (execDoeRequest head proto index s0) := by
  unfold execDoeRequest; (repeat' split) <;> simp +contextual (maxDischargeDepth := 19)

@[simp] theorem execDoeAbort_keeps (head : Fin 2) (s0 : State) :
    Keeps s0 (execDoeAbort head s0) := by simp +contextual (maxDischargeDepth := 19) [execDoeAbort]

@[simp] theorem execMctpMessage_keeps (kind : Nat) (fault : Option Nat) (s0 : State) :
    Keeps s0 (execMctpMessage kind fault s0) := by
  unfold execMctpMessage; (repeat' split) <;> simp +contextual (maxDischargeDepth := 19)

@[simp] theorem execMediaPhyTrainingLost_keeps (mch : Nat) (back : Bool) (s0 : State) :
    Keeps s0 (execMediaPhyTrainingLost mch back s0) := by
  simp only [execMediaPhyTrainingLost]; (repeat' split) <;> simp +contextual (maxDischargeDepth := 19)

end Sys2Proof.Machine
end

