-- ==== Sys2Proof/Laws/Keep/Spdm.lean ====
section
/-!
SUPPORT. What each operation of Machine/Spdm.lean keeps: the queue of commands, and the canonical form of the memories.
-/
namespace Sys2Proof.Machine

@[simp] theorem spdmReply_pending (s : State) (path : Nat) (code : Nat) (p1 : Nat) (p2 : Nat) (body : List (BitVec 8)) :
    (State.spdmReply s path code p1 p2 body).pending = s.pending := by simp [State.spdmReply]

@[simp] theorem spdmReply_memOk (s : State) (path : Nat) (code : Nat) (p1 : Nat) (p2 : Nat) (body : List (BitVec 8)) (hm : s.memOk) :
    (State.spdmReply s path code p1 p2 body).memOk := by simp +contextual (maxDischargeDepth := 19) [State.spdmReply, hm]

@[simp] theorem spdmError_pending (s : State) (path : Nat) (code : Nat) :
    (State.spdmError s path code).pending = s.pending := by simp [State.spdmError]

@[simp] theorem spdmError_memOk (s : State) (path : Nat) (code : Nat) (hm : s.memOk) :
    (State.spdmError s path code).memOk := by simp [State.spdmError, hm]

@[simp] theorem modConn_pending (s : State) (path : Nat) (f : SpdmConn → SpdmConn) :
    (State.modConn s path f).pending = s.pending := by simp [State.modConn]

@[simp] theorem modConn_memOk (s : State) (path : Nat) (f : SpdmConn → SpdmConn) (hm : s.memOk) :
    (State.modConn s path f).memOk := by simp [State.modConn, hm]

@[simp] theorem spdm_keeps (s0 : State) (path : Nat) (ready : SpdmConn → Bool) (f : State → State) (hp : ∀ x, (f x).pending = x.pending) (hk : ∀ x, x.memOk → (f x).memOk) :
    Keeps s0 (State.spdm s0 path ready f) := by simp +contextual (maxDischargeDepth := 19) [hp, hk, State.spdm]

@[simp] theorem inSession_keeps (s0 : State) (path : Nat) (id : Nat) (f : State → State) (hp : ∀ x, (f x).pending = x.pending) (hk : ∀ x, x.memOk → (f x).memOk) :
    Keeps s0 (State.inSession s0 path id f) := by simp +contextual (maxDischargeDepth := 19) [hp, hk, State.inSession]

@[simp] theorem drawBytes_pending (s : State) (n : Nat) :
    (State.drawBytes s n).1.pending = s.pending := by simp [State.drawBytes]

@[simp] theorem drawBytes_memOk (s : State) (n : Nat) (hm : s.memOk) :
    (State.drawBytes s n).1.memOk := by simp [State.drawBytes, hm]

@[simp] theorem execGetVersion_keeps (path : Nat) (s : State) :
    Keeps s (execGetVersion path s) := by simp +contextual (maxDischargeDepth := 19) [execGetVersion]

@[simp] theorem execGetCapabilities_keeps (path : Nat) (s : State) :
    Keeps s (execGetCapabilities path s) := by simp +contextual (maxDischargeDepth := 19) [execGetCapabilities]

@[simp] theorem execNegotiateAlgorithms_keeps (path : Nat) (offered : Bool) (s : State) :
    Keeps s (execNegotiateAlgorithms path offered s) := by simp +contextual (maxDischargeDepth := 19) [execNegotiateAlgorithms]

@[simp] theorem execGetDigests_keeps (path : Nat) (s : State) :
    Keeps s (execGetDigests path s) := by simp +contextual (maxDischargeDepth := 19) [execGetDigests]

@[simp] theorem execGetCertificate_keeps (path : Nat) (slot : Nat) (off : Nat) (len : Nat) (s : State) :
    Keeps s (execGetCertificate path slot off len s) := by simp +contextual (maxDischargeDepth := 19) [execGetCertificate]

@[simp] theorem execSpdmChallenge_keeps (path : Nat) (slot : Nat) (s : State) :
    Keeps s (execSpdmChallenge path slot s) := by simp +contextual (maxDischargeDepth := 19) [execSpdmChallenge]

@[simp] theorem execGetMeasurements_keeps (path : Nat) (index : Nat) (sign : Bool) (s : State) :
    Keeps s (execGetMeasurements path index sign s) := by simp +contextual (maxDischargeDepth := 19) [execGetMeasurements]

@[simp] theorem execKeyExchange_keeps (path : Nat) (slot : Nat) (mutualAuth : Bool) (s : State) :
    Keeps s (execKeyExchange path slot mutualAuth s) := by simp +contextual (maxDischargeDepth := 19) [execKeyExchange]

@[simp] theorem authFail_pending (s : State) (path : Nat) (cause : Nat) :
    (State.authFail s path cause).pending = s.pending := by simp [State.authFail]

@[simp] theorem authFail_memOk (s : State) (path : Nat) (cause : Nat) (hm : s.memOk) :
    (State.authFail s path cause).memOk := by simp +contextual (maxDischargeDepth := 19) [State.authFail, hm]

@[simp] theorem execSpdmFinish_keeps (path : Nat) (mac : Bool) (chainOk : Bool) (rootOk : Bool) (s : State) :
    Keeps s (execSpdmFinish path mac chainOk rootOk s) := by
  unfold execSpdmFinish
  first | refine inOfficer_keeps _ _ _ _ (fun _ => ?_) (fun _ _ => ?_) | refine inSession_keeps _ _ _ _ (fun _ => ?_) (fun _ _ => ?_) | refine spdm_keeps _ _ _ _ (fun _ => ?_) (fun _ _ => ?_) | refine secured_keeps _ _ _ (fun _ => ?_) (fun _ _ => ?_) | refine vendor_keeps _ _ _ _ _ _ (fun _ => ?_) (fun _ _ => ?_) | refine serve_keeps _ _ _ _ (fun _ => ?_) (fun _ _ => ?_)
  all_goals repeat' split
  all_goals simp +contextual (maxDischargeDepth := 19) [*]

@[simp] theorem execSpdmHeartbeat_keeps (path : Nat) (session : Nat) (s : State) :
    Keeps s (execSpdmHeartbeat path session s) := by simp +contextual (maxDischargeDepth := 19) [execSpdmHeartbeat]

@[simp] theorem execKeyUpdate_keeps (path : Nat) (session : Nat) (s : State) :
    Keeps s (execKeyUpdate path session s) := by simp +contextual (maxDischargeDepth := 19) [execKeyUpdate]

@[simp] theorem execEndSession_keeps (path : Nat) (session : Nat) (s : State) :
    Keeps s (execEndSession path session s) := by simp +contextual (maxDischargeDepth := 19) [execEndSession]

@[simp] theorem inOfficer_keeps (s : State) (path : Nat) (id : Nat) (f : State → State) (hp : ∀ x, (f x).pending = x.pending) (hk : ∀ x, x.memOk → (f x).memOk) :
    Keeps s (State.inOfficer s path id f) := by simp +contextual (maxDischargeDepth := 19) [hp, hk, State.inOfficer]

@[simp] theorem execGetCsr_keeps (path : Nat) (session : Nat) (pairwise : Bool) (s : State) :
    Keeps s (execGetCsr path session pairwise s) := by simp +contextual (maxDischargeDepth := 19) [execGetCsr]

@[simp] theorem execSetCertificate_keeps (path : Nat) (session : Nat) (slot : Nat) (chain : List (BitVec 8)) (s : State) :
    Keeps s (execSetCertificate path session slot chain s) := by simp +contextual (maxDischargeDepth := 19) [execSetCertificate]

end Sys2Proof.Machine
end

