-- ==== Sys2Proof/Laws/Keep/Security.lean ====
section
/-!
SUPPORT. What each operation of Machine/Security.lean keeps: the queue of commands, and the canonical form of the memories.
-/
namespace Sys2Proof.Machine

@[simp] theorem secured_keeps (s : State) (m : Master) (f : State → State) (hp : ∀ x, (f x).pending = x.pending) (hk : ∀ x, x.memOk → (f x).memOk) :
    Keeps s (State.secured s m f) := by simp +contextual (maxDischargeDepth := 19) [hp, hk, State.secured]

@[simp] theorem passFail_pending (s : State) (m : Master) (master : Bool) :
    (State.passFail s m master).pending = s.pending := by simp [State.passFail]

@[simp] theorem passFail_memOk (s : State) (m : Master) (master : Bool) (hm : s.memOk) :
    (State.passFail s m master).memOk := by simp +contextual (maxDischargeDepth := 19) [State.passFail, hm]

@[simp] theorem execGetSecurityState_keeps (m : Master) (s : State) :
    Keeps s (execGetSecurityState m s) := by simp +contextual (maxDischargeDepth := 19) [execGetSecurityState]

@[simp] theorem execSetPassphrase_keeps (m : Master) (master : Bool) (current : BitVec 256) (new : BitVec 256) (s : State) :
    Keeps s (execSetPassphrase m master current new s) := by simp +contextual (maxDischargeDepth := 19) [execSetPassphrase]

@[simp] theorem execDisablePassphrase_keeps (m : Master) (master : Bool) (current : BitVec 256) (s : State) :
    Keeps s (execDisablePassphrase m master current s) := by simp +contextual (maxDischargeDepth := 19) [execDisablePassphrase]

@[simp] theorem execPassphraseUnlock_keeps (m : Master) (current : BitVec 256) (s : State) :
    Keeps s (execPassphraseUnlock m current s) := by simp +contextual (maxDischargeDepth := 19) [execPassphraseUnlock]

@[simp] theorem execFreezeSecurityState_keeps (m : Master) (s : State) :
    Keeps s (execFreezeSecurityState m s) := by simp +contextual (maxDischargeDepth := 19) [execFreezeSecurityState]

@[simp] theorem haltBarge_pending (s : State) :
    (State.haltBarge s).pending = s.pending := by
  simp only [State.haltBarge]
  repeat' (first | split | refine (foldl_pending _ (fun _ _ => ?_) _ _).trans ?_ | refine (gate_pending _ _ _ fun _ => ?_).trans ?_)
  all_goals simp

@[simp] theorem haltBarge_memOk (s : State) (hm : s.memOk) :
    (State.haltBarge s).memOk := by
  simp only [State.haltBarge]
  repeat' (first | split | refine foldl_memOk _ (fun _ _ _ => ?_) _ _ ?_ | refine gate_memOk _ _ _ ?_ fun _ _ => ?_)
  all_goals simp +contextual (maxDischargeDepth := 19) [*]

@[simp] theorem eraseBegin_pending (s : State) (svc : Nat) :
    (State.eraseBegin s svc).pending = s.pending := by
  simp only [State.eraseBegin]; (repeat' split) <;> simp

@[simp] theorem eraseBegin_memOk (s : State) (svc : Nat) (hm : s.memOk) :
    (State.eraseBegin s svc).memOk := by
  simp only [State.eraseBegin]; (repeat' split) <;> simp +contextual (maxDischargeDepth := 19) [hm]

@[simp] theorem eraseCommand_pending (s : State) (m : Master) (opcode : Nat) (svc : Nat) :
    (State.eraseCommand s m opcode svc).pending = s.pending := by simp [State.eraseCommand]

@[simp] theorem eraseCommand_memOk (s : State) (m : Master) (opcode : Nat) (svc : Nat) (hm : s.memOk) :
    (State.eraseCommand s m opcode svc).memOk := by simp +contextual (maxDischargeDepth := 19) [State.eraseCommand, hm]

@[simp] theorem execSanitize_keeps (m : Master) (s : State) :
    Keeps s (execSanitize m s) := by simp +contextual (maxDischargeDepth := 19) [execSanitize]

@[simp] theorem execSecureErase_keeps (m : Master) (s : State) :
    Keeps s (execSecureErase m s) := by simp +contextual (maxDischargeDepth := 19) [execSecureErase]

@[simp] theorem execPassphraseSecureErase_keeps (m : Master) (master : Bool) (current : BitVec 256) (s : State) :
    Keeps s (execPassphraseSecureErase m master current s) := by simp +contextual (maxDischargeDepth := 19) [execPassphraseSecureErase]

@[simp] theorem sanitized_pending (s : State) :
    (State.sanitized s).pending = s.pending := by simp [State.sanitized]

@[simp] theorem sanitized_memOk (s : State) (hm : s.memOk) :
    (State.sanitized s).memOk := by simp +contextual (maxDischargeDepth := 19) [State.sanitized, hm]

@[simp] theorem execEraseDone_keeps (s0 : State) :
    Keeps s0 (execEraseDone s0) := by
  simp only [execEraseDone]; (repeat' split) <;> simp +contextual (maxDischargeDepth := 19)

end Sys2Proof.Machine
end

