-- ==== Sys2Proof/Laws/Keep/Telemetry.lean ====
section
/-!
SUPPORT. What each operation of Machine/Telemetry.lean keeps: the queue of commands, and the canonical form of the memories.
-/
namespace Sys2Proof.Machine

@[simp] theorem logAdd_pending (s : State) (h : Nat) (log : Nat) (kind : Nat) (bytes : List (BitVec 8)) :
    (State.logAdd s h log kind bytes).1.pending = s.pending := by
  simp only [State.logAdd]; (repeat' split) <;> simp

@[simp] theorem logAdd_memOk (s : State) (h : Nat) (log : Nat) (kind : Nat) (bytes : List (BitVec 8)) (hm : s.memOk) :
    (State.logAdd s h log kind bytes).1.memOk := by
  simp only [State.logAdd]; (repeat' split) <;> simp +contextual (maxDischargeDepth := 19) [hm]

@[simp] theorem logLink_pending (s : State) (h : Nat) (log : Nat) (a : Nat) (b : Nat) :
    (State.logLink s h log a b).pending = s.pending := by simp [State.logLink]

@[simp] theorem logLink_memOk (s : State) (h : Nat) (log : Nat) (a : Nat) (b : Nat) (hm : s.memOk) :
    (State.logLink s h log a b).memOk := by simp [State.logLink, hm]

@[simp] theorem logRecord_pending (s : State) (r : Record) :
    (State.logRecord s r).pending = s.pending := by
  simp only [State.logRecord]
  repeat' (first | split | refine (foldl_pending _ (fun _ _ => ?_) _ _).trans ?_ | refine (gate_pending _ _ _ fun _ => ?_).trans ?_)
  all_goals simp

@[simp] theorem logRecord_memOk (s : State) (r : Record) (hm : s.memOk) :
    (State.logRecord s r).memOk := by
  simp only [State.logRecord]
  repeat' (first | split | refine foldl_memOk _ (fun _ _ _ => ?_) _ _ ?_ | refine gate_memOk _ _ _ ?_ fun _ _ => ?_)
  all_goals simp +contextual (maxDischargeDepth := 19) [*]

@[simp] theorem alertTick_pending (s : State) :
    (State.alertTick s).pending = s.pending := by simp [State.alertTick]

@[simp] theorem alertTick_memOk (s : State) (hm : s.memOk) :
    (State.alertTick s).memOk := by simp +contextual (maxDischargeDepth := 19) [State.alertTick, hm]

@[simp] theorem deliver_pending (s : State) (r : Record) (fin : Bool) :
    (State.deliver s r fin).pending = s.pending := by simp [State.deliver]

@[simp] theorem deliver_memOk (s : State) (r : Record) (fin : Bool) (hm : s.memOk) :
    (State.deliver s r fin).memOk := by simp +contextual (maxDischargeDepth := 19) [State.deliver, hm]

@[simp] theorem execRecordTake_keeps (s0 : State) :
    Keeps s0 (execRecordTake s0) := by
  simp only [execRecordTake]; (repeat' split) <;> simp +contextual (maxDischargeDepth := 19)

@[simp] theorem censusLatch_pending (s : State) (fnEnd : Nat) (short : Bool) :
    (State.censusLatch s fnEnd short).pending = s.pending := by simp [State.censusLatch]

@[simp] theorem censusLatch_memOk (s : State) (fnEnd : Nat) (short : Bool) (hm : s.memOk) :
    (State.censusLatch s fnEnd short).memOk := by simp [State.censusLatch, hm]

@[simp] theorem execCensusWindowClose_keeps (s0 : State) :
    Keeps s0 (execCensusWindowClose s0) := by simp +contextual (maxDischargeDepth := 19) [execCensusWindowClose]

@[simp] theorem execCensusPublish_keeps (s0 : State) :
    Keeps s0 (execCensusPublish s0) := by simp +contextual (maxDischargeDepth := 19) [execCensusPublish]

end Sys2Proof.Machine
end

