-- ==== Sys2Proof/Laws/Keep/Mailbox.lean ====
section
/-!
SUPPORT. What each operation of Machine/Mailbox.lean keeps: the queue of commands, and the canonical form of the memories.
-/
namespace Sys2Proof.Machine

@[simp] theorem execIdentify_keeps (m : Master) (s : State) :
    Keeps s (execIdentify m s) := by simp +contextual (maxDischargeDepth := 19) [execIdentify]

@[simp] theorem execIdentifyMemoryDevice_keeps (m : Master) (s : State) :
    Keeps s (execIdentifyMemoryDevice m s) := by simp +contextual (maxDischargeDepth := 19) [execIdentifyMemoryDevice]

@[simp] theorem execGetPartitionInfo_keeps (m : Master) (s : State) :
    Keeps s (execGetPartitionInfo m s) := by simp +contextual (maxDischargeDepth := 19) [execGetPartitionInfo]

@[simp] theorem execGetSupportedLogs_keeps (m : Master) (s : State) :
    Keeps s (execGetSupportedLogs m s) := by simp +contextual (maxDischargeDepth := 19) [execGetSupportedLogs]

@[simp] theorem execGetLog_keeps (m : Master) (log : Nat) (off : Nat) (len : Nat) (s : State) :
    Keeps s (execGetLog m log off len s) := by simp +contextual (maxDischargeDepth := 19) [execGetLog]

@[simp] theorem execGetTimestamp_keeps (m : Master) (s : State) :
    Keeps s (execGetTimestamp m s) := by simp +contextual (maxDischargeDepth := 19) [execGetTimestamp]

@[simp] theorem execSetTimestamp_keeps (m : Master) (ns : Nat) (s : State) :
    Keeps s (execSetTimestamp m ns s) := by simp +contextual (maxDischargeDepth := 19) [execSetTimestamp]

@[simp] theorem execGetEventRecords_keeps (m : Master) (log : Nat) (s : State) :
    Keeps s (execGetEventRecords m log s) := by simp +contextual (maxDischargeDepth := 19) [execGetEventRecords]

@[simp] theorem execClearEventRecords_keeps (m : Master) (log : Nat) (all : Bool) (handles : List Nat) (s : State) :
    Keeps s (execClearEventRecords m log all handles s) := by simp +contextual (maxDischargeDepth := 19) [execClearEventRecords]

@[simp] theorem execGetEventInterruptPolicy_keeps (m : Master) (s : State) :
    Keeps s (execGetEventInterruptPolicy m s) := by simp +contextual (maxDischargeDepth := 19) [execGetEventInterruptPolicy]

@[simp] theorem execSetEventInterruptPolicy_keeps (m : Master) (policy : List Nat) (s : State) :
    Keeps s (execSetEventInterruptPolicy m policy s) := by simp +contextual (maxDischargeDepth := 19) [execSetEventInterruptPolicy]

@[simp] theorem execGetHealthInfo_keeps (m : Master) (s : State) :
    Keeps s (execGetHealthInfo m s) := by simp +contextual (maxDischargeDepth := 19) [execGetHealthInfo]

@[simp] theorem execGetAlertConfig_keeps (m : Master) (s : State) :
    Keeps s (execGetAlertConfig m s) := by simp +contextual (maxDischargeDepth := 19) [execGetAlertConfig]

@[simp] theorem execSetAlertConfig_keeps (m : Master) (valid : BitVec 5) (enable : BitVec 5) (life : Nat) (overTemp : Int) (underTemp : Int) (volatileErr : Nat) (persistent : Nat) (s : State) :
    Keeps s (execSetAlertConfig m valid enable life overTemp underTemp volatileErr persistent s) := by
  simp only [execSetAlertConfig]; (repeat' split) <;> simp +contextual (maxDischargeDepth := 19)

@[simp] theorem execGetShutdownState_keeps (m : Master) (s : State) :
    Keeps s (execGetShutdownState m s) := by simp +contextual (maxDischargeDepth := 19) [execGetShutdownState]

@[simp] theorem execSetShutdownState_keeps (m : Master) (dirty : Bool) (s : State) :
    Keeps s (execSetShutdownState m dirty s) := by simp +contextual (maxDischargeDepth := 19) [execSetShutdownState]

@[simp] theorem execGetPoisonList_keeps (m : Master) (dpa : Nat) (len : Nat) (s : State) :
    Keeps s (execGetPoisonList m dpa len s) := by simp +contextual (maxDischargeDepth := 19) [execGetPoisonList]

@[simp] theorem commandWrite_pending (s : State) (m : Master) (dpa : Nat) (data : Sector) (poison : Bool) :
    (State.commandWrite s m dpa data poison).pending = s.pending := by simp [State.commandWrite]

@[simp] theorem commandWrite_memOk (s : State) (m : Master) (dpa : Nat) (data : Sector) (poison : Bool) (hm : s.memOk) :
    (State.commandWrite s m dpa data poison).memOk := by simp [State.commandWrite, hm]

@[simp] theorem execInjectPoison_keeps (cyc : Nat) (m : Master) (dpa : Nat) (s : State) :
    Keeps s (execInjectPoison cyc m dpa s) := by
  simp only [execInjectPoison]
  repeat' split
  all_goals refine (keeps_next _ _).2 ⟨?_, fun hm => ?_⟩
  all_goals repeat' (first | split | refine (foldl_pending _ (fun _ _ => ?_) _ _).trans ?_ | refine (gate_pending _ _ _ fun _ => ?_).trans ?_ | refine foldl_memOk _ (fun _ _ _ => ?_) _ _ ?_ | refine gate_memOk _ _ _ ?_ fun _ _ => ?_)
  all_goals simp +contextual (maxDischargeDepth := 19) [*]

@[simp] theorem clearEnds_pending (s : State) (dpa : Nat) :
    (State.clearEnds s dpa).pending = s.pending := by simp [State.clearEnds]

@[simp] theorem clearEnds_memOk (s : State) (dpa : Nat) (hm : s.memOk) :
    (State.clearEnds s dpa).memOk := by simp +contextual (maxDischargeDepth := 19) [State.clearEnds, hm]

@[simp] theorem execClearPoison_keeps (cyc : Nat) (m : Master) (dpa : Nat) (data : Sector) (s : State) :
    Keeps s (execClearPoison cyc m dpa data s) := by
  simp only [execClearPoison]
  repeat' split
  all_goals refine (keeps_next _ _).2 ⟨?_, fun hm => ?_⟩
  all_goals repeat' (first | split | refine (foldl_pending _ (fun _ _ => ?_) _ _).trans ?_ | refine (gate_pending _ _ _ fun _ => ?_).trans ?_ | refine foldl_memOk _ (fun _ _ _ => ?_) _ _ ?_ | refine gate_memOk _ _ _ ?_ fun _ _ => ?_)
  all_goals simp +contextual (maxDischargeDepth := 19) [*]

@[simp] theorem execGetScanMediaCapabilities_keeps (m : Master) (dpa : Nat) (len : Nat) (s : State) :
    Keeps s (execGetScanMediaCapabilities m dpa len s) := by simp +contextual (maxDischargeDepth := 19) [execGetScanMediaCapabilities]

@[simp] theorem execScanMedia_keeps (m : Master) (dpa : Nat) (len : Nat) (s : State) :
    Keeps s (execScanMedia m dpa len s) := by simp +contextual (maxDischargeDepth := 19) [execScanMedia]

@[simp] theorem execGetScanMediaResults_keeps (m : Master) (s : State) :
    Keeps s (execGetScanMediaResults m s) := by simp +contextual (maxDischargeDepth := 19) [execGetScanMediaResults]

@[simp] theorem execGetFwInfo_keeps (m : Master) (s : State) :
    Keeps s (execGetFwInfo m s) := by simp +contextual (maxDischargeDepth := 19) [execGetFwInfo]

@[simp] theorem fwPut_pending (s : State) (off : Nat) (data : List (BitVec 8)) :
    (State.fwPut s off data).pending = s.pending := by simp [State.fwPut]

@[simp] theorem fwPut_memOk (s : State) (off : Nat) (data : List (BitVec 8)) (hm : s.memOk) :
    (State.fwPut s off data).memOk := by simp [State.fwPut, hm]

@[simp] theorem execTransferFw_keeps (m : Master) (action : Nat) (slot : Nat) (off : Nat) (data : List (BitVec 8)) (s : State) :
    Keeps s (execTransferFw m action slot off data s) := by simp +contextual (maxDischargeDepth := 19) [execTransferFw]

@[simp] theorem execActivateFw_keeps (m : Master) (action : Nat) (slot : Nat) (s : State) :
    Keeps s (execActivateFw m action slot s) := by simp +contextual (maxDischargeDepth := 19) [execActivateFw]

@[simp] theorem scanOver_pending (s : State) :
    (State.scanOver s).pending = s.pending := by simp [State.scanOver]

@[simp] theorem scanOver_memOk (s : State) (hm : s.memOk) :
    (State.scanOver s).memOk := by simp [State.scanOver, hm]

@[simp] theorem execBgCmdDone_keeps (ok : Bool) (s0 : State) :
    Keeps s0 (execBgCmdDone ok s0) := by
  simp only [execBgCmdDone]; (repeat' split) <;> simp +contextual (maxDischargeDepth := 19)

end Sys2Proof.Machine
end

