-- ==== Sys2Proof/Laws/Keep/Vendor.lean ====
section
/-!
SUPPORT. What each operation of Machine/Vendor.lean keeps: the queue of commands, and the canonical form of the memories.
-/
namespace Sys2Proof.Machine

@[simp] theorem regCommand_pending (s : State) (m : Master) (opcode : Nat) (payload : List (BitVec 8)) (f : State → State) (hp : ∀ x, (f x).pending = x.pending) :
    (State.regCommand s m opcode payload f).pending = s.pending := by simp [hp, State.regCommand]

@[simp] theorem regCommand_memOk (s : State) (m : Master) (opcode : Nat) (payload : List (BitVec 8)) (f : State → State) (hk : ∀ x, x.memOk → (f x).memOk) (hm : s.memOk) :
    (State.regCommand s m opcode payload f).memOk := by simp +contextual (maxDischargeDepth := 19) [State.regCommand, hm, hk]

@[simp] theorem execRegRead_keeps (m : Master) (payload : List (BitVec 8)) (s : State) :
    Keeps s (execRegRead m payload s) := by simp +contextual (maxDischargeDepth := 19) [execRegRead]

@[simp] theorem execRegWrite_keeps (m : Master) (payload : List (BitVec 8)) (s : State) :
    Keeps s (execRegWrite m payload s) := by simp +contextual (maxDischargeDepth := 19) [execRegWrite]

@[simp] theorem execRegionSetAttr_keeps (m : Master) (payload : List (BitVec 8)) (s : State) :
    Keeps s (execRegionSetAttr m payload s) := by simp +contextual (maxDischargeDepth := 19) [execRegionSetAttr]

@[simp] theorem execMapSelect_keeps (m : Master) (payload : List (BitVec 8)) (s : State) :
    Keeps s (execMapSelect m payload s) := by simp +contextual (maxDischargeDepth := 19) [execMapSelect]

@[simp] theorem execCensusCtrl_keeps (m : Master) (payload : List (BitVec 8)) (s : State) :
    Keeps s (execCensusCtrl m payload s) := by simp +contextual (maxDischargeDepth := 19) [execCensusCtrl]

@[simp] theorem vendorCommand_keeps (s : State) (session : Nat) (opcode : Nat) (payload : List (BitVec 8)) :
    Keeps s (State.vendorCommand s session opcode payload) := by
  unfold State.vendorCommand; (repeat' split) <;> simp +contextual (maxDischargeDepth := 19)

@[simp] theorem execVendorDefinedRequest_keeps (path : Nat) (session : Nat) (opcode : Nat) (payload : List (BitVec 8)) (s0 : State) :
    Keeps s0 (execVendorDefinedRequest path session opcode payload s0) := by
  unfold execVendorDefinedRequest
  extract_lets s _ answered officer noted
  have hs : s.pending = s0.pending ∧ (s0.memOk → s.memOk) := ⟨begin_pending s0, begin_memOk s0⟩
  have ha : answered.pending = s.pending ∧ (s.memOk → answered.memOk) := by
    simp only [answered]
    split
    · simp +contextual
    · split
      · simp +contextual
      · simp
  have hn : noted.pending = s.pending ∧ (s.memOk → noted.memOk) := by
    simp +contextual [noted, ha.1, ha.2]
  clear_value noted answered s
  split
  · simpa using hs
  split
  · simp +contextual [hs.1, hs.2]
  split
  · simp +contextual [hs.1, hs.2]
  obtain ⟨t, ht, hp, hk⟩ := vendorCommand_keeps noted session opcode payload
  rw [ht]
  have k : s0.memOk → t.memOk := fun h => hk (hn.2 (hs.2 h))
  simp +contextual [hp, k, hn.1, hs.1]

end Sys2Proof.Machine
end

