-- ==== Sys2Proof/Laws/Keep/Tick.lean ====
section
/-!
SUPPORT. What each operation of Machine/Tick.lean keeps: the queue of commands, and the canonical form of the memories.
-/
namespace Sys2Proof.Machine

@[simp] theorem tallyRecord_pending (s : State) (key : Nat) (n : Nat) :
    (State.tallyRecord s key n).pending = s.pending := by simp [State.tallyRecord]

@[simp] theorem tallyRecord_memOk (s : State) (key : Nat) (n : Nat) (hm : s.memOk) :
    (State.tallyRecord s key n).memOk := by simp +contextual (maxDischargeDepth := 19) [State.tallyRecord, hm]

@[simp] theorem headRecords_pending (s : State) (h : Nat) :
    (State.headRecords s h).pending = s.pending := by
  unfold State.headRecords; split <;> simp

@[simp] theorem headRecords_memOk (s : State) (h : Nat) (hm : s.memOk) :
    (State.headRecords s h).memOk := by
  unfold State.headRecords; split <;> simp +contextual (maxDischargeDepth := 19) [hm]

@[simp] theorem droppedRecord_pending (s : State) :
    (State.droppedRecord s).pending = s.pending := by simp [State.droppedRecord]

@[simp] theorem droppedRecord_memOk (s : State) (hm : s.memOk) :
    (State.droppedRecord s).memOk := by simp +contextual (maxDischargeDepth := 19) [State.droppedRecord, hm]

@[simp] theorem beatRest_pending (s : State) (c : Nat) :
    (State.beatRest s c).pending = s.pending := by simp [State.beatRest]

@[simp] theorem beatRest_memOk (s : State) (c : Nat) (hm : s.memOk) :
    (State.beatRest s c).memOk := by simp +contextual (maxDischargeDepth := 19) [State.beatRest, hm]

@[simp] theorem countFree_pending (s : State) (b e m : Nat) :
    (State.countFree s b e m).pending = s.pending := by simp [State.countFree]

@[simp] theorem countFree_memOk (s : State) (b e m : Nat) (hm : s.memOk) :
    (State.countFree s b e m).memOk := by simp +contextual (maxDischargeDepth := 19) [State.countFree, hm]

@[simp] theorem freeCounts_pending (s : State) :
    (State.freeCounts s).pending = s.pending := by simp [State.freeCounts]

@[simp] theorem freeCounts_memOk (s : State) (hm : s.memOk) :
    (State.freeCounts s).memOk := by simp +contextual (maxDischargeDepth := 19) [State.freeCounts, hm]

@[simp] theorem timeCounts_pending (s : State) :
    (State.timeCounts s).pending = s.pending := by simp [State.timeCounts]

@[simp] theorem timeCounts_memOk (s : State) (hm : s.memOk) :
    (State.timeCounts s).memOk := by simp +contextual (maxDischargeDepth := 19) [State.timeCounts, hm]

@[simp] theorem excludeDelays_pending (s : State) : (State.excludeDelays s).pending = s.pending := rfl

@[simp] theorem excludeDelays_memOk (s : State) (hm : s.memOk) : (State.excludeDelays s).memOk := hm

@[simp] theorem frameEnd_pending (s0 : State) :
    (State.frameEnd s0).pending = s0.pending := by simp [State.frameEnd]

@[simp] theorem frameEnd_memOk (s0 : State) (hm : s0.memOk) :
    (State.frameEnd s0).memOk := by simp +contextual (maxDischargeDepth := 19) [State.frameEnd, hm]

@[simp] theorem fnAdvance_pending (s : State) :
    (State.fnAdvance s).pending = s.pending := by simp [State.fnAdvance]

@[simp] theorem fnAdvance_memOk (s : State) (hm : s.memOk) :
    (State.fnAdvance s).memOk := by simp +contextual (maxDischargeDepth := 19) [State.fnAdvance, hm]

@[simp] theorem bell_pending (s : State) :
    (State.bell s).pending = s.pending := by simp [State.bell]

@[simp] theorem bell_memOk (s : State) (hm : s.memOk) :
    (State.bell s).memOk := by simp +contextual (maxDischargeDepth := 19) [State.bell, hm]

@[simp] theorem censusTick_pending (s : State) (old0 : Nat) :
    (State.censusTick s old0).pending = s.pending := by simp [State.censusTick]

@[simp] theorem censusTick_memOk (s : State) (old0 : Nat) (hm : s.memOk) :
    (State.censusTick s old0).memOk := by simp +contextual (maxDischargeDepth := 19) [State.censusTick, hm]

@[simp] theorem censusLate_pending (s : State) (old : Nat) :
    (State.censusLate s old).pending = s.pending := by simp [State.censusLate]

@[simp] theorem censusLate_memOk (s : State) (old : Nat) (hm : s.memOk) :
    (State.censusLate s old).memOk := by simp +contextual (maxDischargeDepth := 19) [State.censusLate, hm]

@[simp] theorem compareRegions_pending (s : State) :
    (State.compareRegions s).pending = s.pending := by simp [State.compareRegions]

@[simp] theorem compareRegions_memOk (s : State) (hm : s.memOk) :
    (State.compareRegions s).memOk := by simp +contextual (maxDischargeDepth := 19) [State.compareRegions, hm]

@[simp] theorem groupTick_pending (s : State) :
    (State.groupTick s).pending = s.pending := by simp [State.groupTick]

@[simp] theorem groupTick_memOk (s : State) (hm : s.memOk) :
    (State.groupTick s).memOk := by simp +contextual (maxDischargeDepth := 19) [State.groupTick, hm]

@[simp] theorem mapTo_pending (s : State) (m : Nat) :
    (State.mapTo s m).pending = s.pending := by simp [State.mapTo]

@[simp] theorem mapTo_memOk (s : State) (m : Nat) (hm : s.memOk) :
    (State.mapTo s m).memOk := by simp +contextual (maxDischargeDepth := 19) [State.mapTo, hm]

@[simp] theorem mapSelect_pending (s : State) :
    (State.mapSelect s).pending = s.pending := by
  simp only [State.mapSelect]; (repeat' split) <;> simp

@[simp] theorem mapSelect_memOk (s : State) (hm : s.memOk) :
    (State.mapSelect s).memOk := by
  simp only [State.mapSelect]; (repeat' split) <;> simp +contextual (maxDischargeDepth := 19) [hm]

@[simp] theorem mapTick_pending (s0 : State) (group1 : Bool) :
    (State.mapTick s0 group1).pending = s0.pending := by
  simp only [State.mapTick]; (repeat' split) <;> simp

@[simp] theorem mapTick_memOk (s0 : State) (group1 : Bool) (hm : s0.memOk) :
    (State.mapTick s0 group1).memOk := by
  simp only [State.mapTick]; (repeat' split) <;> simp +contextual (maxDischargeDepth := 19) [hm]

@[simp] theorem classTick_pending (s : State) :
    (State.classTick s).pending = s.pending := by simp [State.classTick]

@[simp] theorem classTick_memOk (s : State) (hm : s.memOk) :
    (State.classTick s).memOk := by simp +contextual (maxDischargeDepth := 19) [State.classTick, hm]

@[simp] theorem boardTemp_pending (s : State) (k : Nat) (t : Int) :
    (State.boardTemp s k t).pending = s.pending := by simp [State.boardTemp]

@[simp] theorem boardTemp_memOk (s : State) (k : Nat) (t : Int) (hm : s.memOk) :
    (State.boardTemp s k t).memOk := by simp +contextual (maxDischargeDepth := 19) [State.boardTemp, hm]

@[simp] theorem tempTick_pending (s : State) (temps : List (Nat × Nat × Int)) (frames : Nat) :
    (State.tempTick s temps frames).pending = s.pending := by simp [State.tempTick]

@[simp] theorem tempTick_memOk (s : State) (temps : List (Nat × Nat × Int)) (frames : Nat) (hm : s.memOk) :
    (State.tempTick s temps frames).memOk := by simp +contextual (maxDischargeDepth := 19) [State.tempTick, hm]

@[simp] theorem excludeTick_pending (s : State) (d : Nat) :
    (State.excludeTick s d).pending = s.pending := by
  simp only [State.excludeTick]; (repeat' split) <;> simp

@[simp] theorem excludeTick_memOk (s : State) (d : Nat) (hm : s.memOk) :
    (State.excludeTick s d).memOk := by
  simp only [State.excludeTick]; (repeat' split) <;> simp +contextual (maxDischargeDepth := 19) [hm]

@[simp] theorem oscTick_pending (s : State) :
    (State.oscTick s).pending = s.pending := by simp [State.oscTick]

@[simp] theorem oscTick_memOk (s : State) (hm : s.memOk) :
    (State.oscTick s).memOk := by simp +contextual (maxDischargeDepth := 19) [State.oscTick, hm]

@[simp] theorem ttTick_pending (s : State) (group1 : Bool) (temps : List (Nat × Nat × Int)) (frames : Nat) :
    (State.ttTick s group1 temps frames).pending = s.pending := by simp [State.ttTick]

@[simp] theorem ttTick_memOk (s : State) (group1 : Bool) (temps : List (Nat × Nat × Int)) (frames : Nat) (hm : s.memOk) :
    (State.ttTick s group1 temps frames).memOk := by simp +contextual (maxDischargeDepth := 19) [State.ttTick, hm]

@[simp] theorem batchTick_pending (s : State) :
    (State.batchTick s).pending = s.pending := by simp [State.batchTick]

@[simp] theorem batchTick_memOk (s : State) (hm : s.memOk) :
    (State.batchTick s).memOk := by simp +contextual (maxDischargeDepth := 19) [State.batchTick, hm]

@[simp] theorem sliceTick_pending (s : State) (n : Nat) :
    (State.sliceTick s n).pending = s.pending := by simp [State.sliceTick]

@[simp] theorem sliceTick_memOk (s : State) (n : Nat) (hm : s.memOk) :
    (State.sliceTick s n).memOk := by simp [State.sliceTick, hm]

@[simp] theorem tableTick_pending (s : State) (journalOk late : Bool) :
    (State.tableTick s journalOk late).pending = s.pending := by simp [State.tableTick]

@[simp] theorem tableTick_memOk (s : State) (journalOk late : Bool) (hm : s.memOk) :
    (State.tableTick s journalOk late).memOk := by simp +contextual (maxDischargeDepth := 19) [State.tableTick, hm]

@[simp] theorem handoverTick_pending (s : State) :
    (State.handoverTick s).pending = s.pending := by
  unfold State.handoverTick; split <;> simp

@[simp] theorem handoverTick_memOk (s : State) (hm : s.memOk) :
    (State.handoverTick s).memOk := by
  unfold State.handoverTick; split <;> simp +contextual (maxDischargeDepth := 19) [hm]

@[simp] theorem fryTick_pending (s : State) :
    (State.fryTick s).pending = s.pending := by simp [State.fryTick]

@[simp] theorem fryTick_memOk (s : State) (hm : s.memOk) :
    (State.fryTick s).memOk := by simp +contextual (maxDischargeDepth := 19) [State.fryTick, hm]

@[simp] theorem gateBegin_pending (s : State) (cause : Nat) :
    (State.gateBegin s cause).pending = s.pending := by simp [State.gateBegin]

@[simp] theorem gateBegin_memOk (s : State) (cause : Nat) (hm : s.memOk) :
    (State.gateBegin s cause).memOk := by simp +contextual (maxDischargeDepth := 19) [State.gateBegin, hm]

@[simp] theorem gateTick_pending (s : State) (vres : Nat) :
    (State.gateTick s vres).pending = s.pending := by simp [State.gateTick]

@[simp] theorem gateTick_memOk (s : State) (vres : Nat) (hm : s.memOk) :
    (State.gateTick s vres).memOk := by simp +contextual (maxDischargeDepth := 19) [State.gateTick, hm]

@[simp] theorem mediaFnTick_pending (s : State) :
    (State.mediaFnTick s).pending = s.pending := by simp [State.mediaFnTick]

@[simp] theorem mediaFnTick_memOk (s : State) (hm : s.memOk) :
    (State.mediaFnTick s).memOk := by simp +contextual (maxDischargeDepth := 19) [State.mediaFnTick, hm]

@[simp] theorem loadTick_pending (s : State) (h : Nat) :
    (State.loadTick s h).pending = s.pending := by simp [State.loadTick]

@[simp] theorem loadTick_memOk (s : State) (h : Nat) (hm : s.memOk) :
    (State.loadTick s h).memOk := by simp +contextual (maxDischargeDepth := 19) [State.loadTick, hm]

@[simp] theorem headTick_pending (s : State) (vres : Nat) (late : Bool) :
    (State.headTick s vres late).pending = s.pending := by simp [State.headTick]

@[simp] theorem headTick_memOk (s : State) (vres : Nat) (late : Bool) (hm : s.memOk) :
    (State.headTick s vres late).memOk := by simp +contextual (maxDischargeDepth := 19) [State.headTick, hm]

@[simp] theorem backlogTick_pending (s : State) (backlog : Nat) (busiest : Nat) :
    (State.backlogTick s backlog busiest).pending = s.pending := by simp [State.backlogTick]

@[simp] theorem backlogTick_memOk (s : State) (backlog : Nat) (busiest : Nat) (hm : s.memOk) :
    (State.backlogTick s backlog busiest).memOk := by simp +contextual (maxDischargeDepth := 19) [State.backlogTick, hm]

@[simp] theorem wakeTick_pending (s : State) :
    (State.wakeTick s).pending = s.pending := by simp [State.wakeTick]

@[simp] theorem wakeTick_memOk (s : State) (hm : s.memOk) :
    (State.wakeTick s).memOk := by simp +contextual (maxDischargeDepth := 19) [State.wakeTick, hm]

@[simp] theorem flushTick_pending (s : State) :
    (State.flushTick s).pending = s.pending := by
  unfold State.flushTick; split <;> simp

@[simp] theorem flushTick_memOk (s : State) (hm : s.memOk) :
    (State.flushTick s).memOk := by
  unfold State.flushTick; split <;> simp +contextual (maxDischargeDepth := 19) [hm]

@[simp] theorem frameTick_pending (s0 : State) (temps : List (Nat × Nat × Int)) (vres : Nat) (journalOk : Bool) (backlog : Nat) (busiest : Nat) :
    (State.frameTick s0 temps vres journalOk backlog busiest).pending = s0.pending := by simp [State.frameTick]

@[simp] theorem frameTick_memOk (s0 : State) (temps : List (Nat × Nat × Int)) (vres : Nat) (journalOk : Bool) (backlog busiest : Nat) (hm : s0.memOk) :
    (State.frameTick s0 temps vres journalOk backlog busiest).memOk := by
  simp only [State.frameTick]; (repeat' split) <;> simp +contextual (maxDischargeDepth := 19) [hm]

@[simp] theorem execFrameTick_keeps (temps : List (Nat × Nat × Int)) (vres : Nat) (journalOk : Bool) (backlog : Nat) (busiest : Nat) (s0 : State) :
    Keeps s0 (execFrameTick temps vres journalOk backlog busiest s0) := by simp +contextual (maxDischargeDepth := 19) [execFrameTick]

end Sys2Proof.Machine
end

