-- ==== Sys2Proof/Laws/Kv.lean ====
section
/-!
SUPPORT. Laws of the sparse tables: reading after writing, and that writing keeps the canonical form.
-/
namespace Sys2Proof.Machine

variable {α : Type}

theorem Kv.get?_set_self (m : Kv α) (k : Nat) (v : α) : Kv.get? (Kv.set m k v) k = some v := by
  induction m with
  | nil => simp [Kv.set, Kv.get?]
  | cons p t ih =>
    obtain ⟨k', v'⟩ := p
    unfold Kv.set
    split
    · simp [Kv.get?]
    · split
      · simp [Kv.get?]
      · simp only [Kv.get?]
        split
        · omega
        · exact ih

theorem Kv.get?_set_ne (m : Kv α) {k j : Nat} (v : α) (h : j ≠ k) : Kv.get? (Kv.set m k v) j = Kv.get? m j := by
  induction m with
  | nil => simp [Kv.set, Kv.get?, Ne.symm h]
  | cons p t ih =>
    obtain ⟨k', v'⟩ := p
    unfold Kv.set
    split
    · simp [Kv.get?, Ne.symm h]
    · split
      · next e => subst e; simp [Kv.get?, Ne.symm h]
      · simp only [Kv.get?]
        split
        · rfl
        · exact ih

@[simp] theorem Kv.getD_set_self (m : Kv α) (k : Nat) (v d : α) : Kv.getD (Kv.set m k v) k d = v := by
  simp [Kv.getD, Kv.get?_set_self]

theorem Kv.getD_set_ne (m : Kv α) {k j : Nat} (v d : α) (h : j ≠ k) : Kv.getD (Kv.set m k v) j d = Kv.getD m j d := by
  simp [Kv.getD, Kv.get?_set_ne m v h]

@[simp] theorem Kv.getD_mod_self (m : Kv α) (k : Nat) (d : α) (f : α → α) :
    Kv.getD (Kv.mod m k d f) k d = f (Kv.getD m k d) := by simp [Kv.mod]

theorem Kv.getD_mod_ne (m : Kv α) {k j : Nat} (d e : α) (f : α → α) (h : j ≠ k) :
    Kv.getD (Kv.mod m k d f) j e = Kv.getD m j e := by simp [Kv.mod, Kv.getD_set_ne m _ _ h]

/-- The key a table begins with lies above `a`. -/
theorem Kv.wf_cons (k : Nat) (v : α) (m : Kv α) :
    Kv.wf ((k, v) :: m) = true ↔ (∀ p ∈ m.head?, k < p.1) ∧ Kv.wf m = true := by
  cases m with
  | nil => simp [Kv.wf]
  | cons p t => obtain ⟨k', v'⟩ := p; simp [Kv.wf]

/-- R136, R140. Setting an entry keeps the keys strictly rising. -/
theorem Kv.wf_set (m : Kv α) (k : Nat) (v : α) (h : Kv.wf m = true) : Kv.wf (Kv.set m k v) = true := by
  induction m with
  | nil => simp [Kv.set, Kv.wf]
  | cons p t ih =>
    obtain ⟨k', v'⟩ := p
    rw [Kv.wf_cons] at h
    unfold Kv.set
    split
    · rw [Kv.wf_cons, Kv.wf_cons]; exact ⟨by simpa using ‹k < k'›, h⟩
    · split
      · next e => subst e; rw [Kv.wf_cons]; exact h
      · rw [Kv.wf_cons]
        refine ⟨?_, ih h.2⟩
        cases t with
        | nil => simp [Kv.set]; omega
        | cons q u =>
          obtain ⟨a, b⟩ := q
          have ha : k' < a := by simpa using h.1
          simp only [Kv.set]
          split
          · simp; omega
          · split <;> simp <;> omega

end Sys2Proof.Machine
end

