-- ==== Sys2Proof/Laws/State.lean ====
section
/-!
SUPPORT. What each update of the shared operations leaves of State: one lemma for each field it does not touch, so that no proof
unfolds a record update; and what reading back what was written gives.
-/
namespace Sys2Proof.Machine

/-! ### Untouched fields -/

@[simp] theorem State.begin_draws (s : State) : (State.begin s).draws = s.draws := rfl
@[simp] theorem State.begin_tele (s : State) : (State.begin s).tele = s.tele := rfl
@[simp] theorem State.begin_regs (s : State) : (State.begin s).regs = s.regs := rfl
@[simp] theorem State.begin_tt (s : State) : (State.begin s).tt = s.tt := rfl
@[simp] theorem State.begin_xl (s : State) : (State.begin s).xl = s.xl := rfl
@[simp] theorem State.begin_cache (s : State) : (State.begin s).cache = s.cache := rfl
@[simp] theorem State.begin_media (s : State) : (State.begin s).media = s.media := rfl
@[simp] theorem State.begin_heads (s : State) : (State.begin s).heads = s.heads := rfl
@[simp] theorem State.begin_integ (s : State) : (State.begin s).integ = s.integ := rfl
@[simp] theorem State.begin_sec (s : State) : (State.begin s).sec = s.sec := rfl
@[simp] theorem State.begin_fry (s : State) : (State.begin s).fry = s.fry := rfl
@[simp] theorem State.begin_drcs (s : State) : (State.begin s).drcs = s.drcs := rfl
@[simp] theorem State.begin_dram (s : State) : (State.begin s).dram = s.dram := rfl
@[simp] theorem State.begin_hps (s : State) : (State.begin s).hps = s.hps := rfl
@[simp] theorem State.begin_mbox (s : State) : (State.begin s).mbox = s.mbox := rfl
@[simp] theorem State.begin_mnt (s : State) : (State.begin s).mnt = s.mnt := rfl
@[simp] theorem State.begin_barge (s : State) : (State.begin s).barge = s.barge := rfl
@[simp] theorem State.begin_cen (s : State) : (State.begin s).cen = s.cen := rfl
@[simp] theorem State.begin_pst (s : State) : (State.begin s).pst = s.pst := rfl
@[simp] theorem State.begin_store (s : State) : (State.begin s).store = s.store := rfl
@[simp] theorem State.begin_fwStore (s : State) : (State.begin s).fwStore = s.fwStore := rfl
@[simp] theorem State.begin_pwr (s : State) : (State.begin s).pwr = s.pwr := rfl
@[simp] theorem State.begin_start (s : State) : (State.begin s).start = s.start := rfl
@[simp] theorem State.begin_nv (s : State) : (State.begin s).nv = s.nv := rfl
@[simp] theorem State.begin_save (s : State) : (State.begin s).save = s.save := rfl
@[simp] theorem State.begin_retained (s : State) : (State.begin s).retained = s.retained := rfl

@[simp] theorem State.noteLast_out (s : State) (code : Nat) (src : Nat) (v : Nat) :
    (State.noteLast s code src v).out = s.out := rfl
@[simp] theorem State.noteLast_draws (s : State) (code : Nat) (src : Nat) (v : Nat) :
    (State.noteLast s code src v).draws = s.draws := rfl
@[simp] theorem State.noteLast_regs (s : State) (code : Nat) (src : Nat) (v : Nat) :
    (State.noteLast s code src v).regs = s.regs := rfl
@[simp] theorem State.noteLast_tt (s : State) (code : Nat) (src : Nat) (v : Nat) :
    (State.noteLast s code src v).tt = s.tt := rfl
@[simp] theorem State.noteLast_xl (s : State) (code : Nat) (src : Nat) (v : Nat) :
    (State.noteLast s code src v).xl = s.xl := rfl
@[simp] theorem State.noteLast_cache (s : State) (code : Nat) (src : Nat) (v : Nat) :
    (State.noteLast s code src v).cache = s.cache := rfl
@[simp] theorem State.noteLast_media (s : State) (code : Nat) (src : Nat) (v : Nat) :
    (State.noteLast s code src v).media = s.media := rfl
@[simp] theorem State.noteLast_heads (s : State) (code : Nat) (src : Nat) (v : Nat) :
    (State.noteLast s code src v).heads = s.heads := rfl
@[simp] theorem State.noteLast_integ (s : State) (code : Nat) (src : Nat) (v : Nat) :
    (State.noteLast s code src v).integ = s.integ := rfl
@[simp] theorem State.noteLast_sec (s : State) (code : Nat) (src : Nat) (v : Nat) :
    (State.noteLast s code src v).sec = s.sec := rfl
@[simp] theorem State.noteLast_fry (s : State) (code : Nat) (src : Nat) (v : Nat) :
    (State.noteLast s code src v).fry = s.fry := rfl
@[simp] theorem State.noteLast_drcs (s : State) (code : Nat) (src : Nat) (v : Nat) :
    (State.noteLast s code src v).drcs = s.drcs := rfl
@[simp] theorem State.noteLast_dram (s : State) (code : Nat) (src : Nat) (v : Nat) :
    (State.noteLast s code src v).dram = s.dram := rfl
@[simp] theorem State.noteLast_hps (s : State) (code : Nat) (src : Nat) (v : Nat) :
    (State.noteLast s code src v).hps = s.hps := rfl
@[simp] theorem State.noteLast_mbox (s : State) (code : Nat) (src : Nat) (v : Nat) :
    (State.noteLast s code src v).mbox = s.mbox := rfl
@[simp] theorem State.noteLast_mnt (s : State) (code : Nat) (src : Nat) (v : Nat) :
    (State.noteLast s code src v).mnt = s.mnt := rfl
@[simp] theorem State.noteLast_barge (s : State) (code : Nat) (src : Nat) (v : Nat) :
    (State.noteLast s code src v).barge = s.barge := rfl
@[simp] theorem State.noteLast_cen (s : State) (code : Nat) (src : Nat) (v : Nat) :
    (State.noteLast s code src v).cen = s.cen := rfl
@[simp] theorem State.noteLast_pst (s : State) (code : Nat) (src : Nat) (v : Nat) :
    (State.noteLast s code src v).pst = s.pst := rfl
@[simp] theorem State.noteLast_store (s : State) (code : Nat) (src : Nat) (v : Nat) :
    (State.noteLast s code src v).store = s.store := rfl
@[simp] theorem State.noteLast_fwStore (s : State) (code : Nat) (src : Nat) (v : Nat) :
    (State.noteLast s code src v).fwStore = s.fwStore := rfl
@[simp] theorem State.noteLast_pwr (s : State) (code : Nat) (src : Nat) (v : Nat) :
    (State.noteLast s code src v).pwr = s.pwr := rfl
@[simp] theorem State.noteLast_start (s : State) (code : Nat) (src : Nat) (v : Nat) :
    (State.noteLast s code src v).start = s.start := rfl
@[simp] theorem State.noteLast_nv (s : State) (code : Nat) (src : Nat) (v : Nat) :
    (State.noteLast s code src v).nv = s.nv := rfl
@[simp] theorem State.noteLast_save (s : State) (code : Nat) (src : Nat) (v : Nat) :
    (State.noteLast s code src v).save = s.save := rfl
@[simp] theorem State.noteLast_retained (s : State) (code : Nat) (src : Nat) (v : Nat) :
    (State.noteLast s code src v).retained = s.retained := rfl

@[simp] theorem State.emit_draws (s : State) (o : Output) : (State.emit s o).draws = s.draws := rfl
@[simp] theorem State.emit_tele (s : State) (o : Output) : (State.emit s o).tele = s.tele := rfl
@[simp] theorem State.emit_regs (s : State) (o : Output) : (State.emit s o).regs = s.regs := rfl
@[simp] theorem State.emit_tt (s : State) (o : Output) : (State.emit s o).tt = s.tt := rfl
@[simp] theorem State.emit_xl (s : State) (o : Output) : (State.emit s o).xl = s.xl := rfl
@[simp] theorem State.emit_cache (s : State) (o : Output) : (State.emit s o).cache = s.cache := rfl
@[simp] theorem State.emit_media (s : State) (o : Output) : (State.emit s o).media = s.media := rfl
@[simp] theorem State.emit_heads (s : State) (o : Output) : (State.emit s o).heads = s.heads := rfl
@[simp] theorem State.emit_integ (s : State) (o : Output) : (State.emit s o).integ = s.integ := rfl
@[simp] theorem State.emit_sec (s : State) (o : Output) : (State.emit s o).sec = s.sec := rfl
@[simp] theorem State.emit_fry (s : State) (o : Output) : (State.emit s o).fry = s.fry := rfl
@[simp] theorem State.emit_drcs (s : State) (o : Output) : (State.emit s o).drcs = s.drcs := rfl
@[simp] theorem State.emit_dram (s : State) (o : Output) : (State.emit s o).dram = s.dram := rfl
@[simp] theorem State.emit_hps (s : State) (o : Output) : (State.emit s o).hps = s.hps := rfl
@[simp] theorem State.emit_mbox (s : State) (o : Output) : (State.emit s o).mbox = s.mbox := rfl
@[simp] theorem State.emit_mnt (s : State) (o : Output) : (State.emit s o).mnt = s.mnt := rfl
@[simp] theorem State.emit_barge (s : State) (o : Output) : (State.emit s o).barge = s.barge := rfl
@[simp] theorem State.emit_cen (s : State) (o : Output) : (State.emit s o).cen = s.cen := rfl
@[simp] theorem State.emit_pst (s : State) (o : Output) : (State.emit s o).pst = s.pst := rfl
@[simp] theorem State.emit_store (s : State) (o : Output) : (State.emit s o).store = s.store := rfl
@[simp] theorem State.emit_fwStore (s : State) (o : Output) : (State.emit s o).fwStore = s.fwStore := rfl
@[simp] theorem State.emit_pwr (s : State) (o : Output) : (State.emit s o).pwr = s.pwr := rfl
@[simp] theorem State.emit_start (s : State) (o : Output) : (State.emit s o).start = s.start := rfl
@[simp] theorem State.emit_nv (s : State) (o : Output) : (State.emit s o).nv = s.nv := rfl
@[simp] theorem State.emit_save (s : State) (o : Output) : (State.emit s o).save = s.save := rfl
@[simp] theorem State.emit_retained (s : State) (o : Output) : (State.emit s o).retained = s.retained := rfl

@[simp] theorem State.at_out (s : State) (cyc : Nat) : (State.at s cyc).out = s.out := rfl
@[simp] theorem State.at_draws (s : State) (cyc : Nat) : (State.at s cyc).draws = s.draws := rfl
@[simp] theorem State.at_tele (s : State) (cyc : Nat) : (State.at s cyc).tele = s.tele := rfl
@[simp] theorem State.at_regs (s : State) (cyc : Nat) : (State.at s cyc).regs = s.regs := rfl
@[simp] theorem State.at_xl (s : State) (cyc : Nat) : (State.at s cyc).xl = s.xl := rfl
@[simp] theorem State.at_cache (s : State) (cyc : Nat) : (State.at s cyc).cache = s.cache := rfl
@[simp] theorem State.at_media (s : State) (cyc : Nat) : (State.at s cyc).media = s.media := rfl
@[simp] theorem State.at_heads (s : State) (cyc : Nat) : (State.at s cyc).heads = s.heads := rfl
@[simp] theorem State.at_integ (s : State) (cyc : Nat) : (State.at s cyc).integ = s.integ := rfl
@[simp] theorem State.at_sec (s : State) (cyc : Nat) : (State.at s cyc).sec = s.sec := rfl
@[simp] theorem State.at_fry (s : State) (cyc : Nat) : (State.at s cyc).fry = s.fry := rfl
@[simp] theorem State.at_drcs (s : State) (cyc : Nat) : (State.at s cyc).drcs = s.drcs := rfl
@[simp] theorem State.at_dram (s : State) (cyc : Nat) : (State.at s cyc).dram = s.dram := rfl
@[simp] theorem State.at_hps (s : State) (cyc : Nat) : (State.at s cyc).hps = s.hps := rfl
@[simp] theorem State.at_mbox (s : State) (cyc : Nat) : (State.at s cyc).mbox = s.mbox := rfl
@[simp] theorem State.at_mnt (s : State) (cyc : Nat) : (State.at s cyc).mnt = s.mnt := rfl
@[simp] theorem State.at_barge (s : State) (cyc : Nat) : (State.at s cyc).barge = s.barge := rfl
@[simp] theorem State.at_cen (s : State) (cyc : Nat) : (State.at s cyc).cen = s.cen := rfl
@[simp] theorem State.at_pst (s : State) (cyc : Nat) : (State.at s cyc).pst = s.pst := rfl
@[simp] theorem State.at_store (s : State) (cyc : Nat) : (State.at s cyc).store = s.store := rfl
@[simp] theorem State.at_fwStore (s : State) (cyc : Nat) : (State.at s cyc).fwStore = s.fwStore := rfl
@[simp] theorem State.at_pwr (s : State) (cyc : Nat) : (State.at s cyc).pwr = s.pwr := rfl
@[simp] theorem State.at_start (s : State) (cyc : Nat) : (State.at s cyc).start = s.start := rfl
@[simp] theorem State.at_nv (s : State) (cyc : Nat) : (State.at s cyc).nv = s.nv := rfl
@[simp] theorem State.at_save (s : State) (cyc : Nat) : (State.at s cyc).save = s.save := rfl
@[simp] theorem State.at_retained (s : State) (cyc : Nat) : (State.at s cyc).retained = s.retained := rfl

@[simp] theorem State.count_out (s : State) (b : Nat) (e : Nat) (n : Nat) : (State.count s b e n).out = s.out := rfl
@[simp] theorem State.count_draws (s : State) (b : Nat) (e : Nat) (n : Nat) : (State.count s b e n).draws = s.draws := rfl
@[simp] theorem State.count_regs (s : State) (b : Nat) (e : Nat) (n : Nat) : (State.count s b e n).regs = s.regs := rfl
@[simp] theorem State.count_tt (s : State) (b : Nat) (e : Nat) (n : Nat) : (State.count s b e n).tt = s.tt := rfl
@[simp] theorem State.count_xl (s : State) (b : Nat) (e : Nat) (n : Nat) : (State.count s b e n).xl = s.xl := rfl
@[simp] theorem State.count_cache (s : State) (b : Nat) (e : Nat) (n : Nat) : (State.count s b e n).cache = s.cache := rfl
@[simp] theorem State.count_media (s : State) (b : Nat) (e : Nat) (n : Nat) : (State.count s b e n).media = s.media := rfl
@[simp] theorem State.count_heads (s : State) (b : Nat) (e : Nat) (n : Nat) : (State.count s b e n).heads = s.heads := rfl
@[simp] theorem State.count_integ (s : State) (b : Nat) (e : Nat) (n : Nat) : (State.count s b e n).integ = s.integ := rfl
@[simp] theorem State.count_sec (s : State) (b : Nat) (e : Nat) (n : Nat) : (State.count s b e n).sec = s.sec := rfl
@[simp] theorem State.count_fry (s : State) (b : Nat) (e : Nat) (n : Nat) : (State.count s b e n).fry = s.fry := rfl
@[simp] theorem State.count_drcs (s : State) (b : Nat) (e : Nat) (n : Nat) : (State.count s b e n).drcs = s.drcs := rfl
@[simp] theorem State.count_dram (s : State) (b : Nat) (e : Nat) (n : Nat) : (State.count s b e n).dram = s.dram := rfl
@[simp] theorem State.count_hps (s : State) (b : Nat) (e : Nat) (n : Nat) : (State.count s b e n).hps = s.hps := rfl
@[simp] theorem State.count_mbox (s : State) (b : Nat) (e : Nat) (n : Nat) : (State.count s b e n).mbox = s.mbox := rfl
@[simp] theorem State.count_mnt (s : State) (b : Nat) (e : Nat) (n : Nat) : (State.count s b e n).mnt = s.mnt := rfl
@[simp] theorem State.count_barge (s : State) (b : Nat) (e : Nat) (n : Nat) : (State.count s b e n).barge = s.barge := rfl
@[simp] theorem State.count_cen (s : State) (b : Nat) (e : Nat) (n : Nat) : (State.count s b e n).cen = s.cen := rfl
@[simp] theorem State.count_pst (s : State) (b : Nat) (e : Nat) (n : Nat) : (State.count s b e n).pst = s.pst := rfl
@[simp] theorem State.count_store (s : State) (b : Nat) (e : Nat) (n : Nat) : (State.count s b e n).store = s.store := rfl
@[simp] theorem State.count_fwStore (s : State) (b : Nat) (e : Nat) (n : Nat) :
    (State.count s b e n).fwStore = s.fwStore := rfl
@[simp] theorem State.count_pwr (s : State) (b : Nat) (e : Nat) (n : Nat) : (State.count s b e n).pwr = s.pwr := rfl
@[simp] theorem State.count_start (s : State) (b : Nat) (e : Nat) (n : Nat) : (State.count s b e n).start = s.start := rfl
@[simp] theorem State.count_nv (s : State) (b : Nat) (e : Nat) (n : Nat) : (State.count s b e n).nv = s.nv := rfl
@[simp] theorem State.count_save (s : State) (b : Nat) (e : Nat) (n : Nat) : (State.count s b e n).save = s.save := rfl
@[simp] theorem State.count_retained (s : State) (b : Nat) (e : Nat) (n : Nat) :
    (State.count s b e n).retained = s.retained := rfl

@[simp] theorem State.record_out (s : State) (b : Nat) (src : Nat) (code : Nat) (sev : Severity) (items : List Item) :
    (State.record s b src code sev items).out = s.out := rfl
@[simp] theorem State.record_draws (s : State) (b : Nat) (src : Nat) (code : Nat) (sev : Severity) (items : List Item) :
    (State.record s b src code sev items).draws = s.draws := rfl
@[simp] theorem State.record_regs (s : State) (b : Nat) (src : Nat) (code : Nat) (sev : Severity) (items : List Item) :
    (State.record s b src code sev items).regs = s.regs := rfl
@[simp] theorem State.record_tt (s : State) (b : Nat) (src : Nat) (code : Nat) (sev : Severity) (items : List Item) :
    (State.record s b src code sev items).tt = s.tt := rfl
@[simp] theorem State.record_xl (s : State) (b : Nat) (src : Nat) (code : Nat) (sev : Severity) (items : List Item) :
    (State.record s b src code sev items).xl = s.xl := rfl
@[simp] theorem State.record_cache (s : State) (b : Nat) (src : Nat) (code : Nat) (sev : Severity) (items : List Item) :
    (State.record s b src code sev items).cache = s.cache := rfl
@[simp] theorem State.record_media (s : State) (b : Nat) (src : Nat) (code : Nat) (sev : Severity) (items : List Item) :
    (State.record s b src code sev items).media = s.media := rfl
@[simp] theorem State.record_heads (s : State) (b : Nat) (src : Nat) (code : Nat) (sev : Severity) (items : List Item) :
    (State.record s b src code sev items).heads = s.heads := rfl
@[simp] theorem State.record_integ (s : State) (b : Nat) (src : Nat) (code : Nat) (sev : Severity) (items : List Item) :
    (State.record s b src code sev items).integ = s.integ := rfl
@[simp] theorem State.record_sec (s : State) (b : Nat) (src : Nat) (code : Nat) (sev : Severity) (items : List Item) :
    (State.record s b src code sev items).sec = s.sec := rfl
@[simp] theorem State.record_fry (s : State) (b : Nat) (src : Nat) (code : Nat) (sev : Severity) (items : List Item) :
    (State.record s b src code sev items).fry = s.fry := rfl
@[simp] theorem State.record_drcs (s : State) (b : Nat) (src : Nat) (code : Nat) (sev : Severity) (items : List Item) :
    (State.record s b src code sev items).drcs = s.drcs := rfl
@[simp] theorem State.record_dram (s : State) (b : Nat) (src : Nat) (code : Nat) (sev : Severity) (items : List Item) :
    (State.record s b src code sev items).dram = s.dram := rfl
@[simp] theorem State.record_hps (s : State) (b : Nat) (src : Nat) (code : Nat) (sev : Severity) (items : List Item) :
    (State.record s b src code sev items).hps = s.hps := rfl
@[simp] theorem State.record_mbox (s : State) (b : Nat) (src : Nat) (code : Nat) (sev : Severity) (items : List Item) :
    (State.record s b src code sev items).mbox = s.mbox := rfl
@[simp] theorem State.record_mnt (s : State) (b : Nat) (src : Nat) (code : Nat) (sev : Severity) (items : List Item) :
    (State.record s b src code sev items).mnt = s.mnt := rfl
@[simp] theorem State.record_barge (s : State) (b : Nat) (src : Nat) (code : Nat) (sev : Severity) (items : List Item) :
    (State.record s b src code sev items).barge = s.barge := rfl
@[simp] theorem State.record_cen (s : State) (b : Nat) (src : Nat) (code : Nat) (sev : Severity) (items : List Item) :
    (State.record s b src code sev items).cen = s.cen := rfl
@[simp] theorem State.record_pst (s : State) (b : Nat) (src : Nat) (code : Nat) (sev : Severity) (items : List Item) :
    (State.record s b src code sev items).pst = s.pst := rfl
@[simp] theorem State.record_store (s : State) (b : Nat) (src : Nat) (code : Nat) (sev : Severity) (items : List Item) :
    (State.record s b src code sev items).store = s.store := rfl
@[simp] theorem State.record_fwStore (s : State) (b : Nat) (src : Nat) (code : Nat) (sev : Severity) (items : List Item) :
    (State.record s b src code sev items).fwStore = s.fwStore := rfl
@[simp] theorem State.record_pwr (s : State) (b : Nat) (src : Nat) (code : Nat) (sev : Severity) (items : List Item) :
    (State.record s b src code sev items).pwr = s.pwr := rfl
@[simp] theorem State.record_start (s : State) (b : Nat) (src : Nat) (code : Nat) (sev : Severity) (items : List Item) :
    (State.record s b src code sev items).start = s.start := rfl
@[simp] theorem State.record_nv (s : State) (b : Nat) (src : Nat) (code : Nat) (sev : Severity) (items : List Item) :
    (State.record s b src code sev items).nv = s.nv := rfl
@[simp] theorem State.record_save (s : State) (b : Nat) (src : Nat) (code : Nat) (sev : Severity) (items : List Item) :
    (State.record s b src code sev items).save = s.save := rfl
@[simp] theorem State.record_retained (s : State) (b : Nat) (src : Nat) (code : Nat) (sev : Severity) (items : List Item) :
    (State.record s b src code sev items).retained = s.retained := rfl

@[simp] theorem State.tally_out (s : State) (code : Nat) (src : Nat) (who : Nat) (n : Nat) :
    (State.tally s code src who n).out = s.out := rfl
@[simp] theorem State.tally_draws (s : State) (code : Nat) (src : Nat) (who : Nat) (n : Nat) :
    (State.tally s code src who n).draws = s.draws := rfl
@[simp] theorem State.tally_regs (s : State) (code : Nat) (src : Nat) (who : Nat) (n : Nat) :
    (State.tally s code src who n).regs = s.regs := rfl
@[simp] theorem State.tally_tt (s : State) (code : Nat) (src : Nat) (who : Nat) (n : Nat) :
    (State.tally s code src who n).tt = s.tt := rfl
@[simp] theorem State.tally_xl (s : State) (code : Nat) (src : Nat) (who : Nat) (n : Nat) :
    (State.tally s code src who n).xl = s.xl := rfl
@[simp] theorem State.tally_cache (s : State) (code : Nat) (src : Nat) (who : Nat) (n : Nat) :
    (State.tally s code src who n).cache = s.cache := rfl
@[simp] theorem State.tally_media (s : State) (code : Nat) (src : Nat) (who : Nat) (n : Nat) :
    (State.tally s code src who n).media = s.media := rfl
@[simp] theorem State.tally_heads (s : State) (code : Nat) (src : Nat) (who : Nat) (n : Nat) :
    (State.tally s code src who n).heads = s.heads := rfl
@[simp] theorem State.tally_integ (s : State) (code : Nat) (src : Nat) (who : Nat) (n : Nat) :
    (State.tally s code src who n).integ = s.integ := rfl
@[simp] theorem State.tally_sec (s : State) (code : Nat) (src : Nat) (who : Nat) (n : Nat) :
    (State.tally s code src who n).sec = s.sec := rfl
@[simp] theorem State.tally_fry (s : State) (code : Nat) (src : Nat) (who : Nat) (n : Nat) :
    (State.tally s code src who n).fry = s.fry := rfl
@[simp] theorem State.tally_drcs (s : State) (code : Nat) (src : Nat) (who : Nat) (n : Nat) :
    (State.tally s code src who n).drcs = s.drcs := rfl
@[simp] theorem State.tally_dram (s : State) (code : Nat) (src : Nat) (who : Nat) (n : Nat) :
    (State.tally s code src who n).dram = s.dram := rfl
@[simp] theorem State.tally_hps (s : State) (code : Nat) (src : Nat) (who : Nat) (n : Nat) :
    (State.tally s code src who n).hps = s.hps := rfl
@[simp] theorem State.tally_mbox (s : State) (code : Nat) (src : Nat) (who : Nat) (n : Nat) :
    (State.tally s code src who n).mbox = s.mbox := rfl
@[simp] theorem State.tally_mnt (s : State) (code : Nat) (src : Nat) (who : Nat) (n : Nat) :
    (State.tally s code src who n).mnt = s.mnt := rfl
@[simp] theorem State.tally_barge (s : State) (code : Nat) (src : Nat) (who : Nat) (n : Nat) :
    (State.tally s code src who n).barge = s.barge := rfl
@[simp] theorem State.tally_cen (s : State) (code : Nat) (src : Nat) (who : Nat) (n : Nat) :
    (State.tally s code src who n).cen = s.cen := rfl
@[simp] theorem State.tally_pst (s : State) (code : Nat) (src : Nat) (who : Nat) (n : Nat) :
    (State.tally s code src who n).pst = s.pst := rfl
@[simp] theorem State.tally_store (s : State) (code : Nat) (src : Nat) (who : Nat) (n : Nat) :
    (State.tally s code src who n).store = s.store := rfl
@[simp] theorem State.tally_fwStore (s : State) (code : Nat) (src : Nat) (who : Nat) (n : Nat) :
    (State.tally s code src who n).fwStore = s.fwStore := rfl
@[simp] theorem State.tally_pwr (s : State) (code : Nat) (src : Nat) (who : Nat) (n : Nat) :
    (State.tally s code src who n).pwr = s.pwr := rfl
@[simp] theorem State.tally_start (s : State) (code : Nat) (src : Nat) (who : Nat) (n : Nat) :
    (State.tally s code src who n).start = s.start := rfl
@[simp] theorem State.tally_nv (s : State) (code : Nat) (src : Nat) (who : Nat) (n : Nat) :
    (State.tally s code src who n).nv = s.nv := rfl
@[simp] theorem State.tally_save (s : State) (code : Nat) (src : Nat) (who : Nat) (n : Nat) :
    (State.tally s code src who n).save = s.save := rfl
@[simp] theorem State.tally_retained (s : State) (code : Nat) (src : Nat) (who : Nat) (n : Nat) :
    (State.tally s code src who n).retained = s.retained := rfl

@[simp] theorem State.recordOnce_out (s : State) (who : Nat) (b : Nat) (src : Nat) (code : Nat) (sev : Severity) (items : List Item) :
    (State.recordOnce s who b src code sev items).out = s.out := rfl
@[simp] theorem State.recordOnce_draws (s : State) (who : Nat) (b : Nat) (src : Nat) (code : Nat) (sev : Severity) (items : List Item) :
    (State.recordOnce s who b src code sev items).draws = s.draws := rfl
@[simp] theorem State.recordOnce_regs (s : State) (who : Nat) (b : Nat) (src : Nat) (code : Nat) (sev : Severity) (items : List Item) :
    (State.recordOnce s who b src code sev items).regs = s.regs := rfl
@[simp] theorem State.recordOnce_tt (s : State) (who : Nat) (b : Nat) (src : Nat) (code : Nat) (sev : Severity) (items : List Item) :
    (State.recordOnce s who b src code sev items).tt = s.tt := rfl
@[simp] theorem State.recordOnce_xl (s : State) (who : Nat) (b : Nat) (src : Nat) (code : Nat) (sev : Severity) (items : List Item) :
    (State.recordOnce s who b src code sev items).xl = s.xl := rfl
@[simp] theorem State.recordOnce_cache (s : State) (who : Nat) (b : Nat) (src : Nat) (code : Nat) (sev : Severity) (items : List Item) :
    (State.recordOnce s who b src code sev items).cache = s.cache := rfl
@[simp] theorem State.recordOnce_media (s : State) (who : Nat) (b : Nat) (src : Nat) (code : Nat) (sev : Severity) (items : List Item) :
    (State.recordOnce s who b src code sev items).media = s.media := rfl
@[simp] theorem State.recordOnce_heads (s : State) (who : Nat) (b : Nat) (src : Nat) (code : Nat) (sev : Severity) (items : List Item) :
    (State.recordOnce s who b src code sev items).heads = s.heads := rfl
@[simp] theorem State.recordOnce_integ (s : State) (who : Nat) (b : Nat) (src : Nat) (code : Nat) (sev : Severity) (items : List Item) :
    (State.recordOnce s who b src code sev items).integ = s.integ := rfl
@[simp] theorem State.recordOnce_sec (s : State) (who : Nat) (b : Nat) (src : Nat) (code : Nat) (sev : Severity) (items : List Item) :
    (State.recordOnce s who b src code sev items).sec = s.sec := rfl
@[simp] theorem State.recordOnce_fry (s : State) (who : Nat) (b : Nat) (src : Nat) (code : Nat) (sev : Severity) (items : List Item) :
    (State.recordOnce s who b src code sev items).fry = s.fry := rfl
@[simp] theorem State.recordOnce_drcs (s : State) (who : Nat) (b : Nat) (src : Nat) (code : Nat) (sev : Severity) (items : List Item) :
    (State.recordOnce s who b src code sev items).drcs = s.drcs := rfl
@[simp] theorem State.recordOnce_dram (s : State) (who : Nat) (b : Nat) (src : Nat) (code : Nat) (sev : Severity) (items : List Item) :
    (State.recordOnce s who b src code sev items).dram = s.dram := rfl
@[simp] theorem State.recordOnce_hps (s : State) (who : Nat) (b : Nat) (src : Nat) (code : Nat) (sev : Severity) (items : List Item) :
    (State.recordOnce s who b src code sev items).hps = s.hps := rfl
@[simp] theorem State.recordOnce_mbox (s : State) (who : Nat) (b : Nat) (src : Nat) (code : Nat) (sev : Severity) (items : List Item) :
    (State.recordOnce s who b src code sev items).mbox = s.mbox := rfl
@[simp] theorem State.recordOnce_mnt (s : State) (who : Nat) (b : Nat) (src : Nat) (code : Nat) (sev : Severity) (items : List Item) :
    (State.recordOnce s who b src code sev items).mnt = s.mnt := rfl
@[simp] theorem State.recordOnce_barge (s : State) (who : Nat) (b : Nat) (src : Nat) (code : Nat) (sev : Severity) (items : List Item) :
    (State.recordOnce s who b src code sev items).barge = s.barge := rfl
@[simp] theorem State.recordOnce_cen (s : State) (who : Nat) (b : Nat) (src : Nat) (code : Nat) (sev : Severity) (items : List Item) :
    (State.recordOnce s who b src code sev items).cen = s.cen := rfl
@[simp] theorem State.recordOnce_pst (s : State) (who : Nat) (b : Nat) (src : Nat) (code : Nat) (sev : Severity) (items : List Item) :
    (State.recordOnce s who b src code sev items).pst = s.pst := rfl
@[simp] theorem State.recordOnce_store (s : State) (who : Nat) (b : Nat) (src : Nat) (code : Nat) (sev : Severity) (items : List Item) :
    (State.recordOnce s who b src code sev items).store = s.store := rfl
@[simp] theorem State.recordOnce_fwStore (s : State) (who : Nat) (b : Nat) (src : Nat) (code : Nat) (sev : Severity) (items : List Item) :
    (State.recordOnce s who b src code sev items).fwStore = s.fwStore := rfl
@[simp] theorem State.recordOnce_pwr (s : State) (who : Nat) (b : Nat) (src : Nat) (code : Nat) (sev : Severity) (items : List Item) :
    (State.recordOnce s who b src code sev items).pwr = s.pwr := rfl
@[simp] theorem State.recordOnce_start (s : State) (who : Nat) (b : Nat) (src : Nat) (code : Nat) (sev : Severity) (items : List Item) :
    (State.recordOnce s who b src code sev items).start = s.start := rfl
@[simp] theorem State.recordOnce_nv (s : State) (who : Nat) (b : Nat) (src : Nat) (code : Nat) (sev : Severity) (items : List Item) :
    (State.recordOnce s who b src code sev items).nv = s.nv := rfl
@[simp] theorem State.recordOnce_save (s : State) (who : Nat) (b : Nat) (src : Nat) (code : Nat) (sev : Severity) (items : List Item) :
    (State.recordOnce s who b src code sev items).save = s.save := rfl
@[simp] theorem State.recordOnce_retained (s : State) (who : Nat) (b : Nat) (src : Nat) (code : Nat) (sev : Severity) (items : List Item) :
    (State.recordOnce s who b src code sev items).retained = s.retained := rfl

@[simp] theorem State.setQ_out (s : State) (i : QueueId) (q : Queue) :
    (State.setQ s i q).out = s.out := by unfold State.setQ; split <;> rfl
@[simp] theorem State.setQ_draws (s : State) (i : QueueId) (q : Queue) :
    (State.setQ s i q).draws = s.draws := by unfold State.setQ; split <;> rfl
@[simp] theorem State.setQ_regs (s : State) (i : QueueId) (q : Queue) :
    (State.setQ s i q).regs = s.regs := by unfold State.setQ; split <;> rfl
@[simp] theorem State.setQ_tt (s : State) (i : QueueId) (q : Queue) :
    (State.setQ s i q).tt = s.tt := by unfold State.setQ; split <;> rfl
@[simp] theorem State.setQ_xl (s : State) (i : QueueId) (q : Queue) :
    (State.setQ s i q).xl = s.xl := by unfold State.setQ; split <;> rfl
@[simp] theorem State.setQ_cache (s : State) (i : QueueId) (q : Queue) :
    (State.setQ s i q).cache = s.cache := by unfold State.setQ; split <;> rfl
@[simp] theorem State.setQ_media (s : State) (i : QueueId) (q : Queue) :
    (State.setQ s i q).media = s.media := by unfold State.setQ; split <;> rfl
@[simp] theorem State.setQ_heads (s : State) (i : QueueId) (q : Queue) :
    (State.setQ s i q).heads = s.heads := by unfold State.setQ; split <;> rfl
@[simp] theorem State.setQ_integ (s : State) (i : QueueId) (q : Queue) :
    (State.setQ s i q).integ = s.integ := by unfold State.setQ; split <;> rfl
@[simp] theorem State.setQ_fry (s : State) (i : QueueId) (q : Queue) :
    (State.setQ s i q).fry = s.fry := by unfold State.setQ; split <;> rfl
@[simp] theorem State.setQ_drcs (s : State) (i : QueueId) (q : Queue) :
    (State.setQ s i q).drcs = s.drcs := by unfold State.setQ; split <;> rfl
@[simp] theorem State.setQ_dram (s : State) (i : QueueId) (q : Queue) :
    (State.setQ s i q).dram = s.dram := by unfold State.setQ; split <;> rfl
@[simp] theorem State.setQ_hps (s : State) (i : QueueId) (q : Queue) :
    (State.setQ s i q).hps = s.hps := by unfold State.setQ; split <;> rfl
@[simp] theorem State.setQ_mbox (s : State) (i : QueueId) (q : Queue) :
    (State.setQ s i q).mbox = s.mbox := by unfold State.setQ; split <;> rfl
@[simp] theorem State.setQ_mnt (s : State) (i : QueueId) (q : Queue) :
    (State.setQ s i q).mnt = s.mnt := by unfold State.setQ; split <;> rfl
@[simp] theorem State.setQ_pst (s : State) (i : QueueId) (q : Queue) :
    (State.setQ s i q).pst = s.pst := by unfold State.setQ; split <;> rfl
@[simp] theorem State.setQ_store (s : State) (i : QueueId) (q : Queue) :
    (State.setQ s i q).store = s.store := by unfold State.setQ; split <;> rfl
@[simp] theorem State.setQ_fwStore (s : State) (i : QueueId) (q : Queue) :
    (State.setQ s i q).fwStore = s.fwStore := by unfold State.setQ; split <;> rfl
@[simp] theorem State.setQ_pwr (s : State) (i : QueueId) (q : Queue) :
    (State.setQ s i q).pwr = s.pwr := by unfold State.setQ; split <;> rfl
@[simp] theorem State.setQ_start (s : State) (i : QueueId) (q : Queue) :
    (State.setQ s i q).start = s.start := by unfold State.setQ; split <;> rfl
@[simp] theorem State.setQ_nv (s : State) (i : QueueId) (q : Queue) :
    (State.setQ s i q).nv = s.nv := by unfold State.setQ; split <;> rfl
@[simp] theorem State.setQ_save (s : State) (i : QueueId) (q : Queue) :
    (State.setQ s i q).save = s.save := by unfold State.setQ; split <;> rfl
@[simp] theorem State.setQ_retained (s : State) (i : QueueId) (q : Queue) :
    (State.setQ s i q).retained = s.retained := by unfold State.setQ; split <;> rfl

@[simp] theorem State.modCs_out (s : State) (n : Nat) (f : Slice → Slice) : (State.modCs s n f).out = s.out := rfl
@[simp] theorem State.modCs_draws (s : State) (n : Nat) (f : Slice → Slice) : (State.modCs s n f).draws = s.draws := rfl
@[simp] theorem State.modCs_tele (s : State) (n : Nat) (f : Slice → Slice) : (State.modCs s n f).tele = s.tele := rfl
@[simp] theorem State.modCs_regs (s : State) (n : Nat) (f : Slice → Slice) : (State.modCs s n f).regs = s.regs := rfl
@[simp] theorem State.modCs_tt (s : State) (n : Nat) (f : Slice → Slice) : (State.modCs s n f).tt = s.tt := rfl
@[simp] theorem State.modCs_xl (s : State) (n : Nat) (f : Slice → Slice) : (State.modCs s n f).xl = s.xl := rfl
@[simp] theorem State.modCs_media (s : State) (n : Nat) (f : Slice → Slice) : (State.modCs s n f).media = s.media := rfl
@[simp] theorem State.modCs_heads (s : State) (n : Nat) (f : Slice → Slice) : (State.modCs s n f).heads = s.heads := rfl
@[simp] theorem State.modCs_integ (s : State) (n : Nat) (f : Slice → Slice) : (State.modCs s n f).integ = s.integ := rfl
@[simp] theorem State.modCs_sec (s : State) (n : Nat) (f : Slice → Slice) : (State.modCs s n f).sec = s.sec := rfl
@[simp] theorem State.modCs_fry (s : State) (n : Nat) (f : Slice → Slice) : (State.modCs s n f).fry = s.fry := rfl
@[simp] theorem State.modCs_drcs (s : State) (n : Nat) (f : Slice → Slice) : (State.modCs s n f).drcs = s.drcs := rfl
@[simp] theorem State.modCs_dram (s : State) (n : Nat) (f : Slice → Slice) : (State.modCs s n f).dram = s.dram := rfl
@[simp] theorem State.modCs_hps (s : State) (n : Nat) (f : Slice → Slice) : (State.modCs s n f).hps = s.hps := rfl
@[simp] theorem State.modCs_mbox (s : State) (n : Nat) (f : Slice → Slice) : (State.modCs s n f).mbox = s.mbox := rfl
@[simp] theorem State.modCs_mnt (s : State) (n : Nat) (f : Slice → Slice) : (State.modCs s n f).mnt = s.mnt := rfl
@[simp] theorem State.modCs_barge (s : State) (n : Nat) (f : Slice → Slice) : (State.modCs s n f).barge = s.barge := rfl
@[simp] theorem State.modCs_cen (s : State) (n : Nat) (f : Slice → Slice) : (State.modCs s n f).cen = s.cen := rfl
@[simp] theorem State.modCs_pst (s : State) (n : Nat) (f : Slice → Slice) : (State.modCs s n f).pst = s.pst := rfl
@[simp] theorem State.modCs_store (s : State) (n : Nat) (f : Slice → Slice) : (State.modCs s n f).store = s.store := rfl
@[simp] theorem State.modCs_fwStore (s : State) (n : Nat) (f : Slice → Slice) :
    (State.modCs s n f).fwStore = s.fwStore := rfl
@[simp] theorem State.modCs_pwr (s : State) (n : Nat) (f : Slice → Slice) : (State.modCs s n f).pwr = s.pwr := rfl
@[simp] theorem State.modCs_start (s : State) (n : Nat) (f : Slice → Slice) : (State.modCs s n f).start = s.start := rfl
@[simp] theorem State.modCs_nv (s : State) (n : Nat) (f : Slice → Slice) : (State.modCs s n f).nv = s.nv := rfl
@[simp] theorem State.modCs_save (s : State) (n : Nat) (f : Slice → Slice) : (State.modCs s n f).save = s.save := rfl
@[simp] theorem State.modCs_retained (s : State) (n : Nat) (f : Slice → Slice) :
    (State.modCs s n f).retained = s.retained := rfl

@[simp] theorem State.modMch_out (s : State) (c : Nat) (f : Mch → Mch) : (State.modMch s c f).out = s.out := rfl
@[simp] theorem State.modMch_draws (s : State) (c : Nat) (f : Mch → Mch) : (State.modMch s c f).draws = s.draws := rfl
@[simp] theorem State.modMch_tele (s : State) (c : Nat) (f : Mch → Mch) : (State.modMch s c f).tele = s.tele := rfl
@[simp] theorem State.modMch_regs (s : State) (c : Nat) (f : Mch → Mch) : (State.modMch s c f).regs = s.regs := rfl
@[simp] theorem State.modMch_tt (s : State) (c : Nat) (f : Mch → Mch) : (State.modMch s c f).tt = s.tt := rfl
@[simp] theorem State.modMch_xl (s : State) (c : Nat) (f : Mch → Mch) : (State.modMch s c f).xl = s.xl := rfl
@[simp] theorem State.modMch_cache (s : State) (c : Nat) (f : Mch → Mch) : (State.modMch s c f).cache = s.cache := rfl
@[simp] theorem State.modMch_heads (s : State) (c : Nat) (f : Mch → Mch) : (State.modMch s c f).heads = s.heads := rfl
@[simp] theorem State.modMch_integ (s : State) (c : Nat) (f : Mch → Mch) : (State.modMch s c f).integ = s.integ := rfl
@[simp] theorem State.modMch_sec (s : State) (c : Nat) (f : Mch → Mch) : (State.modMch s c f).sec = s.sec := rfl
@[simp] theorem State.modMch_fry (s : State) (c : Nat) (f : Mch → Mch) : (State.modMch s c f).fry = s.fry := rfl
@[simp] theorem State.modMch_drcs (s : State) (c : Nat) (f : Mch → Mch) : (State.modMch s c f).drcs = s.drcs := rfl
@[simp] theorem State.modMch_dram (s : State) (c : Nat) (f : Mch → Mch) : (State.modMch s c f).dram = s.dram := rfl
@[simp] theorem State.modMch_hps (s : State) (c : Nat) (f : Mch → Mch) : (State.modMch s c f).hps = s.hps := rfl
@[simp] theorem State.modMch_mbox (s : State) (c : Nat) (f : Mch → Mch) : (State.modMch s c f).mbox = s.mbox := rfl
@[simp] theorem State.modMch_mnt (s : State) (c : Nat) (f : Mch → Mch) : (State.modMch s c f).mnt = s.mnt := rfl
@[simp] theorem State.modMch_barge (s : State) (c : Nat) (f : Mch → Mch) : (State.modMch s c f).barge = s.barge := rfl
@[simp] theorem State.modMch_cen (s : State) (c : Nat) (f : Mch → Mch) : (State.modMch s c f).cen = s.cen := rfl
@[simp] theorem State.modMch_pst (s : State) (c : Nat) (f : Mch → Mch) : (State.modMch s c f).pst = s.pst := rfl
@[simp] theorem State.modMch_store (s : State) (c : Nat) (f : Mch → Mch) : (State.modMch s c f).store = s.store := rfl
@[simp] theorem State.modMch_fwStore (s : State) (c : Nat) (f : Mch → Mch) : (State.modMch s c f).fwStore = s.fwStore := rfl
@[simp] theorem State.modMch_pwr (s : State) (c : Nat) (f : Mch → Mch) : (State.modMch s c f).pwr = s.pwr := rfl
@[simp] theorem State.modMch_start (s : State) (c : Nat) (f : Mch → Mch) : (State.modMch s c f).start = s.start := rfl
@[simp] theorem State.modMch_nv (s : State) (c : Nat) (f : Mch → Mch) : (State.modMch s c f).nv = s.nv := rfl
@[simp] theorem State.modMch_save (s : State) (c : Nat) (f : Mch → Mch) : (State.modMch s c f).save = s.save := rfl
@[simp] theorem State.modMch_retained (s : State) (c : Nat) (f : Mch → Mch) :
    (State.modMch s c f).retained = s.retained := rfl

@[simp] theorem State.modHead_out (s : State) (h : Nat) (f : Head → Head) : (State.modHead s h f).out = s.out := rfl
@[simp] theorem State.modHead_draws (s : State) (h : Nat) (f : Head → Head) : (State.modHead s h f).draws = s.draws := rfl
@[simp] theorem State.modHead_tele (s : State) (h : Nat) (f : Head → Head) : (State.modHead s h f).tele = s.tele := rfl
@[simp] theorem State.modHead_regs (s : State) (h : Nat) (f : Head → Head) : (State.modHead s h f).regs = s.regs := rfl
@[simp] theorem State.modHead_tt (s : State) (h : Nat) (f : Head → Head) : (State.modHead s h f).tt = s.tt := rfl
@[simp] theorem State.modHead_xl (s : State) (h : Nat) (f : Head → Head) : (State.modHead s h f).xl = s.xl := rfl
@[simp] theorem State.modHead_cache (s : State) (h : Nat) (f : Head → Head) : (State.modHead s h f).cache = s.cache := rfl
@[simp] theorem State.modHead_media (s : State) (h : Nat) (f : Head → Head) : (State.modHead s h f).media = s.media := rfl
@[simp] theorem State.modHead_integ (s : State) (h : Nat) (f : Head → Head) : (State.modHead s h f).integ = s.integ := rfl
@[simp] theorem State.modHead_sec (s : State) (h : Nat) (f : Head → Head) : (State.modHead s h f).sec = s.sec := rfl
@[simp] theorem State.modHead_fry (s : State) (h : Nat) (f : Head → Head) : (State.modHead s h f).fry = s.fry := rfl
@[simp] theorem State.modHead_drcs (s : State) (h : Nat) (f : Head → Head) : (State.modHead s h f).drcs = s.drcs := rfl
@[simp] theorem State.modHead_dram (s : State) (h : Nat) (f : Head → Head) : (State.modHead s h f).dram = s.dram := rfl
@[simp] theorem State.modHead_hps (s : State) (h : Nat) (f : Head → Head) : (State.modHead s h f).hps = s.hps := rfl
@[simp] theorem State.modHead_mbox (s : State) (h : Nat) (f : Head → Head) : (State.modHead s h f).mbox = s.mbox := rfl
@[simp] theorem State.modHead_mnt (s : State) (h : Nat) (f : Head → Head) : (State.modHead s h f).mnt = s.mnt := rfl
@[simp] theorem State.modHead_barge (s : State) (h : Nat) (f : Head → Head) : (State.modHead s h f).barge = s.barge := rfl
@[simp] theorem State.modHead_cen (s : State) (h : Nat) (f : Head → Head) : (State.modHead s h f).cen = s.cen := rfl
@[simp] theorem State.modHead_pst (s : State) (h : Nat) (f : Head → Head) : (State.modHead s h f).pst = s.pst := rfl
@[simp] theorem State.modHead_store (s : State) (h : Nat) (f : Head → Head) : (State.modHead s h f).store = s.store := rfl
@[simp] theorem State.modHead_fwStore (s : State) (h : Nat) (f : Head → Head) :
    (State.modHead s h f).fwStore = s.fwStore := rfl
@[simp] theorem State.modHead_pwr (s : State) (h : Nat) (f : Head → Head) : (State.modHead s h f).pwr = s.pwr := rfl
@[simp] theorem State.modHead_start (s : State) (h : Nat) (f : Head → Head) : (State.modHead s h f).start = s.start := rfl
@[simp] theorem State.modHead_nv (s : State) (h : Nat) (f : Head → Head) : (State.modHead s h f).nv = s.nv := rfl
@[simp] theorem State.modHead_save (s : State) (h : Nat) (f : Head → Head) : (State.modHead s h f).save = s.save := rfl
@[simp] theorem State.modHead_retained (s : State) (h : Nat) (f : Head → Head) :
    (State.modHead s h f).retained = s.retained := rfl

@[simp] theorem State.modHp_out (s : State) (h : Nat) (f : Hp → Hp) : (State.modHp s h f).out = s.out := rfl
@[simp] theorem State.modHp_draws (s : State) (h : Nat) (f : Hp → Hp) : (State.modHp s h f).draws = s.draws := rfl
@[simp] theorem State.modHp_tele (s : State) (h : Nat) (f : Hp → Hp) : (State.modHp s h f).tele = s.tele := rfl
@[simp] theorem State.modHp_regs (s : State) (h : Nat) (f : Hp → Hp) : (State.modHp s h f).regs = s.regs := rfl
@[simp] theorem State.modHp_tt (s : State) (h : Nat) (f : Hp → Hp) : (State.modHp s h f).tt = s.tt := rfl
@[simp] theorem State.modHp_xl (s : State) (h : Nat) (f : Hp → Hp) : (State.modHp s h f).xl = s.xl := rfl
@[simp] theorem State.modHp_cache (s : State) (h : Nat) (f : Hp → Hp) : (State.modHp s h f).cache = s.cache := rfl
@[simp] theorem State.modHp_media (s : State) (h : Nat) (f : Hp → Hp) : (State.modHp s h f).media = s.media := rfl
@[simp] theorem State.modHp_heads (s : State) (h : Nat) (f : Hp → Hp) : (State.modHp s h f).heads = s.heads := rfl
@[simp] theorem State.modHp_integ (s : State) (h : Nat) (f : Hp → Hp) : (State.modHp s h f).integ = s.integ := rfl
@[simp] theorem State.modHp_sec (s : State) (h : Nat) (f : Hp → Hp) : (State.modHp s h f).sec = s.sec := rfl
@[simp] theorem State.modHp_fry (s : State) (h : Nat) (f : Hp → Hp) : (State.modHp s h f).fry = s.fry := rfl
@[simp] theorem State.modHp_drcs (s : State) (h : Nat) (f : Hp → Hp) : (State.modHp s h f).drcs = s.drcs := rfl
@[simp] theorem State.modHp_dram (s : State) (h : Nat) (f : Hp → Hp) : (State.modHp s h f).dram = s.dram := rfl
@[simp] theorem State.modHp_mbox (s : State) (h : Nat) (f : Hp → Hp) : (State.modHp s h f).mbox = s.mbox := rfl
@[simp] theorem State.modHp_mnt (s : State) (h : Nat) (f : Hp → Hp) : (State.modHp s h f).mnt = s.mnt := rfl
@[simp] theorem State.modHp_barge (s : State) (h : Nat) (f : Hp → Hp) : (State.modHp s h f).barge = s.barge := rfl
@[simp] theorem State.modHp_cen (s : State) (h : Nat) (f : Hp → Hp) : (State.modHp s h f).cen = s.cen := rfl
@[simp] theorem State.modHp_pst (s : State) (h : Nat) (f : Hp → Hp) : (State.modHp s h f).pst = s.pst := rfl
@[simp] theorem State.modHp_store (s : State) (h : Nat) (f : Hp → Hp) : (State.modHp s h f).store = s.store := rfl
@[simp] theorem State.modHp_fwStore (s : State) (h : Nat) (f : Hp → Hp) : (State.modHp s h f).fwStore = s.fwStore := rfl
@[simp] theorem State.modHp_pwr (s : State) (h : Nat) (f : Hp → Hp) : (State.modHp s h f).pwr = s.pwr := rfl
@[simp] theorem State.modHp_start (s : State) (h : Nat) (f : Hp → Hp) : (State.modHp s h f).start = s.start := rfl
@[simp] theorem State.modHp_nv (s : State) (h : Nat) (f : Hp → Hp) : (State.modHp s h f).nv = s.nv := rfl
@[simp] theorem State.modHp_save (s : State) (h : Nat) (f : Hp → Hp) : (State.modHp s h f).save = s.save := rfl
@[simp] theorem State.modHp_retained (s : State) (h : Nat) (f : Hp → Hp) : (State.modHp s h f).retained = s.retained := rfl

@[simp] theorem State.modDrc_out (s : State) (c : Nat) (f : Drc → Drc) : (State.modDrc s c f).out = s.out := rfl
@[simp] theorem State.modDrc_draws (s : State) (c : Nat) (f : Drc → Drc) : (State.modDrc s c f).draws = s.draws := rfl
@[simp] theorem State.modDrc_tele (s : State) (c : Nat) (f : Drc → Drc) : (State.modDrc s c f).tele = s.tele := rfl
@[simp] theorem State.modDrc_regs (s : State) (c : Nat) (f : Drc → Drc) : (State.modDrc s c f).regs = s.regs := rfl
@[simp] theorem State.modDrc_tt (s : State) (c : Nat) (f : Drc → Drc) : (State.modDrc s c f).tt = s.tt := rfl
@[simp] theorem State.modDrc_xl (s : State) (c : Nat) (f : Drc → Drc) : (State.modDrc s c f).xl = s.xl := rfl
@[simp] theorem State.modDrc_cache (s : State) (c : Nat) (f : Drc → Drc) : (State.modDrc s c f).cache = s.cache := rfl
@[simp] theorem State.modDrc_media (s : State) (c : Nat) (f : Drc → Drc) : (State.modDrc s c f).media = s.media := rfl
@[simp] theorem State.modDrc_heads (s : State) (c : Nat) (f : Drc → Drc) : (State.modDrc s c f).heads = s.heads := rfl
@[simp] theorem State.modDrc_integ (s : State) (c : Nat) (f : Drc → Drc) : (State.modDrc s c f).integ = s.integ := rfl
@[simp] theorem State.modDrc_sec (s : State) (c : Nat) (f : Drc → Drc) : (State.modDrc s c f).sec = s.sec := rfl
@[simp] theorem State.modDrc_fry (s : State) (c : Nat) (f : Drc → Drc) : (State.modDrc s c f).fry = s.fry := rfl
@[simp] theorem State.modDrc_dram (s : State) (c : Nat) (f : Drc → Drc) : (State.modDrc s c f).dram = s.dram := rfl
@[simp] theorem State.modDrc_hps (s : State) (c : Nat) (f : Drc → Drc) : (State.modDrc s c f).hps = s.hps := rfl
@[simp] theorem State.modDrc_mbox (s : State) (c : Nat) (f : Drc → Drc) : (State.modDrc s c f).mbox = s.mbox := rfl
@[simp] theorem State.modDrc_mnt (s : State) (c : Nat) (f : Drc → Drc) : (State.modDrc s c f).mnt = s.mnt := rfl
@[simp] theorem State.modDrc_barge (s : State) (c : Nat) (f : Drc → Drc) : (State.modDrc s c f).barge = s.barge := rfl
@[simp] theorem State.modDrc_cen (s : State) (c : Nat) (f : Drc → Drc) : (State.modDrc s c f).cen = s.cen := rfl
@[simp] theorem State.modDrc_pst (s : State) (c : Nat) (f : Drc → Drc) : (State.modDrc s c f).pst = s.pst := rfl
@[simp] theorem State.modDrc_store (s : State) (c : Nat) (f : Drc → Drc) : (State.modDrc s c f).store = s.store := rfl
@[simp] theorem State.modDrc_fwStore (s : State) (c : Nat) (f : Drc → Drc) : (State.modDrc s c f).fwStore = s.fwStore := rfl
@[simp] theorem State.modDrc_pwr (s : State) (c : Nat) (f : Drc → Drc) : (State.modDrc s c f).pwr = s.pwr := rfl
@[simp] theorem State.modDrc_start (s : State) (c : Nat) (f : Drc → Drc) : (State.modDrc s c f).start = s.start := rfl
@[simp] theorem State.modDrc_nv (s : State) (c : Nat) (f : Drc → Drc) : (State.modDrc s c f).nv = s.nv := rfl
@[simp] theorem State.modDrc_save (s : State) (c : Nat) (f : Drc → Drc) : (State.modDrc s c f).save = s.save := rfl
@[simp] theorem State.modDrc_retained (s : State) (c : Nat) (f : Drc → Drc) :
    (State.modDrc s c f).retained = s.retained := rfl

@[simp] theorem State.modSub_out (s : State) (c : Nat) (u : Nat) (f : DrcSub → DrcSub) :
    (State.modSub s c u f).out = s.out := rfl
@[simp] theorem State.modSub_draws (s : State) (c : Nat) (u : Nat) (f : DrcSub → DrcSub) :
    (State.modSub s c u f).draws = s.draws := rfl
@[simp] theorem State.modSub_tele (s : State) (c : Nat) (u : Nat) (f : DrcSub → DrcSub) :
    (State.modSub s c u f).tele = s.tele := rfl
@[simp] theorem State.modSub_regs (s : State) (c : Nat) (u : Nat) (f : DrcSub → DrcSub) :
    (State.modSub s c u f).regs = s.regs := rfl
@[simp] theorem State.modSub_tt (s : State) (c : Nat) (u : Nat) (f : DrcSub → DrcSub) :
    (State.modSub s c u f).tt = s.tt := rfl
@[simp] theorem State.modSub_xl (s : State) (c : Nat) (u : Nat) (f : DrcSub → DrcSub) :
    (State.modSub s c u f).xl = s.xl := rfl
@[simp] theorem State.modSub_cache (s : State) (c : Nat) (u : Nat) (f : DrcSub → DrcSub) :
    (State.modSub s c u f).cache = s.cache := rfl
@[simp] theorem State.modSub_media (s : State) (c : Nat) (u : Nat) (f : DrcSub → DrcSub) :
    (State.modSub s c u f).media = s.media := rfl
@[simp] theorem State.modSub_heads (s : State) (c : Nat) (u : Nat) (f : DrcSub → DrcSub) :
    (State.modSub s c u f).heads = s.heads := rfl
@[simp] theorem State.modSub_integ (s : State) (c : Nat) (u : Nat) (f : DrcSub → DrcSub) :
    (State.modSub s c u f).integ = s.integ := rfl
@[simp] theorem State.modSub_sec (s : State) (c : Nat) (u : Nat) (f : DrcSub → DrcSub) :
    (State.modSub s c u f).sec = s.sec := rfl
@[simp] theorem State.modSub_fry (s : State) (c : Nat) (u : Nat) (f : DrcSub → DrcSub) :
    (State.modSub s c u f).fry = s.fry := rfl
@[simp] theorem State.modSub_dram (s : State) (c : Nat) (u : Nat) (f : DrcSub → DrcSub) :
    (State.modSub s c u f).dram = s.dram := rfl
@[simp] theorem State.modSub_hps (s : State) (c : Nat) (u : Nat) (f : DrcSub → DrcSub) :
    (State.modSub s c u f).hps = s.hps := rfl
@[simp] theorem State.modSub_mbox (s : State) (c : Nat) (u : Nat) (f : DrcSub → DrcSub) :
    (State.modSub s c u f).mbox = s.mbox := rfl
@[simp] theorem State.modSub_mnt (s : State) (c : Nat) (u : Nat) (f : DrcSub → DrcSub) :
    (State.modSub s c u f).mnt = s.mnt := rfl
@[simp] theorem State.modSub_barge (s : State) (c : Nat) (u : Nat) (f : DrcSub → DrcSub) :
    (State.modSub s c u f).barge = s.barge := rfl
@[simp] theorem State.modSub_cen (s : State) (c : Nat) (u : Nat) (f : DrcSub → DrcSub) :
    (State.modSub s c u f).cen = s.cen := rfl
@[simp] theorem State.modSub_pst (s : State) (c : Nat) (u : Nat) (f : DrcSub → DrcSub) :
    (State.modSub s c u f).pst = s.pst := rfl
@[simp] theorem State.modSub_store (s : State) (c : Nat) (u : Nat) (f : DrcSub → DrcSub) :
    (State.modSub s c u f).store = s.store := rfl
@[simp] theorem State.modSub_fwStore (s : State) (c : Nat) (u : Nat) (f : DrcSub → DrcSub) :
    (State.modSub s c u f).fwStore = s.fwStore := rfl
@[simp] theorem State.modSub_pwr (s : State) (c : Nat) (u : Nat) (f : DrcSub → DrcSub) :
    (State.modSub s c u f).pwr = s.pwr := rfl
@[simp] theorem State.modSub_start (s : State) (c : Nat) (u : Nat) (f : DrcSub → DrcSub) :
    (State.modSub s c u f).start = s.start := rfl
@[simp] theorem State.modSub_nv (s : State) (c : Nat) (u : Nat) (f : DrcSub → DrcSub) :
    (State.modSub s c u f).nv = s.nv := rfl
@[simp] theorem State.modSub_save (s : State) (c : Nat) (u : Nat) (f : DrcSub → DrcSub) :
    (State.modSub s c u f).save = s.save := rfl
@[simp] theorem State.modSub_retained (s : State) (c : Nat) (u : Nat) (f : DrcSub → DrcSub) :
    (State.modSub s c u f).retained = s.retained := rfl

@[simp] theorem State.modBrg_out (s : State) (n : Nat) (f : BargeCh → BargeCh) : (State.modBrg s n f).out = s.out := rfl
@[simp] theorem State.modBrg_draws (s : State) (n : Nat) (f : BargeCh → BargeCh) :
    (State.modBrg s n f).draws = s.draws := rfl
@[simp] theorem State.modBrg_tele (s : State) (n : Nat) (f : BargeCh → BargeCh) : (State.modBrg s n f).tele = s.tele := rfl
@[simp] theorem State.modBrg_regs (s : State) (n : Nat) (f : BargeCh → BargeCh) : (State.modBrg s n f).regs = s.regs := rfl
@[simp] theorem State.modBrg_tt (s : State) (n : Nat) (f : BargeCh → BargeCh) : (State.modBrg s n f).tt = s.tt := rfl
@[simp] theorem State.modBrg_xl (s : State) (n : Nat) (f : BargeCh → BargeCh) : (State.modBrg s n f).xl = s.xl := rfl
@[simp] theorem State.modBrg_cache (s : State) (n : Nat) (f : BargeCh → BargeCh) :
    (State.modBrg s n f).cache = s.cache := rfl
@[simp] theorem State.modBrg_media (s : State) (n : Nat) (f : BargeCh → BargeCh) :
    (State.modBrg s n f).media = s.media := rfl
@[simp] theorem State.modBrg_heads (s : State) (n : Nat) (f : BargeCh → BargeCh) :
    (State.modBrg s n f).heads = s.heads := rfl
@[simp] theorem State.modBrg_integ (s : State) (n : Nat) (f : BargeCh → BargeCh) :
    (State.modBrg s n f).integ = s.integ := rfl
@[simp] theorem State.modBrg_sec (s : State) (n : Nat) (f : BargeCh → BargeCh) : (State.modBrg s n f).sec = s.sec := rfl
@[simp] theorem State.modBrg_fry (s : State) (n : Nat) (f : BargeCh → BargeCh) : (State.modBrg s n f).fry = s.fry := rfl
@[simp] theorem State.modBrg_drcs (s : State) (n : Nat) (f : BargeCh → BargeCh) : (State.modBrg s n f).drcs = s.drcs := rfl
@[simp] theorem State.modBrg_dram (s : State) (n : Nat) (f : BargeCh → BargeCh) : (State.modBrg s n f).dram = s.dram := rfl
@[simp] theorem State.modBrg_hps (s : State) (n : Nat) (f : BargeCh → BargeCh) : (State.modBrg s n f).hps = s.hps := rfl
@[simp] theorem State.modBrg_mbox (s : State) (n : Nat) (f : BargeCh → BargeCh) : (State.modBrg s n f).mbox = s.mbox := rfl
@[simp] theorem State.modBrg_mnt (s : State) (n : Nat) (f : BargeCh → BargeCh) : (State.modBrg s n f).mnt = s.mnt := rfl
@[simp] theorem State.modBrg_cen (s : State) (n : Nat) (f : BargeCh → BargeCh) : (State.modBrg s n f).cen = s.cen := rfl
@[simp] theorem State.modBrg_pst (s : State) (n : Nat) (f : BargeCh → BargeCh) : (State.modBrg s n f).pst = s.pst := rfl
@[simp] theorem State.modBrg_store (s : State) (n : Nat) (f : BargeCh → BargeCh) :
    (State.modBrg s n f).store = s.store := rfl
@[simp] theorem State.modBrg_fwStore (s : State) (n : Nat) (f : BargeCh → BargeCh) :
    (State.modBrg s n f).fwStore = s.fwStore := rfl
@[simp] theorem State.modBrg_pwr (s : State) (n : Nat) (f : BargeCh → BargeCh) : (State.modBrg s n f).pwr = s.pwr := rfl
@[simp] theorem State.modBrg_start (s : State) (n : Nat) (f : BargeCh → BargeCh) :
    (State.modBrg s n f).start = s.start := rfl
@[simp] theorem State.modBrg_nv (s : State) (n : Nat) (f : BargeCh → BargeCh) : (State.modBrg s n f).nv = s.nv := rfl
@[simp] theorem State.modBrg_save (s : State) (n : Nat) (f : BargeCh → BargeCh) : (State.modBrg s n f).save = s.save := rfl
@[simp] theorem State.modBrg_retained (s : State) (n : Nat) (f : BargeCh → BargeCh) :
    (State.modBrg s n f).retained = s.retained := rfl

@[simp] theorem State.modDistrict_out (s : State) (d : Nat) (f : District → District) :
    (State.modDistrict s d f).out = s.out := rfl
@[simp] theorem State.modDistrict_draws (s : State) (d : Nat) (f : District → District) :
    (State.modDistrict s d f).draws = s.draws := rfl
@[simp] theorem State.modDistrict_tele (s : State) (d : Nat) (f : District → District) :
    (State.modDistrict s d f).tele = s.tele := rfl
@[simp] theorem State.modDistrict_regs (s : State) (d : Nat) (f : District → District) :
    (State.modDistrict s d f).regs = s.regs := rfl
@[simp] theorem State.modDistrict_tt (s : State) (d : Nat) (f : District → District) :
    (State.modDistrict s d f).tt = s.tt := rfl
@[simp] theorem State.modDistrict_cache (s : State) (d : Nat) (f : District → District) :
    (State.modDistrict s d f).cache = s.cache := rfl
@[simp] theorem State.modDistrict_media (s : State) (d : Nat) (f : District → District) :
    (State.modDistrict s d f).media = s.media := rfl
@[simp] theorem State.modDistrict_heads (s : State) (d : Nat) (f : District → District) :
    (State.modDistrict s d f).heads = s.heads := rfl
@[simp] theorem State.modDistrict_integ (s : State) (d : Nat) (f : District → District) :
    (State.modDistrict s d f).integ = s.integ := rfl
@[simp] theorem State.modDistrict_sec (s : State) (d : Nat) (f : District → District) :
    (State.modDistrict s d f).sec = s.sec := rfl
@[simp] theorem State.modDistrict_fry (s : State) (d : Nat) (f : District → District) :
    (State.modDistrict s d f).fry = s.fry := rfl
@[simp] theorem State.modDistrict_drcs (s : State) (d : Nat) (f : District → District) :
    (State.modDistrict s d f).drcs = s.drcs := rfl
@[simp] theorem State.modDistrict_dram (s : State) (d : Nat) (f : District → District) :
    (State.modDistrict s d f).dram = s.dram := rfl
@[simp] theorem State.modDistrict_hps (s : State) (d : Nat) (f : District → District) :
    (State.modDistrict s d f).hps = s.hps := rfl
@[simp] theorem State.modDistrict_mbox (s : State) (d : Nat) (f : District → District) :
    (State.modDistrict s d f).mbox = s.mbox := rfl
@[simp] theorem State.modDistrict_mnt (s : State) (d : Nat) (f : District → District) :
    (State.modDistrict s d f).mnt = s.mnt := rfl
@[simp] theorem State.modDistrict_barge (s : State) (d : Nat) (f : District → District) :
    (State.modDistrict s d f).barge = s.barge := rfl
@[simp] theorem State.modDistrict_cen (s : State) (d : Nat) (f : District → District) :
    (State.modDistrict s d f).cen = s.cen := rfl
@[simp] theorem State.modDistrict_pst (s : State) (d : Nat) (f : District → District) :
    (State.modDistrict s d f).pst = s.pst := rfl
@[simp] theorem State.modDistrict_store (s : State) (d : Nat) (f : District → District) :
    (State.modDistrict s d f).store = s.store := rfl
@[simp] theorem State.modDistrict_fwStore (s : State) (d : Nat) (f : District → District) :
    (State.modDistrict s d f).fwStore = s.fwStore := rfl
@[simp] theorem State.modDistrict_pwr (s : State) (d : Nat) (f : District → District) :
    (State.modDistrict s d f).pwr = s.pwr := rfl
@[simp] theorem State.modDistrict_start (s : State) (d : Nat) (f : District → District) :
    (State.modDistrict s d f).start = s.start := rfl
@[simp] theorem State.modDistrict_nv (s : State) (d : Nat) (f : District → District) :
    (State.modDistrict s d f).nv = s.nv := rfl
@[simp] theorem State.modDistrict_save (s : State) (d : Nat) (f : District → District) :
    (State.modDistrict s d f).save = s.save := rfl
@[simp] theorem State.modDistrict_retained (s : State) (d : Nat) (f : District → District) :
    (State.modDistrict s d f).retained = s.retained := rfl

@[simp] theorem State.modKeySlot_out (s : State) (k : Nat) (f : KeySlot → KeySlot) :
    (State.modKeySlot s k f).out = s.out := rfl
@[simp] theorem State.modKeySlot_draws (s : State) (k : Nat) (f : KeySlot → KeySlot) :
    (State.modKeySlot s k f).draws = s.draws := rfl
@[simp] theorem State.modKeySlot_tele (s : State) (k : Nat) (f : KeySlot → KeySlot) :
    (State.modKeySlot s k f).tele = s.tele := rfl
@[simp] theorem State.modKeySlot_regs (s : State) (k : Nat) (f : KeySlot → KeySlot) :
    (State.modKeySlot s k f).regs = s.regs := rfl
@[simp] theorem State.modKeySlot_tt (s : State) (k : Nat) (f : KeySlot → KeySlot) : (State.modKeySlot s k f).tt = s.tt := rfl
@[simp] theorem State.modKeySlot_xl (s : State) (k : Nat) (f : KeySlot → KeySlot) : (State.modKeySlot s k f).xl = s.xl := rfl
@[simp] theorem State.modKeySlot_cache (s : State) (k : Nat) (f : KeySlot → KeySlot) :
    (State.modKeySlot s k f).cache = s.cache := rfl
@[simp] theorem State.modKeySlot_media (s : State) (k : Nat) (f : KeySlot → KeySlot) :
    (State.modKeySlot s k f).media = s.media := rfl
@[simp] theorem State.modKeySlot_heads (s : State) (k : Nat) (f : KeySlot → KeySlot) :
    (State.modKeySlot s k f).heads = s.heads := rfl
@[simp] theorem State.modKeySlot_integ (s : State) (k : Nat) (f : KeySlot → KeySlot) :
    (State.modKeySlot s k f).integ = s.integ := rfl
@[simp] theorem State.modKeySlot_fry (s : State) (k : Nat) (f : KeySlot → KeySlot) :
    (State.modKeySlot s k f).fry = s.fry := rfl
@[simp] theorem State.modKeySlot_drcs (s : State) (k : Nat) (f : KeySlot → KeySlot) :
    (State.modKeySlot s k f).drcs = s.drcs := rfl
@[simp] theorem State.modKeySlot_dram (s : State) (k : Nat) (f : KeySlot → KeySlot) :
    (State.modKeySlot s k f).dram = s.dram := rfl
@[simp] theorem State.modKeySlot_hps (s : State) (k : Nat) (f : KeySlot → KeySlot) :
    (State.modKeySlot s k f).hps = s.hps := rfl
@[simp] theorem State.modKeySlot_mbox (s : State) (k : Nat) (f : KeySlot → KeySlot) :
    (State.modKeySlot s k f).mbox = s.mbox := rfl
@[simp] theorem State.modKeySlot_mnt (s : State) (k : Nat) (f : KeySlot → KeySlot) :
    (State.modKeySlot s k f).mnt = s.mnt := rfl
@[simp] theorem State.modKeySlot_barge (s : State) (k : Nat) (f : KeySlot → KeySlot) :
    (State.modKeySlot s k f).barge = s.barge := rfl
@[simp] theorem State.modKeySlot_cen (s : State) (k : Nat) (f : KeySlot → KeySlot) :
    (State.modKeySlot s k f).cen = s.cen := rfl
@[simp] theorem State.modKeySlot_pst (s : State) (k : Nat) (f : KeySlot → KeySlot) :
    (State.modKeySlot s k f).pst = s.pst := rfl
@[simp] theorem State.modKeySlot_store (s : State) (k : Nat) (f : KeySlot → KeySlot) :
    (State.modKeySlot s k f).store = s.store := rfl
@[simp] theorem State.modKeySlot_fwStore (s : State) (k : Nat) (f : KeySlot → KeySlot) :
    (State.modKeySlot s k f).fwStore = s.fwStore := rfl
@[simp] theorem State.modKeySlot_pwr (s : State) (k : Nat) (f : KeySlot → KeySlot) :
    (State.modKeySlot s k f).pwr = s.pwr := rfl
@[simp] theorem State.modKeySlot_start (s : State) (k : Nat) (f : KeySlot → KeySlot) :
    (State.modKeySlot s k f).start = s.start := rfl
@[simp] theorem State.modKeySlot_nv (s : State) (k : Nat) (f : KeySlot → KeySlot) : (State.modKeySlot s k f).nv = s.nv := rfl
@[simp] theorem State.modKeySlot_save (s : State) (k : Nat) (f : KeySlot → KeySlot) :
    (State.modKeySlot s k f).save = s.save := rfl
@[simp] theorem State.modKeySlot_retained (s : State) (k : Nat) (f : KeySlot → KeySlot) :
    (State.modKeySlot s k f).retained = s.retained := rfl

@[simp] theorem State.setW_out (s : State) (b : Nat) (off : Nat) (w : Word) : (State.setW s b off w).out = s.out := rfl
@[simp] theorem State.setW_draws (s : State) (b : Nat) (off : Nat) (w : Word) : (State.setW s b off w).draws = s.draws := rfl
@[simp] theorem State.setW_tele (s : State) (b : Nat) (off : Nat) (w : Word) : (State.setW s b off w).tele = s.tele := rfl
@[simp] theorem State.setW_tt (s : State) (b : Nat) (off : Nat) (w : Word) : (State.setW s b off w).tt = s.tt := rfl
@[simp] theorem State.setW_xl (s : State) (b : Nat) (off : Nat) (w : Word) : (State.setW s b off w).xl = s.xl := rfl
@[simp] theorem State.setW_cache (s : State) (b : Nat) (off : Nat) (w : Word) : (State.setW s b off w).cache = s.cache := rfl
@[simp] theorem State.setW_media (s : State) (b : Nat) (off : Nat) (w : Word) : (State.setW s b off w).media = s.media := rfl
@[simp] theorem State.setW_heads (s : State) (b : Nat) (off : Nat) (w : Word) : (State.setW s b off w).heads = s.heads := rfl
@[simp] theorem State.setW_integ (s : State) (b : Nat) (off : Nat) (w : Word) : (State.setW s b off w).integ = s.integ := rfl
@[simp] theorem State.setW_sec (s : State) (b : Nat) (off : Nat) (w : Word) : (State.setW s b off w).sec = s.sec := rfl
@[simp] theorem State.setW_fry (s : State) (b : Nat) (off : Nat) (w : Word) : (State.setW s b off w).fry = s.fry := rfl
@[simp] theorem State.setW_drcs (s : State) (b : Nat) (off : Nat) (w : Word) : (State.setW s b off w).drcs = s.drcs := rfl
@[simp] theorem State.setW_dram (s : State) (b : Nat) (off : Nat) (w : Word) : (State.setW s b off w).dram = s.dram := rfl
@[simp] theorem State.setW_hps (s : State) (b : Nat) (off : Nat) (w : Word) : (State.setW s b off w).hps = s.hps := rfl
@[simp] theorem State.setW_mbox (s : State) (b : Nat) (off : Nat) (w : Word) : (State.setW s b off w).mbox = s.mbox := rfl
@[simp] theorem State.setW_mnt (s : State) (b : Nat) (off : Nat) (w : Word) : (State.setW s b off w).mnt = s.mnt := rfl
@[simp] theorem State.setW_barge (s : State) (b : Nat) (off : Nat) (w : Word) : (State.setW s b off w).barge = s.barge := rfl
@[simp] theorem State.setW_cen (s : State) (b : Nat) (off : Nat) (w : Word) : (State.setW s b off w).cen = s.cen := rfl
@[simp] theorem State.setW_pst (s : State) (b : Nat) (off : Nat) (w : Word) : (State.setW s b off w).pst = s.pst := rfl
@[simp] theorem State.setW_store (s : State) (b : Nat) (off : Nat) (w : Word) : (State.setW s b off w).store = s.store := rfl
@[simp] theorem State.setW_fwStore (s : State) (b : Nat) (off : Nat) (w : Word) :
    (State.setW s b off w).fwStore = s.fwStore := rfl
@[simp] theorem State.setW_pwr (s : State) (b : Nat) (off : Nat) (w : Word) : (State.setW s b off w).pwr = s.pwr := rfl
@[simp] theorem State.setW_start (s : State) (b : Nat) (off : Nat) (w : Word) : (State.setW s b off w).start = s.start := rfl
@[simp] theorem State.setW_nv (s : State) (b : Nat) (off : Nat) (w : Word) : (State.setW s b off w).nv = s.nv := rfl
@[simp] theorem State.setW_save (s : State) (b : Nat) (off : Nat) (w : Word) : (State.setW s b off w).save = s.save := rfl
@[simp] theorem State.setW_retained (s : State) (b : Nat) (off : Nat) (w : Word) :
    (State.setW s b off w).retained = s.retained := rfl

@[simp] theorem State.setS_out (s : State) (b : Nat) (off : Nat) (w : Word) : (State.setS s b off w).out = s.out := rfl
@[simp] theorem State.setS_draws (s : State) (b : Nat) (off : Nat) (w : Word) : (State.setS s b off w).draws = s.draws := rfl
@[simp] theorem State.setS_tele (s : State) (b : Nat) (off : Nat) (w : Word) : (State.setS s b off w).tele = s.tele := rfl
@[simp] theorem State.setS_tt (s : State) (b : Nat) (off : Nat) (w : Word) : (State.setS s b off w).tt = s.tt := rfl
@[simp] theorem State.setS_xl (s : State) (b : Nat) (off : Nat) (w : Word) : (State.setS s b off w).xl = s.xl := rfl
@[simp] theorem State.setS_cache (s : State) (b : Nat) (off : Nat) (w : Word) : (State.setS s b off w).cache = s.cache := rfl
@[simp] theorem State.setS_media (s : State) (b : Nat) (off : Nat) (w : Word) : (State.setS s b off w).media = s.media := rfl
@[simp] theorem State.setS_heads (s : State) (b : Nat) (off : Nat) (w : Word) : (State.setS s b off w).heads = s.heads := rfl
@[simp] theorem State.setS_integ (s : State) (b : Nat) (off : Nat) (w : Word) : (State.setS s b off w).integ = s.integ := rfl
@[simp] theorem State.setS_sec (s : State) (b : Nat) (off : Nat) (w : Word) : (State.setS s b off w).sec = s.sec := rfl
@[simp] theorem State.setS_fry (s : State) (b : Nat) (off : Nat) (w : Word) : (State.setS s b off w).fry = s.fry := rfl
@[simp] theorem State.setS_drcs (s : State) (b : Nat) (off : Nat) (w : Word) : (State.setS s b off w).drcs = s.drcs := rfl
@[simp] theorem State.setS_dram (s : State) (b : Nat) (off : Nat) (w : Word) : (State.setS s b off w).dram = s.dram := rfl
@[simp] theorem State.setS_hps (s : State) (b : Nat) (off : Nat) (w : Word) : (State.setS s b off w).hps = s.hps := rfl
@[simp] theorem State.setS_mbox (s : State) (b : Nat) (off : Nat) (w : Word) : (State.setS s b off w).mbox = s.mbox := rfl
@[simp] theorem State.setS_mnt (s : State) (b : Nat) (off : Nat) (w : Word) : (State.setS s b off w).mnt = s.mnt := rfl
@[simp] theorem State.setS_barge (s : State) (b : Nat) (off : Nat) (w : Word) : (State.setS s b off w).barge = s.barge := rfl
@[simp] theorem State.setS_cen (s : State) (b : Nat) (off : Nat) (w : Word) : (State.setS s b off w).cen = s.cen := rfl
@[simp] theorem State.setS_pst (s : State) (b : Nat) (off : Nat) (w : Word) : (State.setS s b off w).pst = s.pst := rfl
@[simp] theorem State.setS_store (s : State) (b : Nat) (off : Nat) (w : Word) : (State.setS s b off w).store = s.store := rfl
@[simp] theorem State.setS_fwStore (s : State) (b : Nat) (off : Nat) (w : Word) :
    (State.setS s b off w).fwStore = s.fwStore := rfl
@[simp] theorem State.setS_pwr (s : State) (b : Nat) (off : Nat) (w : Word) : (State.setS s b off w).pwr = s.pwr := rfl
@[simp] theorem State.setS_start (s : State) (b : Nat) (off : Nat) (w : Word) : (State.setS s b off w).start = s.start := rfl
@[simp] theorem State.setS_nv (s : State) (b : Nat) (off : Nat) (w : Word) : (State.setS s b off w).nv = s.nv := rfl
@[simp] theorem State.setS_save (s : State) (b : Nat) (off : Nat) (w : Word) : (State.setS s b off w).save = s.save := rfl
@[simp] theorem State.setS_retained (s : State) (b : Nat) (off : Nat) (w : Word) :
    (State.setS s b off w).retained = s.retained := rfl

@[simp] theorem State.load_out (s : State) (b : Nat) (off : Nat) (w : Word) : (State.load s b off w).out = s.out := rfl
@[simp] theorem State.load_draws (s : State) (b : Nat) (off : Nat) (w : Word) : (State.load s b off w).draws = s.draws := rfl
@[simp] theorem State.load_tele (s : State) (b : Nat) (off : Nat) (w : Word) : (State.load s b off w).tele = s.tele := rfl
@[simp] theorem State.load_tt (s : State) (b : Nat) (off : Nat) (w : Word) : (State.load s b off w).tt = s.tt := rfl
@[simp] theorem State.load_xl (s : State) (b : Nat) (off : Nat) (w : Word) : (State.load s b off w).xl = s.xl := rfl
@[simp] theorem State.load_cache (s : State) (b : Nat) (off : Nat) (w : Word) : (State.load s b off w).cache = s.cache := rfl
@[simp] theorem State.load_media (s : State) (b : Nat) (off : Nat) (w : Word) : (State.load s b off w).media = s.media := rfl
@[simp] theorem State.load_heads (s : State) (b : Nat) (off : Nat) (w : Word) : (State.load s b off w).heads = s.heads := rfl
@[simp] theorem State.load_integ (s : State) (b : Nat) (off : Nat) (w : Word) : (State.load s b off w).integ = s.integ := rfl
@[simp] theorem State.load_sec (s : State) (b : Nat) (off : Nat) (w : Word) : (State.load s b off w).sec = s.sec := rfl
@[simp] theorem State.load_fry (s : State) (b : Nat) (off : Nat) (w : Word) : (State.load s b off w).fry = s.fry := rfl
@[simp] theorem State.load_drcs (s : State) (b : Nat) (off : Nat) (w : Word) : (State.load s b off w).drcs = s.drcs := rfl
@[simp] theorem State.load_dram (s : State) (b : Nat) (off : Nat) (w : Word) : (State.load s b off w).dram = s.dram := rfl
@[simp] theorem State.load_hps (s : State) (b : Nat) (off : Nat) (w : Word) : (State.load s b off w).hps = s.hps := rfl
@[simp] theorem State.load_mbox (s : State) (b : Nat) (off : Nat) (w : Word) : (State.load s b off w).mbox = s.mbox := rfl
@[simp] theorem State.load_mnt (s : State) (b : Nat) (off : Nat) (w : Word) : (State.load s b off w).mnt = s.mnt := rfl
@[simp] theorem State.load_barge (s : State) (b : Nat) (off : Nat) (w : Word) : (State.load s b off w).barge = s.barge := rfl
@[simp] theorem State.load_cen (s : State) (b : Nat) (off : Nat) (w : Word) : (State.load s b off w).cen = s.cen := rfl
@[simp] theorem State.load_pst (s : State) (b : Nat) (off : Nat) (w : Word) : (State.load s b off w).pst = s.pst := rfl
@[simp] theorem State.load_store (s : State) (b : Nat) (off : Nat) (w : Word) : (State.load s b off w).store = s.store := rfl
@[simp] theorem State.load_fwStore (s : State) (b : Nat) (off : Nat) (w : Word) :
    (State.load s b off w).fwStore = s.fwStore := rfl
@[simp] theorem State.load_pwr (s : State) (b : Nat) (off : Nat) (w : Word) : (State.load s b off w).pwr = s.pwr := rfl
@[simp] theorem State.load_start (s : State) (b : Nat) (off : Nat) (w : Word) : (State.load s b off w).start = s.start := rfl
@[simp] theorem State.load_nv (s : State) (b : Nat) (off : Nat) (w : Word) : (State.load s b off w).nv = s.nv := rfl
@[simp] theorem State.load_save (s : State) (b : Nat) (off : Nat) (w : Word) : (State.load s b off w).save = s.save := rfl
@[simp] theorem State.load_retained (s : State) (b : Nat) (off : Nat) (w : Word) :
    (State.load s b off w).retained = s.retained := rfl

@[simp] theorem State.setCell_out (s : State) (c : Nat) (psn : Nat) (w : Codeword) :
    (State.setCell s c psn w).out = s.out := rfl
@[simp] theorem State.setCell_draws (s : State) (c : Nat) (psn : Nat) (w : Codeword) :
    (State.setCell s c psn w).draws = s.draws := rfl
@[simp] theorem State.setCell_tele (s : State) (c : Nat) (psn : Nat) (w : Codeword) :
    (State.setCell s c psn w).tele = s.tele := rfl
@[simp] theorem State.setCell_regs (s : State) (c : Nat) (psn : Nat) (w : Codeword) :
    (State.setCell s c psn w).regs = s.regs := rfl
@[simp] theorem State.setCell_tt (s : State) (c : Nat) (psn : Nat) (w : Codeword) :
    (State.setCell s c psn w).tt = s.tt := rfl
@[simp] theorem State.setCell_xl (s : State) (c : Nat) (psn : Nat) (w : Codeword) :
    (State.setCell s c psn w).xl = s.xl := rfl
@[simp] theorem State.setCell_cache (s : State) (c : Nat) (psn : Nat) (w : Codeword) :
    (State.setCell s c psn w).cache = s.cache := rfl
@[simp] theorem State.setCell_heads (s : State) (c : Nat) (psn : Nat) (w : Codeword) :
    (State.setCell s c psn w).heads = s.heads := rfl
@[simp] theorem State.setCell_integ (s : State) (c : Nat) (psn : Nat) (w : Codeword) :
    (State.setCell s c psn w).integ = s.integ := rfl
@[simp] theorem State.setCell_sec (s : State) (c : Nat) (psn : Nat) (w : Codeword) :
    (State.setCell s c psn w).sec = s.sec := rfl
@[simp] theorem State.setCell_fry (s : State) (c : Nat) (psn : Nat) (w : Codeword) :
    (State.setCell s c psn w).fry = s.fry := rfl
@[simp] theorem State.setCell_drcs (s : State) (c : Nat) (psn : Nat) (w : Codeword) :
    (State.setCell s c psn w).drcs = s.drcs := rfl
@[simp] theorem State.setCell_dram (s : State) (c : Nat) (psn : Nat) (w : Codeword) :
    (State.setCell s c psn w).dram = s.dram := rfl
@[simp] theorem State.setCell_hps (s : State) (c : Nat) (psn : Nat) (w : Codeword) :
    (State.setCell s c psn w).hps = s.hps := rfl
@[simp] theorem State.setCell_mbox (s : State) (c : Nat) (psn : Nat) (w : Codeword) :
    (State.setCell s c psn w).mbox = s.mbox := rfl
@[simp] theorem State.setCell_mnt (s : State) (c : Nat) (psn : Nat) (w : Codeword) :
    (State.setCell s c psn w).mnt = s.mnt := rfl
@[simp] theorem State.setCell_barge (s : State) (c : Nat) (psn : Nat) (w : Codeword) :
    (State.setCell s c psn w).barge = s.barge := rfl
@[simp] theorem State.setCell_cen (s : State) (c : Nat) (psn : Nat) (w : Codeword) :
    (State.setCell s c psn w).cen = s.cen := rfl
@[simp] theorem State.setCell_pst (s : State) (c : Nat) (psn : Nat) (w : Codeword) :
    (State.setCell s c psn w).pst = s.pst := rfl
@[simp] theorem State.setCell_store (s : State) (c : Nat) (psn : Nat) (w : Codeword) :
    (State.setCell s c psn w).store = s.store := rfl
@[simp] theorem State.setCell_fwStore (s : State) (c : Nat) (psn : Nat) (w : Codeword) :
    (State.setCell s c psn w).fwStore = s.fwStore := rfl
@[simp] theorem State.setCell_pwr (s : State) (c : Nat) (psn : Nat) (w : Codeword) :
    (State.setCell s c psn w).pwr = s.pwr := rfl
@[simp] theorem State.setCell_start (s : State) (c : Nat) (psn : Nat) (w : Codeword) :
    (State.setCell s c psn w).start = s.start := rfl
@[simp] theorem State.setCell_nv (s : State) (c : Nat) (psn : Nat) (w : Codeword) :
    (State.setCell s c psn w).nv = s.nv := rfl
@[simp] theorem State.setCell_save (s : State) (c : Nat) (psn : Nat) (w : Codeword) :
    (State.setCell s c psn w).save = s.save := rfl
@[simp] theorem State.setCell_retained (s : State) (c : Nat) (psn : Nat) (w : Codeword) :
    (State.setCell s c psn w).retained = s.retained := rfl

@[simp] theorem State.bwAdd_out (s : State) (port : Nat) (dir : Nat) (n : Nat) :
    (State.bwAdd s port dir n).out = s.out := rfl
@[simp] theorem State.bwAdd_draws (s : State) (port : Nat) (dir : Nat) (n : Nat) :
    (State.bwAdd s port dir n).draws = s.draws := rfl
@[simp] theorem State.bwAdd_tele (s : State) (port : Nat) (dir : Nat) (n : Nat) :
    (State.bwAdd s port dir n).tele = s.tele := rfl
@[simp] theorem State.bwAdd_regs (s : State) (port : Nat) (dir : Nat) (n : Nat) :
    (State.bwAdd s port dir n).regs = s.regs := rfl
@[simp] theorem State.bwAdd_tt (s : State) (port : Nat) (dir : Nat) (n : Nat) : (State.bwAdd s port dir n).tt = s.tt := rfl
@[simp] theorem State.bwAdd_xl (s : State) (port : Nat) (dir : Nat) (n : Nat) : (State.bwAdd s port dir n).xl = s.xl := rfl
@[simp] theorem State.bwAdd_cache (s : State) (port : Nat) (dir : Nat) (n : Nat) :
    (State.bwAdd s port dir n).cache = s.cache := rfl
@[simp] theorem State.bwAdd_media (s : State) (port : Nat) (dir : Nat) (n : Nat) :
    (State.bwAdd s port dir n).media = s.media := rfl
@[simp] theorem State.bwAdd_heads (s : State) (port : Nat) (dir : Nat) (n : Nat) :
    (State.bwAdd s port dir n).heads = s.heads := rfl
@[simp] theorem State.bwAdd_integ (s : State) (port : Nat) (dir : Nat) (n : Nat) :
    (State.bwAdd s port dir n).integ = s.integ := rfl
@[simp] theorem State.bwAdd_sec (s : State) (port : Nat) (dir : Nat) (n : Nat) :
    (State.bwAdd s port dir n).sec = s.sec := rfl
@[simp] theorem State.bwAdd_fry (s : State) (port : Nat) (dir : Nat) (n : Nat) :
    (State.bwAdd s port dir n).fry = s.fry := rfl
@[simp] theorem State.bwAdd_drcs (s : State) (port : Nat) (dir : Nat) (n : Nat) :
    (State.bwAdd s port dir n).drcs = s.drcs := rfl
@[simp] theorem State.bwAdd_dram (s : State) (port : Nat) (dir : Nat) (n : Nat) :
    (State.bwAdd s port dir n).dram = s.dram := rfl
@[simp] theorem State.bwAdd_hps (s : State) (port : Nat) (dir : Nat) (n : Nat) :
    (State.bwAdd s port dir n).hps = s.hps := rfl
@[simp] theorem State.bwAdd_mbox (s : State) (port : Nat) (dir : Nat) (n : Nat) :
    (State.bwAdd s port dir n).mbox = s.mbox := rfl
@[simp] theorem State.bwAdd_mnt (s : State) (port : Nat) (dir : Nat) (n : Nat) :
    (State.bwAdd s port dir n).mnt = s.mnt := rfl
@[simp] theorem State.bwAdd_barge (s : State) (port : Nat) (dir : Nat) (n : Nat) :
    (State.bwAdd s port dir n).barge = s.barge := rfl
@[simp] theorem State.bwAdd_pst (s : State) (port : Nat) (dir : Nat) (n : Nat) :
    (State.bwAdd s port dir n).pst = s.pst := rfl
@[simp] theorem State.bwAdd_store (s : State) (port : Nat) (dir : Nat) (n : Nat) :
    (State.bwAdd s port dir n).store = s.store := rfl
@[simp] theorem State.bwAdd_fwStore (s : State) (port : Nat) (dir : Nat) (n : Nat) :
    (State.bwAdd s port dir n).fwStore = s.fwStore := rfl
@[simp] theorem State.bwAdd_pwr (s : State) (port : Nat) (dir : Nat) (n : Nat) :
    (State.bwAdd s port dir n).pwr = s.pwr := rfl
@[simp] theorem State.bwAdd_start (s : State) (port : Nat) (dir : Nat) (n : Nat) :
    (State.bwAdd s port dir n).start = s.start := rfl
@[simp] theorem State.bwAdd_nv (s : State) (port : Nat) (dir : Nat) (n : Nat) : (State.bwAdd s port dir n).nv = s.nv := rfl
@[simp] theorem State.bwAdd_save (s : State) (port : Nat) (dir : Nat) (n : Nat) :
    (State.bwAdd s port dir n).save = s.save := rfl
@[simp] theorem State.bwAdd_retained (s : State) (port : Nat) (dir : Nat) (n : Nat) :
    (State.bwAdd s port dir n).retained = s.retained := rfl

@[simp] theorem State.beat_out (s : State) (c : Nat) (k : Nat) (n : Nat) : (State.beat s c k n).out = s.out := rfl
@[simp] theorem State.beat_draws (s : State) (c : Nat) (k : Nat) (n : Nat) : (State.beat s c k n).draws = s.draws := rfl
@[simp] theorem State.beat_regs (s : State) (c : Nat) (k : Nat) (n : Nat) : (State.beat s c k n).regs = s.regs := rfl
@[simp] theorem State.beat_tt (s : State) (c : Nat) (k : Nat) (n : Nat) : (State.beat s c k n).tt = s.tt := rfl
@[simp] theorem State.beat_xl (s : State) (c : Nat) (k : Nat) (n : Nat) : (State.beat s c k n).xl = s.xl := rfl
@[simp] theorem State.beat_cache (s : State) (c : Nat) (k : Nat) (n : Nat) : (State.beat s c k n).cache = s.cache := rfl
@[simp] theorem State.beat_media (s : State) (c : Nat) (k : Nat) (n : Nat) : (State.beat s c k n).media = s.media := rfl
@[simp] theorem State.beat_heads (s : State) (c : Nat) (k : Nat) (n : Nat) : (State.beat s c k n).heads = s.heads := rfl
@[simp] theorem State.beat_integ (s : State) (c : Nat) (k : Nat) (n : Nat) : (State.beat s c k n).integ = s.integ := rfl
@[simp] theorem State.beat_sec (s : State) (c : Nat) (k : Nat) (n : Nat) : (State.beat s c k n).sec = s.sec := rfl
@[simp] theorem State.beat_fry (s : State) (c : Nat) (k : Nat) (n : Nat) : (State.beat s c k n).fry = s.fry := rfl
@[simp] theorem State.beat_drcs (s : State) (c : Nat) (k : Nat) (n : Nat) : (State.beat s c k n).drcs = s.drcs := rfl
@[simp] theorem State.beat_dram (s : State) (c : Nat) (k : Nat) (n : Nat) : (State.beat s c k n).dram = s.dram := rfl
@[simp] theorem State.beat_hps (s : State) (c : Nat) (k : Nat) (n : Nat) : (State.beat s c k n).hps = s.hps := rfl
@[simp] theorem State.beat_mbox (s : State) (c : Nat) (k : Nat) (n : Nat) : (State.beat s c k n).mbox = s.mbox := rfl
@[simp] theorem State.beat_mnt (s : State) (c : Nat) (k : Nat) (n : Nat) : (State.beat s c k n).mnt = s.mnt := rfl
@[simp] theorem State.beat_barge (s : State) (c : Nat) (k : Nat) (n : Nat) : (State.beat s c k n).barge = s.barge := rfl
@[simp] theorem State.beat_pst (s : State) (c : Nat) (k : Nat) (n : Nat) : (State.beat s c k n).pst = s.pst := rfl
@[simp] theorem State.beat_store (s : State) (c : Nat) (k : Nat) (n : Nat) : (State.beat s c k n).store = s.store := rfl
@[simp] theorem State.beat_fwStore (s : State) (c : Nat) (k : Nat) (n : Nat) :
    (State.beat s c k n).fwStore = s.fwStore := rfl
@[simp] theorem State.beat_pwr (s : State) (c : Nat) (k : Nat) (n : Nat) : (State.beat s c k n).pwr = s.pwr := rfl
@[simp] theorem State.beat_start (s : State) (c : Nat) (k : Nat) (n : Nat) : (State.beat s c k n).start = s.start := rfl
@[simp] theorem State.beat_nv (s : State) (c : Nat) (k : Nat) (n : Nat) : (State.beat s c k n).nv = s.nv := rfl
@[simp] theorem State.beat_save (s : State) (c : Nat) (k : Nat) (n : Nat) : (State.beat s c k n).save = s.save := rfl
@[simp] theorem State.beat_retained (s : State) (c : Nat) (k : Nat) (n : Nat) :
    (State.beat s c k n).retained = s.retained := rfl

@[simp] theorem State.pwrTo_out (s : State) (new : Nat) (cause : Nat) :
    (State.pwrTo s new cause).out = s.out := by unfold State.pwrTo; split <;> rfl
@[simp] theorem State.pwrTo_draws (s : State) (new : Nat) (cause : Nat) :
    (State.pwrTo s new cause).draws = s.draws := by unfold State.pwrTo; split <;> rfl
@[simp] theorem State.pwrTo_regs (s : State) (new : Nat) (cause : Nat) :
    (State.pwrTo s new cause).regs = s.regs := by unfold State.pwrTo; split <;> rfl
@[simp] theorem State.pwrTo_tt (s : State) (new : Nat) (cause : Nat) :
    (State.pwrTo s new cause).tt = s.tt := by unfold State.pwrTo; split <;> rfl
@[simp] theorem State.pwrTo_xl (s : State) (new : Nat) (cause : Nat) :
    (State.pwrTo s new cause).xl = s.xl := by unfold State.pwrTo; split <;> rfl
@[simp] theorem State.pwrTo_cache (s : State) (new : Nat) (cause : Nat) :
    (State.pwrTo s new cause).cache = s.cache := by unfold State.pwrTo; split <;> rfl
@[simp] theorem State.pwrTo_media (s : State) (new : Nat) (cause : Nat) :
    (State.pwrTo s new cause).media = s.media := by unfold State.pwrTo; split <;> rfl
@[simp] theorem State.pwrTo_heads (s : State) (new : Nat) (cause : Nat) :
    (State.pwrTo s new cause).heads = s.heads := by unfold State.pwrTo; split <;> rfl
@[simp] theorem State.pwrTo_integ (s : State) (new : Nat) (cause : Nat) :
    (State.pwrTo s new cause).integ = s.integ := by unfold State.pwrTo; split <;> rfl
@[simp] theorem State.pwrTo_sec (s : State) (new : Nat) (cause : Nat) :
    (State.pwrTo s new cause).sec = s.sec := by unfold State.pwrTo; split <;> rfl
@[simp] theorem State.pwrTo_fry (s : State) (new : Nat) (cause : Nat) :
    (State.pwrTo s new cause).fry = s.fry := by unfold State.pwrTo; split <;> rfl
@[simp] theorem State.pwrTo_drcs (s : State) (new : Nat) (cause : Nat) :
    (State.pwrTo s new cause).drcs = s.drcs := by unfold State.pwrTo; split <;> rfl
@[simp] theorem State.pwrTo_dram (s : State) (new : Nat) (cause : Nat) :
    (State.pwrTo s new cause).dram = s.dram := by unfold State.pwrTo; split <;> rfl
@[simp] theorem State.pwrTo_hps (s : State) (new : Nat) (cause : Nat) :
    (State.pwrTo s new cause).hps = s.hps := by unfold State.pwrTo; split <;> rfl
@[simp] theorem State.pwrTo_mbox (s : State) (new : Nat) (cause : Nat) :
    (State.pwrTo s new cause).mbox = s.mbox := by unfold State.pwrTo; split <;> rfl
@[simp] theorem State.pwrTo_mnt (s : State) (new : Nat) (cause : Nat) :
    (State.pwrTo s new cause).mnt = s.mnt := by unfold State.pwrTo; split <;> rfl
@[simp] theorem State.pwrTo_barge (s : State) (new : Nat) (cause : Nat) :
    (State.pwrTo s new cause).barge = s.barge := by unfold State.pwrTo; split <;> rfl
@[simp] theorem State.pwrTo_cen (s : State) (new : Nat) (cause : Nat) :
    (State.pwrTo s new cause).cen = s.cen := by unfold State.pwrTo; split <;> rfl
@[simp] theorem State.pwrTo_pst (s : State) (new : Nat) (cause : Nat) :
    (State.pwrTo s new cause).pst = s.pst := by unfold State.pwrTo; split <;> rfl
@[simp] theorem State.pwrTo_store (s : State) (new : Nat) (cause : Nat) :
    (State.pwrTo s new cause).store = s.store := by unfold State.pwrTo; split <;> rfl
@[simp] theorem State.pwrTo_fwStore (s : State) (new : Nat) (cause : Nat) :
    (State.pwrTo s new cause).fwStore = s.fwStore := by unfold State.pwrTo; split <;> rfl
@[simp] theorem State.pwrTo_start (s : State) (new : Nat) (cause : Nat) :
    (State.pwrTo s new cause).start = s.start := by unfold State.pwrTo; split <;> rfl
@[simp] theorem State.pwrTo_nv (s : State) (new : Nat) (cause : Nat) :
    (State.pwrTo s new cause).nv = s.nv := by unfold State.pwrTo; split <;> rfl
@[simp] theorem State.pwrTo_save (s : State) (new : Nat) (cause : Nat) :
    (State.pwrTo s new cause).save = s.save := by unfold State.pwrTo; split <;> rfl
@[simp] theorem State.pwrTo_retained (s : State) (new : Nat) (cause : Nat) :
    (State.pwrTo s new cause).retained = s.retained := by unfold State.pwrTo; split <;> rfl

@[simp] theorem State.hostSend_draws (s : State) (h : Nat) (o : Output) :
    (State.hostSend s h o).draws = s.draws := by unfold State.hostSend; split <;> rfl
@[simp] theorem State.hostSend_tele (s : State) (h : Nat) (o : Output) :
    (State.hostSend s h o).tele = s.tele := by unfold State.hostSend; split <;> rfl
@[simp] theorem State.hostSend_regs (s : State) (h : Nat) (o : Output) :
    (State.hostSend s h o).regs = s.regs := by unfold State.hostSend; split <;> rfl
@[simp] theorem State.hostSend_tt (s : State) (h : Nat) (o : Output) :
    (State.hostSend s h o).tt = s.tt := by unfold State.hostSend; split <;> rfl
@[simp] theorem State.hostSend_xl (s : State) (h : Nat) (o : Output) :
    (State.hostSend s h o).xl = s.xl := by unfold State.hostSend; split <;> rfl
@[simp] theorem State.hostSend_cache (s : State) (h : Nat) (o : Output) :
    (State.hostSend s h o).cache = s.cache := by unfold State.hostSend; split <;> rfl
@[simp] theorem State.hostSend_media (s : State) (h : Nat) (o : Output) :
    (State.hostSend s h o).media = s.media := by unfold State.hostSend; split <;> rfl
@[simp] theorem State.hostSend_heads (s : State) (h : Nat) (o : Output) :
    (State.hostSend s h o).heads = s.heads := by unfold State.hostSend; split <;> rfl
@[simp] theorem State.hostSend_integ (s : State) (h : Nat) (o : Output) :
    (State.hostSend s h o).integ = s.integ := by unfold State.hostSend; split <;> rfl
@[simp] theorem State.hostSend_sec (s : State) (h : Nat) (o : Output) :
    (State.hostSend s h o).sec = s.sec := by unfold State.hostSend; split <;> rfl
@[simp] theorem State.hostSend_fry (s : State) (h : Nat) (o : Output) :
    (State.hostSend s h o).fry = s.fry := by unfold State.hostSend; split <;> rfl
@[simp] theorem State.hostSend_drcs (s : State) (h : Nat) (o : Output) :
    (State.hostSend s h o).drcs = s.drcs := by unfold State.hostSend; split <;> rfl
@[simp] theorem State.hostSend_dram (s : State) (h : Nat) (o : Output) :
    (State.hostSend s h o).dram = s.dram := by unfold State.hostSend; split <;> rfl
@[simp] theorem State.hostSend_hps (s : State) (h : Nat) (o : Output) :
    (State.hostSend s h o).hps = s.hps := by unfold State.hostSend; split <;> rfl
@[simp] theorem State.hostSend_mbox (s : State) (h : Nat) (o : Output) :
    (State.hostSend s h o).mbox = s.mbox := by unfold State.hostSend; split <;> rfl
@[simp] theorem State.hostSend_mnt (s : State) (h : Nat) (o : Output) :
    (State.hostSend s h o).mnt = s.mnt := by unfold State.hostSend; split <;> rfl
@[simp] theorem State.hostSend_barge (s : State) (h : Nat) (o : Output) :
    (State.hostSend s h o).barge = s.barge := by unfold State.hostSend; split <;> rfl
@[simp] theorem State.hostSend_cen (s : State) (h : Nat) (o : Output) :
    (State.hostSend s h o).cen = s.cen := by unfold State.hostSend; split <;> rfl
@[simp] theorem State.hostSend_pst (s : State) (h : Nat) (o : Output) :
    (State.hostSend s h o).pst = s.pst := by unfold State.hostSend; split <;> rfl
@[simp] theorem State.hostSend_store (s : State) (h : Nat) (o : Output) :
    (State.hostSend s h o).store = s.store := by unfold State.hostSend; split <;> rfl
@[simp] theorem State.hostSend_fwStore (s : State) (h : Nat) (o : Output) :
    (State.hostSend s h o).fwStore = s.fwStore := by unfold State.hostSend; split <;> rfl
@[simp] theorem State.hostSend_pwr (s : State) (h : Nat) (o : Output) :
    (State.hostSend s h o).pwr = s.pwr := by unfold State.hostSend; split <;> rfl
@[simp] theorem State.hostSend_start (s : State) (h : Nat) (o : Output) :
    (State.hostSend s h o).start = s.start := by unfold State.hostSend; split <;> rfl
@[simp] theorem State.hostSend_nv (s : State) (h : Nat) (o : Output) :
    (State.hostSend s h o).nv = s.nv := by unfold State.hostSend; split <;> rfl
@[simp] theorem State.hostSend_save (s : State) (h : Nat) (o : Output) :
    (State.hostSend s h o).save = s.save := by unfold State.hostSend; split <;> rfl
@[simp] theorem State.hostSend_retained (s : State) (h : Nat) (o : Output) :
    (State.hostSend s h o).retained = s.retained := by unfold State.hostSend; split <;> rfl

@[simp] theorem State.ferry_draws (s : State) (kind : Nat) (fields : List Nat) (payload : List (BitVec 8)) :
    (State.ferry s kind fields payload).draws = s.draws := by unfold State.ferry; split <;> rfl
@[simp] theorem State.ferry_tele (s : State) (kind : Nat) (fields : List Nat) (payload : List (BitVec 8)) :
    (State.ferry s kind fields payload).tele = s.tele := by unfold State.ferry; split <;> rfl
@[simp] theorem State.ferry_regs (s : State) (kind : Nat) (fields : List Nat) (payload : List (BitVec 8)) :
    (State.ferry s kind fields payload).regs = s.regs := by unfold State.ferry; split <;> rfl
@[simp] theorem State.ferry_tt (s : State) (kind : Nat) (fields : List Nat) (payload : List (BitVec 8)) :
    (State.ferry s kind fields payload).tt = s.tt := by unfold State.ferry; split <;> rfl
@[simp] theorem State.ferry_xl (s : State) (kind : Nat) (fields : List Nat) (payload : List (BitVec 8)) :
    (State.ferry s kind fields payload).xl = s.xl := by unfold State.ferry; split <;> rfl
@[simp] theorem State.ferry_cache (s : State) (kind : Nat) (fields : List Nat) (payload : List (BitVec 8)) :
    (State.ferry s kind fields payload).cache = s.cache := by unfold State.ferry; split <;> rfl
@[simp] theorem State.ferry_media (s : State) (kind : Nat) (fields : List Nat) (payload : List (BitVec 8)) :
    (State.ferry s kind fields payload).media = s.media := by unfold State.ferry; split <;> rfl
@[simp] theorem State.ferry_heads (s : State) (kind : Nat) (fields : List Nat) (payload : List (BitVec 8)) :
    (State.ferry s kind fields payload).heads = s.heads := by unfold State.ferry; split <;> rfl
@[simp] theorem State.ferry_integ (s : State) (kind : Nat) (fields : List Nat) (payload : List (BitVec 8)) :
    (State.ferry s kind fields payload).integ = s.integ := by unfold State.ferry; split <;> rfl
@[simp] theorem State.ferry_sec (s : State) (kind : Nat) (fields : List Nat) (payload : List (BitVec 8)) :
    (State.ferry s kind fields payload).sec = s.sec := by unfold State.ferry; split <;> rfl
@[simp] theorem State.ferry_fry (s : State) (kind : Nat) (fields : List Nat) (payload : List (BitVec 8)) :
    (State.ferry s kind fields payload).fry = s.fry := by unfold State.ferry; split <;> rfl
@[simp] theorem State.ferry_drcs (s : State) (kind : Nat) (fields : List Nat) (payload : List (BitVec 8)) :
    (State.ferry s kind fields payload).drcs = s.drcs := by unfold State.ferry; split <;> rfl
@[simp] theorem State.ferry_dram (s : State) (kind : Nat) (fields : List Nat) (payload : List (BitVec 8)) :
    (State.ferry s kind fields payload).dram = s.dram := by unfold State.ferry; split <;> rfl
@[simp] theorem State.ferry_hps (s : State) (kind : Nat) (fields : List Nat) (payload : List (BitVec 8)) :
    (State.ferry s kind fields payload).hps = s.hps := by unfold State.ferry; split <;> rfl
@[simp] theorem State.ferry_mbox (s : State) (kind : Nat) (fields : List Nat) (payload : List (BitVec 8)) :
    (State.ferry s kind fields payload).mbox = s.mbox := by unfold State.ferry; split <;> rfl
@[simp] theorem State.ferry_mnt (s : State) (kind : Nat) (fields : List Nat) (payload : List (BitVec 8)) :
    (State.ferry s kind fields payload).mnt = s.mnt := by unfold State.ferry; split <;> rfl
@[simp] theorem State.ferry_barge (s : State) (kind : Nat) (fields : List Nat) (payload : List (BitVec 8)) :
    (State.ferry s kind fields payload).barge = s.barge := by unfold State.ferry; split <;> rfl
@[simp] theorem State.ferry_pst (s : State) (kind : Nat) (fields : List Nat) (payload : List (BitVec 8)) :
    (State.ferry s kind fields payload).pst = s.pst := by unfold State.ferry; split <;> rfl
@[simp] theorem State.ferry_store (s : State) (kind : Nat) (fields : List Nat) (payload : List (BitVec 8)) :
    (State.ferry s kind fields payload).store = s.store := by unfold State.ferry; split <;> rfl
@[simp] theorem State.ferry_fwStore (s : State) (kind : Nat) (fields : List Nat) (payload : List (BitVec 8)) :
    (State.ferry s kind fields payload).fwStore = s.fwStore := by unfold State.ferry; split <;> rfl
@[simp] theorem State.ferry_pwr (s : State) (kind : Nat) (fields : List Nat) (payload : List (BitVec 8)) :
    (State.ferry s kind fields payload).pwr = s.pwr := by unfold State.ferry; split <;> rfl
@[simp] theorem State.ferry_start (s : State) (kind : Nat) (fields : List Nat) (payload : List (BitVec 8)) :
    (State.ferry s kind fields payload).start = s.start := by unfold State.ferry; split <;> rfl
@[simp] theorem State.ferry_nv (s : State) (kind : Nat) (fields : List Nat) (payload : List (BitVec 8)) :
    (State.ferry s kind fields payload).nv = s.nv := by unfold State.ferry; split <;> rfl
@[simp] theorem State.ferry_save (s : State) (kind : Nat) (fields : List Nat) (payload : List (BitVec 8)) :
    (State.ferry s kind fields payload).save = s.save := by unfold State.ferry; split <;> rfl
@[simp] theorem State.ferry_retained (s : State) (kind : Nat) (fields : List Nat) (payload : List (BitVec 8)) :
    (State.ferry s kind fields payload).retained = s.retained := by unfold State.ferry; split <;> rfl

@[simp] theorem State.dramPut_out (s : State) (c : Nat) (x : Nat) (d : Sector) : (State.dramPut s c x d).out = s.out := rfl
@[simp] theorem State.dramPut_draws (s : State) (c : Nat) (x : Nat) (d : Sector) :
    (State.dramPut s c x d).draws = s.draws := rfl
@[simp] theorem State.dramPut_tele (s : State) (c : Nat) (x : Nat) (d : Sector) :
    (State.dramPut s c x d).tele = s.tele := rfl
@[simp] theorem State.dramPut_regs (s : State) (c : Nat) (x : Nat) (d : Sector) :
    (State.dramPut s c x d).regs = s.regs := rfl
@[simp] theorem State.dramPut_tt (s : State) (c : Nat) (x : Nat) (d : Sector) : (State.dramPut s c x d).tt = s.tt := rfl
@[simp] theorem State.dramPut_xl (s : State) (c : Nat) (x : Nat) (d : Sector) : (State.dramPut s c x d).xl = s.xl := rfl
@[simp] theorem State.dramPut_cache (s : State) (c : Nat) (x : Nat) (d : Sector) :
    (State.dramPut s c x d).cache = s.cache := rfl
@[simp] theorem State.dramPut_media (s : State) (c : Nat) (x : Nat) (d : Sector) :
    (State.dramPut s c x d).media = s.media := rfl
@[simp] theorem State.dramPut_heads (s : State) (c : Nat) (x : Nat) (d : Sector) :
    (State.dramPut s c x d).heads = s.heads := rfl
@[simp] theorem State.dramPut_integ (s : State) (c : Nat) (x : Nat) (d : Sector) :
    (State.dramPut s c x d).integ = s.integ := rfl
@[simp] theorem State.dramPut_sec (s : State) (c : Nat) (x : Nat) (d : Sector) : (State.dramPut s c x d).sec = s.sec := rfl
@[simp] theorem State.dramPut_fry (s : State) (c : Nat) (x : Nat) (d : Sector) : (State.dramPut s c x d).fry = s.fry := rfl
@[simp] theorem State.dramPut_dram (s : State) (c : Nat) (x : Nat) (d : Sector) :
    (State.dramPut s c x d).dram = s.dram := rfl
@[simp] theorem State.dramPut_hps (s : State) (c : Nat) (x : Nat) (d : Sector) : (State.dramPut s c x d).hps = s.hps := rfl
@[simp] theorem State.dramPut_mbox (s : State) (c : Nat) (x : Nat) (d : Sector) :
    (State.dramPut s c x d).mbox = s.mbox := rfl
@[simp] theorem State.dramPut_mnt (s : State) (c : Nat) (x : Nat) (d : Sector) : (State.dramPut s c x d).mnt = s.mnt := rfl
@[simp] theorem State.dramPut_barge (s : State) (c : Nat) (x : Nat) (d : Sector) :
    (State.dramPut s c x d).barge = s.barge := rfl
@[simp] theorem State.dramPut_cen (s : State) (c : Nat) (x : Nat) (d : Sector) : (State.dramPut s c x d).cen = s.cen := rfl
@[simp] theorem State.dramPut_pst (s : State) (c : Nat) (x : Nat) (d : Sector) : (State.dramPut s c x d).pst = s.pst := rfl
@[simp] theorem State.dramPut_store (s : State) (c : Nat) (x : Nat) (d : Sector) :
    (State.dramPut s c x d).store = s.store := rfl
@[simp] theorem State.dramPut_fwStore (s : State) (c : Nat) (x : Nat) (d : Sector) :
    (State.dramPut s c x d).fwStore = s.fwStore := rfl
@[simp] theorem State.dramPut_pwr (s : State) (c : Nat) (x : Nat) (d : Sector) : (State.dramPut s c x d).pwr = s.pwr := rfl
@[simp] theorem State.dramPut_start (s : State) (c : Nat) (x : Nat) (d : Sector) :
    (State.dramPut s c x d).start = s.start := rfl
@[simp] theorem State.dramPut_nv (s : State) (c : Nat) (x : Nat) (d : Sector) : (State.dramPut s c x d).nv = s.nv := rfl
@[simp] theorem State.dramPut_save (s : State) (c : Nat) (x : Nat) (d : Sector) :
    (State.dramPut s c x d).save = s.save := rfl
@[simp] theorem State.dramPut_retained (s : State) (c : Nat) (x : Nat) (d : Sector) :
    (State.dramPut s c x d).retained = s.retained := rfl

@[simp] theorem State.touch_out (s : State) (set : Nat) (w : Nat) : (State.touch s set w).out = s.out := rfl
@[simp] theorem State.touch_draws (s : State) (set : Nat) (w : Nat) : (State.touch s set w).draws = s.draws := rfl
@[simp] theorem State.touch_tele (s : State) (set : Nat) (w : Nat) : (State.touch s set w).tele = s.tele := rfl
@[simp] theorem State.touch_regs (s : State) (set : Nat) (w : Nat) : (State.touch s set w).regs = s.regs := rfl
@[simp] theorem State.touch_tt (s : State) (set : Nat) (w : Nat) : (State.touch s set w).tt = s.tt := rfl
@[simp] theorem State.touch_xl (s : State) (set : Nat) (w : Nat) : (State.touch s set w).xl = s.xl := rfl
@[simp] theorem State.touch_media (s : State) (set : Nat) (w : Nat) : (State.touch s set w).media = s.media := rfl
@[simp] theorem State.touch_heads (s : State) (set : Nat) (w : Nat) : (State.touch s set w).heads = s.heads := rfl
@[simp] theorem State.touch_integ (s : State) (set : Nat) (w : Nat) : (State.touch s set w).integ = s.integ := rfl
@[simp] theorem State.touch_sec (s : State) (set : Nat) (w : Nat) : (State.touch s set w).sec = s.sec := rfl
@[simp] theorem State.touch_fry (s : State) (set : Nat) (w : Nat) : (State.touch s set w).fry = s.fry := rfl
@[simp] theorem State.touch_drcs (s : State) (set : Nat) (w : Nat) : (State.touch s set w).drcs = s.drcs := rfl
@[simp] theorem State.touch_dram (s : State) (set : Nat) (w : Nat) : (State.touch s set w).dram = s.dram := rfl
@[simp] theorem State.touch_hps (s : State) (set : Nat) (w : Nat) : (State.touch s set w).hps = s.hps := rfl
@[simp] theorem State.touch_mbox (s : State) (set : Nat) (w : Nat) : (State.touch s set w).mbox = s.mbox := rfl
@[simp] theorem State.touch_mnt (s : State) (set : Nat) (w : Nat) : (State.touch s set w).mnt = s.mnt := rfl
@[simp] theorem State.touch_barge (s : State) (set : Nat) (w : Nat) : (State.touch s set w).barge = s.barge := rfl
@[simp] theorem State.touch_cen (s : State) (set : Nat) (w : Nat) : (State.touch s set w).cen = s.cen := rfl
@[simp] theorem State.touch_pst (s : State) (set : Nat) (w : Nat) : (State.touch s set w).pst = s.pst := rfl
@[simp] theorem State.touch_store (s : State) (set : Nat) (w : Nat) : (State.touch s set w).store = s.store := rfl
@[simp] theorem State.touch_fwStore (s : State) (set : Nat) (w : Nat) : (State.touch s set w).fwStore = s.fwStore := rfl
@[simp] theorem State.touch_pwr (s : State) (set : Nat) (w : Nat) : (State.touch s set w).pwr = s.pwr := rfl
@[simp] theorem State.touch_start (s : State) (set : Nat) (w : Nat) : (State.touch s set w).start = s.start := rfl
@[simp] theorem State.touch_nv (s : State) (set : Nat) (w : Nat) : (State.touch s set w).nv = s.nv := rfl
@[simp] theorem State.touch_save (s : State) (set : Nat) (w : Nat) : (State.touch s set w).save = s.save := rfl
@[simp] theorem State.touch_retained (s : State) (set : Nat) (w : Nat) : (State.touch s set w).retained = s.retained := rfl

@[simp] theorem State.modEntry_out (s : State) (k : Nat) (f : Landing → Landing) : (State.modEntry s k f).out = s.out := rfl
@[simp] theorem State.modEntry_draws (s : State) (k : Nat) (f : Landing → Landing) :
    (State.modEntry s k f).draws = s.draws := rfl
@[simp] theorem State.modEntry_tele (s : State) (k : Nat) (f : Landing → Landing) :
    (State.modEntry s k f).tele = s.tele := rfl
@[simp] theorem State.modEntry_regs (s : State) (k : Nat) (f : Landing → Landing) :
    (State.modEntry s k f).regs = s.regs := rfl
@[simp] theorem State.modEntry_tt (s : State) (k : Nat) (f : Landing → Landing) : (State.modEntry s k f).tt = s.tt := rfl
@[simp] theorem State.modEntry_xl (s : State) (k : Nat) (f : Landing → Landing) : (State.modEntry s k f).xl = s.xl := rfl
@[simp] theorem State.modEntry_media (s : State) (k : Nat) (f : Landing → Landing) :
    (State.modEntry s k f).media = s.media := rfl
@[simp] theorem State.modEntry_heads (s : State) (k : Nat) (f : Landing → Landing) :
    (State.modEntry s k f).heads = s.heads := rfl
@[simp] theorem State.modEntry_integ (s : State) (k : Nat) (f : Landing → Landing) :
    (State.modEntry s k f).integ = s.integ := rfl
@[simp] theorem State.modEntry_sec (s : State) (k : Nat) (f : Landing → Landing) : (State.modEntry s k f).sec = s.sec := rfl
@[simp] theorem State.modEntry_fry (s : State) (k : Nat) (f : Landing → Landing) : (State.modEntry s k f).fry = s.fry := rfl
@[simp] theorem State.modEntry_drcs (s : State) (k : Nat) (f : Landing → Landing) :
    (State.modEntry s k f).drcs = s.drcs := rfl
@[simp] theorem State.modEntry_dram (s : State) (k : Nat) (f : Landing → Landing) :
    (State.modEntry s k f).dram = s.dram := rfl
@[simp] theorem State.modEntry_hps (s : State) (k : Nat) (f : Landing → Landing) : (State.modEntry s k f).hps = s.hps := rfl
@[simp] theorem State.modEntry_mbox (s : State) (k : Nat) (f : Landing → Landing) :
    (State.modEntry s k f).mbox = s.mbox := rfl
@[simp] theorem State.modEntry_mnt (s : State) (k : Nat) (f : Landing → Landing) : (State.modEntry s k f).mnt = s.mnt := rfl
@[simp] theorem State.modEntry_barge (s : State) (k : Nat) (f : Landing → Landing) :
    (State.modEntry s k f).barge = s.barge := rfl
@[simp] theorem State.modEntry_cen (s : State) (k : Nat) (f : Landing → Landing) : (State.modEntry s k f).cen = s.cen := rfl
@[simp] theorem State.modEntry_pst (s : State) (k : Nat) (f : Landing → Landing) : (State.modEntry s k f).pst = s.pst := rfl
@[simp] theorem State.modEntry_store (s : State) (k : Nat) (f : Landing → Landing) :
    (State.modEntry s k f).store = s.store := rfl
@[simp] theorem State.modEntry_fwStore (s : State) (k : Nat) (f : Landing → Landing) :
    (State.modEntry s k f).fwStore = s.fwStore := rfl
@[simp] theorem State.modEntry_pwr (s : State) (k : Nat) (f : Landing → Landing) : (State.modEntry s k f).pwr = s.pwr := rfl
@[simp] theorem State.modEntry_start (s : State) (k : Nat) (f : Landing → Landing) :
    (State.modEntry s k f).start = s.start := rfl
@[simp] theorem State.modEntry_nv (s : State) (k : Nat) (f : Landing → Landing) : (State.modEntry s k f).nv = s.nv := rfl
@[simp] theorem State.modEntry_save (s : State) (k : Nat) (f : Landing → Landing) :
    (State.modEntry s k f).save = s.save := rfl
@[simp] theorem State.modEntry_retained (s : State) (k : Nat) (f : Landing → Landing) :
    (State.modEntry s k f).retained = s.retained := rfl

/-! ### Reading back -/

@[simp] theorem State.getQ_setQ (s : State) (i : QueueId) (q : Queue) : (s.setQ i q).getQ i = q := by
  cases i <;> simp [State.setQ, State.getQ]

@[simp] theorem State.mch_modMch (s : State) (c : Nat) (f : Mch → Mch) : (s.modMch c f).mch c = f (s.mch c) := by
  simp [State.modMch, State.mch]

theorem State.mch_modMch_ne (s : State) {c d : Nat} (f : Mch → Mch) (h : d ≠ c) : (s.modMch c f).mch d = s.mch d := by
  simp [State.modMch, State.mch, Kv.getD_mod_ne _ _ _ _ h]

@[simp] theorem State.cs_modCs (s : State) (n : Nat) (f : Slice → Slice) : (s.modCs n f).cs n = f (s.cs n) := by
  simp [State.modCs, State.cs]

theorem State.cs_modCs_ne (s : State) {n k : Nat} (f : Slice → Slice) (h : k ≠ n) : (s.modCs n f).cs k = s.cs k := by
  simp [State.modCs, State.cs, Kv.getD_mod_ne _ _ _ _ h]

@[simp] theorem State.head_modHead (s : State) (h : Nat) (f : Head → Head) : (s.modHead h f).head h = f (s.head h) := by
  simp [State.modHead, State.head]

theorem State.head_modHead_ne (s : State) {h k : Nat} (f : Head → Head) (e : k ≠ h) : (s.modHead h f).head k = s.head k := by
  simp [State.modHead, State.head, Kv.getD_mod_ne _ _ _ _ e]

@[simp] theorem State.hp_modHp (s : State) (h : Nat) (f : Hp → Hp) : (s.modHp h f).hp h = f (s.hp h) := by
  simp [State.modHp, State.hp]

theorem State.hp_modHp_ne (s : State) {h k : Nat} (f : Hp → Hp) (e : k ≠ h) : (s.modHp h f).hp k = s.hp k := by
  simp [State.modHp, State.hp, Kv.getD_mod_ne _ _ _ _ e]

@[simp] theorem State.drc_modDrc (s : State) (c : Nat) (f : Drc → Drc) : (s.modDrc c f).drc c = f (s.drc c) := by
  simp [State.modDrc, State.drc]

@[simp] theorem State.sub_modSub (s : State) (c u : Nat) (f : DrcSub → DrcSub) :
    (s.modSub c u f).sub c u = f (s.sub c u) := by simp [State.modSub, State.sub]

@[simp] theorem State.brg_modBrg (s : State) (n : Nat) (f : BargeCh → BargeCh) : (s.modBrg n f).brg n = f (s.brg n) := by
  simp [State.modBrg, State.brg]

theorem State.brg_modBrg_ne (s : State) {n k : Nat} (f : BargeCh → BargeCh) (h : k ≠ n) :
    (s.modBrg n f).brg k = s.brg k := by simp [State.modBrg, State.brg, Kv.getD_mod_ne _ _ _ _ h]

@[simp] theorem State.district_modDistrict (s : State) (d : Nat) (f : District → District) :
    (s.modDistrict d f).district d = f (s.district d) := by simp [State.modDistrict, State.district]

@[simp] theorem State.keySlot_modKeySlot (s : State) (k : Nat) (f : KeySlot → KeySlot) :
    (s.modKeySlot k f).keySlot k = f (s.keySlot k) := by simp [State.modKeySlot, State.keySlot]

@[simp] theorem State.actW_setW (s : State) (b off : Nat) (w : Word) : (s.setW b off w).actW b off = w := by
  simp [State.setW, State.actW]

end Sys2Proof.Machine
end

