-- ==== Sys2Proof/Laws/Update.lean ====
section
/-!
SUPPORT. The updates of one field of State that stand beside the families that use them: each leaves every other field as it is.
-/
namespace Sys2Proof.Machine

@[simp] theorem State.modPort_out (s : State) (f : RangePort → RangePort) :
    (State.modPort s f).out = s.out := rfl
@[simp] theorem State.modPort_draws (s : State) (f : RangePort → RangePort) :
    (State.modPort s f).draws = s.draws := rfl
@[simp] theorem State.modPort_tele (s : State) (f : RangePort → RangePort) :
    (State.modPort s f).tele = s.tele := rfl
@[simp] theorem State.modPort_regs (s : State) (f : RangePort → RangePort) :
    (State.modPort s f).regs = s.regs := rfl
@[simp] theorem State.modPort_tt (s : State) (f : RangePort → RangePort) :
    (State.modPort s f).tt = s.tt := rfl
@[simp] theorem State.modPort_xl (s : State) (f : RangePort → RangePort) :
    (State.modPort s f).xl = s.xl := rfl
@[simp] theorem State.modPort_media (s : State) (f : RangePort → RangePort) :
    (State.modPort s f).media = s.media := rfl
@[simp] theorem State.modPort_heads (s : State) (f : RangePort → RangePort) :
    (State.modPort s f).heads = s.heads := rfl
@[simp] theorem State.modPort_integ (s : State) (f : RangePort → RangePort) :
    (State.modPort s f).integ = s.integ := rfl
@[simp] theorem State.modPort_sec (s : State) (f : RangePort → RangePort) :
    (State.modPort s f).sec = s.sec := rfl
@[simp] theorem State.modPort_fry (s : State) (f : RangePort → RangePort) :
    (State.modPort s f).fry = s.fry := rfl
@[simp] theorem State.modPort_drcs (s : State) (f : RangePort → RangePort) :
    (State.modPort s f).drcs = s.drcs := rfl
@[simp] theorem State.modPort_dram (s : State) (f : RangePort → RangePort) :
    (State.modPort s f).dram = s.dram := rfl
@[simp] theorem State.modPort_hps (s : State) (f : RangePort → RangePort) :
    (State.modPort s f).hps = s.hps := rfl
@[simp] theorem State.modPort_mbox (s : State) (f : RangePort → RangePort) :
    (State.modPort s f).mbox = s.mbox := rfl
@[simp] theorem State.modPort_mnt (s : State) (f : RangePort → RangePort) :
    (State.modPort s f).mnt = s.mnt := rfl
@[simp] theorem State.modPort_barge (s : State) (f : RangePort → RangePort) :
    (State.modPort s f).barge = s.barge := rfl
@[simp] theorem State.modPort_cen (s : State) (f : RangePort → RangePort) :
    (State.modPort s f).cen = s.cen := rfl
@[simp] theorem State.modPort_pst (s : State) (f : RangePort → RangePort) :
    (State.modPort s f).pst = s.pst := rfl
@[simp] theorem State.modPort_store (s : State) (f : RangePort → RangePort) :
    (State.modPort s f).store = s.store := rfl
@[simp] theorem State.modPort_fwStore (s : State) (f : RangePort → RangePort) :
    (State.modPort s f).fwStore = s.fwStore := rfl
@[simp] theorem State.modPort_pwr (s : State) (f : RangePort → RangePort) :
    (State.modPort s f).pwr = s.pwr := rfl
@[simp] theorem State.modPort_start (s : State) (f : RangePort → RangePort) :
    (State.modPort s f).start = s.start := rfl
@[simp] theorem State.modPort_nv (s : State) (f : RangePort → RangePort) :
    (State.modPort s f).nv = s.nv := rfl
@[simp] theorem State.modPort_save (s : State) (f : RangePort → RangePort) :
    (State.modPort s f).save = s.save := rfl
@[simp] theorem State.modPort_retained (s : State) (f : RangePort → RangePort) :
    (State.modPort s f).retained = s.retained := rfl

@[simp] theorem State.redirect_out (s : State) (psn t : Nat) :
    (State.redirect s psn t).out = s.out := rfl
@[simp] theorem State.redirect_draws (s : State) (psn t : Nat) :
    (State.redirect s psn t).draws = s.draws := rfl
@[simp] theorem State.redirect_tele (s : State) (psn t : Nat) :
    (State.redirect s psn t).tele = s.tele := rfl
@[simp] theorem State.redirect_regs (s : State) (psn t : Nat) :
    (State.redirect s psn t).regs = s.regs := rfl
@[simp] theorem State.redirect_tt (s : State) (psn t : Nat) :
    (State.redirect s psn t).tt = s.tt := rfl
@[simp] theorem State.redirect_cache (s : State) (psn t : Nat) :
    (State.redirect s psn t).cache = s.cache := rfl
@[simp] theorem State.redirect_media (s : State) (psn t : Nat) :
    (State.redirect s psn t).media = s.media := rfl
@[simp] theorem State.redirect_heads (s : State) (psn t : Nat) :
    (State.redirect s psn t).heads = s.heads := rfl
@[simp] theorem State.redirect_integ (s : State) (psn t : Nat) :
    (State.redirect s psn t).integ = s.integ := rfl
@[simp] theorem State.redirect_sec (s : State) (psn t : Nat) :
    (State.redirect s psn t).sec = s.sec := rfl
@[simp] theorem State.redirect_fry (s : State) (psn t : Nat) :
    (State.redirect s psn t).fry = s.fry := rfl
@[simp] theorem State.redirect_drcs (s : State) (psn t : Nat) :
    (State.redirect s psn t).drcs = s.drcs := rfl
@[simp] theorem State.redirect_dram (s : State) (psn t : Nat) :
    (State.redirect s psn t).dram = s.dram := rfl
@[simp] theorem State.redirect_hps (s : State) (psn t : Nat) :
    (State.redirect s psn t).hps = s.hps := rfl
@[simp] theorem State.redirect_mbox (s : State) (psn t : Nat) :
    (State.redirect s psn t).mbox = s.mbox := rfl
@[simp] theorem State.redirect_mnt (s : State) (psn t : Nat) :
    (State.redirect s psn t).mnt = s.mnt := rfl
@[simp] theorem State.redirect_barge (s : State) (psn t : Nat) :
    (State.redirect s psn t).barge = s.barge := rfl
@[simp] theorem State.redirect_cen (s : State) (psn t : Nat) :
    (State.redirect s psn t).cen = s.cen := rfl
@[simp] theorem State.redirect_pst (s : State) (psn t : Nat) :
    (State.redirect s psn t).pst = s.pst := rfl
@[simp] theorem State.redirect_store (s : State) (psn t : Nat) :
    (State.redirect s psn t).store = s.store := rfl
@[simp] theorem State.redirect_fwStore (s : State) (psn t : Nat) :
    (State.redirect s psn t).fwStore = s.fwStore := rfl
@[simp] theorem State.redirect_pwr (s : State) (psn t : Nat) :
    (State.redirect s psn t).pwr = s.pwr := rfl
@[simp] theorem State.redirect_start (s : State) (psn t : Nat) :
    (State.redirect s psn t).start = s.start := rfl
@[simp] theorem State.redirect_nv (s : State) (psn t : Nat) :
    (State.redirect s psn t).nv = s.nv := rfl
@[simp] theorem State.redirect_save (s : State) (psn t : Nat) :
    (State.redirect s psn t).save = s.save := rfl
@[simp] theorem State.redirect_retained (s : State) (psn t : Nat) :
    (State.redirect s psn t).retained = s.retained := rfl

@[simp] theorem State.settleRow_out (s : State) (psn : Nat) (cs : List Nat) (t : Nat) :
    (State.settleRow s psn cs t).out = s.out := rfl
@[simp] theorem State.settleRow_draws (s : State) (psn : Nat) (cs : List Nat) (t : Nat) :
    (State.settleRow s psn cs t).draws = s.draws := rfl
@[simp] theorem State.settleRow_tele (s : State) (psn : Nat) (cs : List Nat) (t : Nat) :
    (State.settleRow s psn cs t).tele = s.tele := rfl
@[simp] theorem State.settleRow_regs (s : State) (psn : Nat) (cs : List Nat) (t : Nat) :
    (State.settleRow s psn cs t).regs = s.regs := rfl
@[simp] theorem State.settleRow_tt (s : State) (psn : Nat) (cs : List Nat) (t : Nat) :
    (State.settleRow s psn cs t).tt = s.tt := rfl
@[simp] theorem State.settleRow_xl (s : State) (psn : Nat) (cs : List Nat) (t : Nat) :
    (State.settleRow s psn cs t).xl = s.xl := rfl
@[simp] theorem State.settleRow_cache (s : State) (psn : Nat) (cs : List Nat) (t : Nat) :
    (State.settleRow s psn cs t).cache = s.cache := rfl
@[simp] theorem State.settleRow_heads (s : State) (psn : Nat) (cs : List Nat) (t : Nat) :
    (State.settleRow s psn cs t).heads = s.heads := rfl
@[simp] theorem State.settleRow_integ (s : State) (psn : Nat) (cs : List Nat) (t : Nat) :
    (State.settleRow s psn cs t).integ = s.integ := rfl
@[simp] theorem State.settleRow_sec (s : State) (psn : Nat) (cs : List Nat) (t : Nat) :
    (State.settleRow s psn cs t).sec = s.sec := rfl
@[simp] theorem State.settleRow_fry (s : State) (psn : Nat) (cs : List Nat) (t : Nat) :
    (State.settleRow s psn cs t).fry = s.fry := rfl
@[simp] theorem State.settleRow_drcs (s : State) (psn : Nat) (cs : List Nat) (t : Nat) :
    (State.settleRow s psn cs t).drcs = s.drcs := rfl
@[simp] theorem State.settleRow_dram (s : State) (psn : Nat) (cs : List Nat) (t : Nat) :
    (State.settleRow s psn cs t).dram = s.dram := rfl
@[simp] theorem State.settleRow_hps (s : State) (psn : Nat) (cs : List Nat) (t : Nat) :
    (State.settleRow s psn cs t).hps = s.hps := rfl
@[simp] theorem State.settleRow_mbox (s : State) (psn : Nat) (cs : List Nat) (t : Nat) :
    (State.settleRow s psn cs t).mbox = s.mbox := rfl
@[simp] theorem State.settleRow_mnt (s : State) (psn : Nat) (cs : List Nat) (t : Nat) :
    (State.settleRow s psn cs t).mnt = s.mnt := rfl
@[simp] theorem State.settleRow_barge (s : State) (psn : Nat) (cs : List Nat) (t : Nat) :
    (State.settleRow s psn cs t).barge = s.barge := rfl
@[simp] theorem State.settleRow_cen (s : State) (psn : Nat) (cs : List Nat) (t : Nat) :
    (State.settleRow s psn cs t).cen = s.cen := rfl
@[simp] theorem State.settleRow_pst (s : State) (psn : Nat) (cs : List Nat) (t : Nat) :
    (State.settleRow s psn cs t).pst = s.pst := rfl
@[simp] theorem State.settleRow_store (s : State) (psn : Nat) (cs : List Nat) (t : Nat) :
    (State.settleRow s psn cs t).store = s.store := rfl
@[simp] theorem State.settleRow_fwStore (s : State) (psn : Nat) (cs : List Nat) (t : Nat) :
    (State.settleRow s psn cs t).fwStore = s.fwStore := rfl
@[simp] theorem State.settleRow_pwr (s : State) (psn : Nat) (cs : List Nat) (t : Nat) :
    (State.settleRow s psn cs t).pwr = s.pwr := rfl
@[simp] theorem State.settleRow_start (s : State) (psn : Nat) (cs : List Nat) (t : Nat) :
    (State.settleRow s psn cs t).start = s.start := rfl
@[simp] theorem State.settleRow_nv (s : State) (psn : Nat) (cs : List Nat) (t : Nat) :
    (State.settleRow s psn cs t).nv = s.nv := rfl
@[simp] theorem State.settleRow_save (s : State) (psn : Nat) (cs : List Nat) (t : Nat) :
    (State.settleRow s psn cs t).save = s.save := rfl
@[simp] theorem State.settleRow_retained (s : State) (psn : Nat) (cs : List Nat) (t : Nat) :
    (State.settleRow s psn cs t).retained = s.retained := rfl

@[simp] theorem State.dropReads_out (s : State) (u : ReadUse) :
    (State.dropReads s u).out = s.out := rfl
@[simp] theorem State.dropReads_draws (s : State) (u : ReadUse) :
    (State.dropReads s u).draws = s.draws := rfl
@[simp] theorem State.dropReads_tele (s : State) (u : ReadUse) :
    (State.dropReads s u).tele = s.tele := rfl
@[simp] theorem State.dropReads_regs (s : State) (u : ReadUse) :
    (State.dropReads s u).regs = s.regs := rfl
@[simp] theorem State.dropReads_tt (s : State) (u : ReadUse) :
    (State.dropReads s u).tt = s.tt := rfl
@[simp] theorem State.dropReads_xl (s : State) (u : ReadUse) :
    (State.dropReads s u).xl = s.xl := rfl
@[simp] theorem State.dropReads_cache (s : State) (u : ReadUse) :
    (State.dropReads s u).cache = s.cache := rfl
@[simp] theorem State.dropReads_heads (s : State) (u : ReadUse) :
    (State.dropReads s u).heads = s.heads := rfl
@[simp] theorem State.dropReads_integ (s : State) (u : ReadUse) :
    (State.dropReads s u).integ = s.integ := rfl
@[simp] theorem State.dropReads_sec (s : State) (u : ReadUse) :
    (State.dropReads s u).sec = s.sec := rfl
@[simp] theorem State.dropReads_fry (s : State) (u : ReadUse) :
    (State.dropReads s u).fry = s.fry := rfl
@[simp] theorem State.dropReads_drcs (s : State) (u : ReadUse) :
    (State.dropReads s u).drcs = s.drcs := rfl
@[simp] theorem State.dropReads_dram (s : State) (u : ReadUse) :
    (State.dropReads s u).dram = s.dram := rfl
@[simp] theorem State.dropReads_hps (s : State) (u : ReadUse) :
    (State.dropReads s u).hps = s.hps := rfl
@[simp] theorem State.dropReads_mbox (s : State) (u : ReadUse) :
    (State.dropReads s u).mbox = s.mbox := rfl
@[simp] theorem State.dropReads_mnt (s : State) (u : ReadUse) :
    (State.dropReads s u).mnt = s.mnt := rfl
@[simp] theorem State.dropReads_barge (s : State) (u : ReadUse) :
    (State.dropReads s u).barge = s.barge := rfl
@[simp] theorem State.dropReads_cen (s : State) (u : ReadUse) :
    (State.dropReads s u).cen = s.cen := rfl
@[simp] theorem State.dropReads_pst (s : State) (u : ReadUse) :
    (State.dropReads s u).pst = s.pst := rfl
@[simp] theorem State.dropReads_store (s : State) (u : ReadUse) :
    (State.dropReads s u).store = s.store := rfl
@[simp] theorem State.dropReads_fwStore (s : State) (u : ReadUse) :
    (State.dropReads s u).fwStore = s.fwStore := rfl
@[simp] theorem State.dropReads_pwr (s : State) (u : ReadUse) :
    (State.dropReads s u).pwr = s.pwr := rfl
@[simp] theorem State.dropReads_start (s : State) (u : ReadUse) :
    (State.dropReads s u).start = s.start := rfl
@[simp] theorem State.dropReads_nv (s : State) (u : ReadUse) :
    (State.dropReads s u).nv = s.nv := rfl
@[simp] theorem State.dropReads_save (s : State) (u : ReadUse) :
    (State.dropReads s u).save = s.save := rfl
@[simp] theorem State.dropReads_retained (s : State) (u : ReadUse) :
    (State.dropReads s u).retained = s.retained := rfl

@[simp] theorem State.passBegin_out (s : State) (region : Nat) :
    (State.passBegin s region).out = s.out := rfl
@[simp] theorem State.passBegin_draws (s : State) (region : Nat) :
    (State.passBegin s region).draws = s.draws := rfl
@[simp] theorem State.passBegin_tele (s : State) (region : Nat) :
    (State.passBegin s region).tele = s.tele := rfl
@[simp] theorem State.passBegin_regs (s : State) (region : Nat) :
    (State.passBegin s region).regs = s.regs := rfl
@[simp] theorem State.passBegin_tt (s : State) (region : Nat) :
    (State.passBegin s region).tt = s.tt := rfl
@[simp] theorem State.passBegin_xl (s : State) (region : Nat) :
    (State.passBegin s region).xl = s.xl := rfl
@[simp] theorem State.passBegin_cache (s : State) (region : Nat) :
    (State.passBegin s region).cache = s.cache := rfl
@[simp] theorem State.passBegin_media (s : State) (region : Nat) :
    (State.passBegin s region).media = s.media := rfl
@[simp] theorem State.passBegin_heads (s : State) (region : Nat) :
    (State.passBegin s region).heads = s.heads := rfl
@[simp] theorem State.passBegin_sec (s : State) (region : Nat) :
    (State.passBegin s region).sec = s.sec := rfl
@[simp] theorem State.passBegin_fry (s : State) (region : Nat) :
    (State.passBegin s region).fry = s.fry := rfl
@[simp] theorem State.passBegin_drcs (s : State) (region : Nat) :
    (State.passBegin s region).drcs = s.drcs := rfl
@[simp] theorem State.passBegin_dram (s : State) (region : Nat) :
    (State.passBegin s region).dram = s.dram := rfl
@[simp] theorem State.passBegin_hps (s : State) (region : Nat) :
    (State.passBegin s region).hps = s.hps := rfl
@[simp] theorem State.passBegin_mbox (s : State) (region : Nat) :
    (State.passBegin s region).mbox = s.mbox := rfl
@[simp] theorem State.passBegin_mnt (s : State) (region : Nat) :
    (State.passBegin s region).mnt = s.mnt := rfl
@[simp] theorem State.passBegin_barge (s : State) (region : Nat) :
    (State.passBegin s region).barge = s.barge := rfl
@[simp] theorem State.passBegin_cen (s : State) (region : Nat) :
    (State.passBegin s region).cen = s.cen := rfl
@[simp] theorem State.passBegin_pst (s : State) (region : Nat) :
    (State.passBegin s region).pst = s.pst := rfl
@[simp] theorem State.passBegin_store (s : State) (region : Nat) :
    (State.passBegin s region).store = s.store := rfl
@[simp] theorem State.passBegin_fwStore (s : State) (region : Nat) :
    (State.passBegin s region).fwStore = s.fwStore := rfl
@[simp] theorem State.passBegin_pwr (s : State) (region : Nat) :
    (State.passBegin s region).pwr = s.pwr := rfl
@[simp] theorem State.passBegin_start (s : State) (region : Nat) :
    (State.passBegin s region).start = s.start := rfl
@[simp] theorem State.passBegin_nv (s : State) (region : Nat) :
    (State.passBegin s region).nv = s.nv := rfl
@[simp] theorem State.passBegin_save (s : State) (region : Nat) :
    (State.passBegin s region).save = s.save := rfl
@[simp] theorem State.passBegin_retained (s : State) (region : Nat) :
    (State.passBegin s region).retained = s.retained := rfl

@[simp] theorem State.dramStore_out (s : State) (c x : Nat) (d : Sector) :
    (State.dramStore s c x d).out = s.out := by simp only [State.dramStore]
@[simp] theorem State.dramStore_draws (s : State) (c x : Nat) (d : Sector) :
    (State.dramStore s c x d).draws = s.draws := by simp only [State.dramStore]
@[simp] theorem State.dramStore_tele (s : State) (c x : Nat) (d : Sector) :
    (State.dramStore s c x d).tele = s.tele := by simp only [State.dramStore]
@[simp] theorem State.dramStore_regs (s : State) (c x : Nat) (d : Sector) :
    (State.dramStore s c x d).regs = s.regs := by simp only [State.dramStore]
@[simp] theorem State.dramStore_tt (s : State) (c x : Nat) (d : Sector) :
    (State.dramStore s c x d).tt = s.tt := by simp only [State.dramStore]
@[simp] theorem State.dramStore_xl (s : State) (c x : Nat) (d : Sector) :
    (State.dramStore s c x d).xl = s.xl := by simp only [State.dramStore]
@[simp] theorem State.dramStore_cache (s : State) (c x : Nat) (d : Sector) :
    (State.dramStore s c x d).cache = s.cache := by simp only [State.dramStore]
@[simp] theorem State.dramStore_media (s : State) (c x : Nat) (d : Sector) :
    (State.dramStore s c x d).media = s.media := by simp only [State.dramStore]
@[simp] theorem State.dramStore_heads (s : State) (c x : Nat) (d : Sector) :
    (State.dramStore s c x d).heads = s.heads := by simp only [State.dramStore]
@[simp] theorem State.dramStore_integ (s : State) (c x : Nat) (d : Sector) :
    (State.dramStore s c x d).integ = s.integ := by simp only [State.dramStore]
@[simp] theorem State.dramStore_sec (s : State) (c x : Nat) (d : Sector) :
    (State.dramStore s c x d).sec = s.sec := by simp only [State.dramStore]
@[simp] theorem State.dramStore_fry (s : State) (c x : Nat) (d : Sector) :
    (State.dramStore s c x d).fry = s.fry := by simp only [State.dramStore]
@[simp] theorem State.dramStore_drcs (s : State) (c x : Nat) (d : Sector) :
    (State.dramStore s c x d).drcs = s.drcs := by simp only [State.dramStore]
@[simp] theorem State.dramStore_hps (s : State) (c x : Nat) (d : Sector) :
    (State.dramStore s c x d).hps = s.hps := by simp only [State.dramStore]
@[simp] theorem State.dramStore_mbox (s : State) (c x : Nat) (d : Sector) :
    (State.dramStore s c x d).mbox = s.mbox := by simp only [State.dramStore]
@[simp] theorem State.dramStore_mnt (s : State) (c x : Nat) (d : Sector) :
    (State.dramStore s c x d).mnt = s.mnt := by simp only [State.dramStore]
@[simp] theorem State.dramStore_barge (s : State) (c x : Nat) (d : Sector) :
    (State.dramStore s c x d).barge = s.barge := by simp only [State.dramStore]
@[simp] theorem State.dramStore_cen (s : State) (c x : Nat) (d : Sector) :
    (State.dramStore s c x d).cen = s.cen := by simp only [State.dramStore]
@[simp] theorem State.dramStore_pst (s : State) (c x : Nat) (d : Sector) :
    (State.dramStore s c x d).pst = s.pst := by simp only [State.dramStore]
@[simp] theorem State.dramStore_store (s : State) (c x : Nat) (d : Sector) :
    (State.dramStore s c x d).store = s.store := by simp only [State.dramStore]
@[simp] theorem State.dramStore_fwStore (s : State) (c x : Nat) (d : Sector) :
    (State.dramStore s c x d).fwStore = s.fwStore := by simp only [State.dramStore]
@[simp] theorem State.dramStore_pwr (s : State) (c x : Nat) (d : Sector) :
    (State.dramStore s c x d).pwr = s.pwr := by simp only [State.dramStore]
@[simp] theorem State.dramStore_start (s : State) (c x : Nat) (d : Sector) :
    (State.dramStore s c x d).start = s.start := by simp only [State.dramStore]
@[simp] theorem State.dramStore_nv (s : State) (c x : Nat) (d : Sector) :
    (State.dramStore s c x d).nv = s.nv := by simp only [State.dramStore]
@[simp] theorem State.dramStore_save (s : State) (c x : Nat) (d : Sector) :
    (State.dramStore s c x d).save = s.save := by simp only [State.dramStore]
@[simp] theorem State.dramStore_retained (s : State) (c x : Nat) (d : Sector) :
    (State.dramStore s c x d).retained = s.retained := by simp only [State.dramStore]

@[simp] theorem State.boardTemp_out (s : State) (k : Nat) (t : Int) :
    (State.boardTemp s k t).out = s.out := rfl
@[simp] theorem State.boardTemp_draws (s : State) (k : Nat) (t : Int) :
    (State.boardTemp s k t).draws = s.draws := rfl
@[simp] theorem State.boardTemp_tele (s : State) (k : Nat) (t : Int) :
    (State.boardTemp s k t).tele = s.tele := rfl
@[simp] theorem State.boardTemp_regs (s : State) (k : Nat) (t : Int) :
    (State.boardTemp s k t).regs = s.regs := rfl
@[simp] theorem State.boardTemp_tt (s : State) (k : Nat) (t : Int) :
    (State.boardTemp s k t).tt = s.tt := rfl
@[simp] theorem State.boardTemp_xl (s : State) (k : Nat) (t : Int) :
    (State.boardTemp s k t).xl = s.xl := rfl
@[simp] theorem State.boardTemp_cache (s : State) (k : Nat) (t : Int) :
    (State.boardTemp s k t).cache = s.cache := rfl
@[simp] theorem State.boardTemp_media (s : State) (k : Nat) (t : Int) :
    (State.boardTemp s k t).media = s.media := rfl
@[simp] theorem State.boardTemp_heads (s : State) (k : Nat) (t : Int) :
    (State.boardTemp s k t).heads = s.heads := rfl
@[simp] theorem State.boardTemp_integ (s : State) (k : Nat) (t : Int) :
    (State.boardTemp s k t).integ = s.integ := rfl
@[simp] theorem State.boardTemp_sec (s : State) (k : Nat) (t : Int) :
    (State.boardTemp s k t).sec = s.sec := rfl
@[simp] theorem State.boardTemp_fry (s : State) (k : Nat) (t : Int) :
    (State.boardTemp s k t).fry = s.fry := rfl
@[simp] theorem State.boardTemp_drcs (s : State) (k : Nat) (t : Int) :
    (State.boardTemp s k t).drcs = s.drcs := rfl
@[simp] theorem State.boardTemp_dram (s : State) (k : Nat) (t : Int) :
    (State.boardTemp s k t).dram = s.dram := rfl
@[simp] theorem State.boardTemp_hps (s : State) (k : Nat) (t : Int) :
    (State.boardTemp s k t).hps = s.hps := rfl
@[simp] theorem State.boardTemp_mbox (s : State) (k : Nat) (t : Int) :
    (State.boardTemp s k t).mbox = s.mbox := rfl
@[simp] theorem State.boardTemp_mnt (s : State) (k : Nat) (t : Int) :
    (State.boardTemp s k t).mnt = s.mnt := rfl
@[simp] theorem State.boardTemp_barge (s : State) (k : Nat) (t : Int) :
    (State.boardTemp s k t).barge = s.barge := rfl
@[simp] theorem State.boardTemp_cen (s : State) (k : Nat) (t : Int) :
    (State.boardTemp s k t).cen = s.cen := rfl
@[simp] theorem State.boardTemp_pst (s : State) (k : Nat) (t : Int) :
    (State.boardTemp s k t).pst = s.pst := rfl
@[simp] theorem State.boardTemp_store (s : State) (k : Nat) (t : Int) :
    (State.boardTemp s k t).store = s.store := rfl
@[simp] theorem State.boardTemp_fwStore (s : State) (k : Nat) (t : Int) :
    (State.boardTemp s k t).fwStore = s.fwStore := rfl
@[simp] theorem State.boardTemp_start (s : State) (k : Nat) (t : Int) :
    (State.boardTemp s k t).start = s.start := rfl
@[simp] theorem State.boardTemp_nv (s : State) (k : Nat) (t : Int) :
    (State.boardTemp s k t).nv = s.nv := rfl
@[simp] theorem State.boardTemp_save (s : State) (k : Nat) (t : Int) :
    (State.boardTemp s k t).save = s.save := rfl
@[simp] theorem State.boardTemp_retained (s : State) (k : Nat) (t : Int) :
    (State.boardTemp s k t).retained = s.retained := rfl

@[simp] theorem State.censusLate_out (s : State) (old : Nat) :
    (State.censusLate s old).out = s.out := rfl
@[simp] theorem State.censusLate_draws (s : State) (old : Nat) :
    (State.censusLate s old).draws = s.draws := rfl
@[simp] theorem State.censusLate_tele (s : State) (old : Nat) :
    (State.censusLate s old).tele = s.tele := rfl
@[simp] theorem State.censusLate_regs (s : State) (old : Nat) :
    (State.censusLate s old).regs = s.regs := rfl
@[simp] theorem State.censusLate_tt (s : State) (old : Nat) :
    (State.censusLate s old).tt = s.tt := rfl
@[simp] theorem State.censusLate_xl (s : State) (old : Nat) :
    (State.censusLate s old).xl = s.xl := rfl
@[simp] theorem State.censusLate_cache (s : State) (old : Nat) :
    (State.censusLate s old).cache = s.cache := rfl
@[simp] theorem State.censusLate_media (s : State) (old : Nat) :
    (State.censusLate s old).media = s.media := rfl
@[simp] theorem State.censusLate_heads (s : State) (old : Nat) :
    (State.censusLate s old).heads = s.heads := rfl
@[simp] theorem State.censusLate_integ (s : State) (old : Nat) :
    (State.censusLate s old).integ = s.integ := rfl
@[simp] theorem State.censusLate_sec (s : State) (old : Nat) :
    (State.censusLate s old).sec = s.sec := rfl
@[simp] theorem State.censusLate_fry (s : State) (old : Nat) :
    (State.censusLate s old).fry = s.fry := rfl
@[simp] theorem State.censusLate_drcs (s : State) (old : Nat) :
    (State.censusLate s old).drcs = s.drcs := rfl
@[simp] theorem State.censusLate_dram (s : State) (old : Nat) :
    (State.censusLate s old).dram = s.dram := rfl
@[simp] theorem State.censusLate_hps (s : State) (old : Nat) :
    (State.censusLate s old).hps = s.hps := rfl
@[simp] theorem State.censusLate_mbox (s : State) (old : Nat) :
    (State.censusLate s old).mbox = s.mbox := rfl
@[simp] theorem State.censusLate_mnt (s : State) (old : Nat) :
    (State.censusLate s old).mnt = s.mnt := rfl
@[simp] theorem State.censusLate_barge (s : State) (old : Nat) :
    (State.censusLate s old).barge = s.barge := rfl
@[simp] theorem State.censusLate_pst (s : State) (old : Nat) :
    (State.censusLate s old).pst = s.pst := rfl
@[simp] theorem State.censusLate_store (s : State) (old : Nat) :
    (State.censusLate s old).store = s.store := rfl
@[simp] theorem State.censusLate_fwStore (s : State) (old : Nat) :
    (State.censusLate s old).fwStore = s.fwStore := rfl
@[simp] theorem State.censusLate_pwr (s : State) (old : Nat) :
    (State.censusLate s old).pwr = s.pwr := rfl
@[simp] theorem State.censusLate_start (s : State) (old : Nat) :
    (State.censusLate s old).start = s.start := rfl
@[simp] theorem State.censusLate_nv (s : State) (old : Nat) :
    (State.censusLate s old).nv = s.nv := rfl
@[simp] theorem State.censusLate_save (s : State) (old : Nat) :
    (State.censusLate s old).save = s.save := rfl
@[simp] theorem State.censusLate_retained (s : State) (old : Nat) :
    (State.censusLate s old).retained = s.retained := rfl

@[simp] theorem State.storeBegin_out (s : State) (cls a : Nat) (bs : List (BitVec 8)) :
    (State.storeBegin s cls a bs).out = s.out := rfl
@[simp] theorem State.storeBegin_draws (s : State) (cls a : Nat) (bs : List (BitVec 8)) :
    (State.storeBegin s cls a bs).draws = s.draws := rfl
@[simp] theorem State.storeBegin_tele (s : State) (cls a : Nat) (bs : List (BitVec 8)) :
    (State.storeBegin s cls a bs).tele = s.tele := rfl
@[simp] theorem State.storeBegin_regs (s : State) (cls a : Nat) (bs : List (BitVec 8)) :
    (State.storeBegin s cls a bs).regs = s.regs := rfl
@[simp] theorem State.storeBegin_tt (s : State) (cls a : Nat) (bs : List (BitVec 8)) :
    (State.storeBegin s cls a bs).tt = s.tt := rfl
@[simp] theorem State.storeBegin_xl (s : State) (cls a : Nat) (bs : List (BitVec 8)) :
    (State.storeBegin s cls a bs).xl = s.xl := rfl
@[simp] theorem State.storeBegin_cache (s : State) (cls a : Nat) (bs : List (BitVec 8)) :
    (State.storeBegin s cls a bs).cache = s.cache := rfl
@[simp] theorem State.storeBegin_media (s : State) (cls a : Nat) (bs : List (BitVec 8)) :
    (State.storeBegin s cls a bs).media = s.media := rfl
@[simp] theorem State.storeBegin_heads (s : State) (cls a : Nat) (bs : List (BitVec 8)) :
    (State.storeBegin s cls a bs).heads = s.heads := rfl
@[simp] theorem State.storeBegin_integ (s : State) (cls a : Nat) (bs : List (BitVec 8)) :
    (State.storeBegin s cls a bs).integ = s.integ := rfl
@[simp] theorem State.storeBegin_sec (s : State) (cls a : Nat) (bs : List (BitVec 8)) :
    (State.storeBegin s cls a bs).sec = s.sec := rfl
@[simp] theorem State.storeBegin_fry (s : State) (cls a : Nat) (bs : List (BitVec 8)) :
    (State.storeBegin s cls a bs).fry = s.fry := rfl
@[simp] theorem State.storeBegin_drcs (s : State) (cls a : Nat) (bs : List (BitVec 8)) :
    (State.storeBegin s cls a bs).drcs = s.drcs := rfl
@[simp] theorem State.storeBegin_dram (s : State) (cls a : Nat) (bs : List (BitVec 8)) :
    (State.storeBegin s cls a bs).dram = s.dram := rfl
@[simp] theorem State.storeBegin_hps (s : State) (cls a : Nat) (bs : List (BitVec 8)) :
    (State.storeBegin s cls a bs).hps = s.hps := rfl
@[simp] theorem State.storeBegin_mbox (s : State) (cls a : Nat) (bs : List (BitVec 8)) :
    (State.storeBegin s cls a bs).mbox = s.mbox := rfl
@[simp] theorem State.storeBegin_mnt (s : State) (cls a : Nat) (bs : List (BitVec 8)) :
    (State.storeBegin s cls a bs).mnt = s.mnt := rfl
@[simp] theorem State.storeBegin_barge (s : State) (cls a : Nat) (bs : List (BitVec 8)) :
    (State.storeBegin s cls a bs).barge = s.barge := rfl
@[simp] theorem State.storeBegin_cen (s : State) (cls a : Nat) (bs : List (BitVec 8)) :
    (State.storeBegin s cls a bs).cen = s.cen := rfl
@[simp] theorem State.storeBegin_fwStore (s : State) (cls a : Nat) (bs : List (BitVec 8)) :
    (State.storeBegin s cls a bs).fwStore = s.fwStore := rfl
@[simp] theorem State.storeBegin_pwr (s : State) (cls a : Nat) (bs : List (BitVec 8)) :
    (State.storeBegin s cls a bs).pwr = s.pwr := rfl
@[simp] theorem State.storeBegin_start (s : State) (cls a : Nat) (bs : List (BitVec 8)) :
    (State.storeBegin s cls a bs).start = s.start := rfl
@[simp] theorem State.storeBegin_nv (s : State) (cls a : Nat) (bs : List (BitVec 8)) :
    (State.storeBegin s cls a bs).nv = s.nv := rfl
@[simp] theorem State.storeBegin_save (s : State) (cls a : Nat) (bs : List (BitVec 8)) :
    (State.storeBegin s cls a bs).save = s.save := rfl
@[simp] theorem State.storeBegin_retained (s : State) (cls a : Nat) (bs : List (BitVec 8)) :
    (State.storeBegin s cls a bs).retained = s.retained := rfl

@[simp] theorem State.storeDrop_out (s : State) (cls : List Nat) :
    (State.storeDrop s cls).out = s.out := rfl
@[simp] theorem State.storeDrop_draws (s : State) (cls : List Nat) :
    (State.storeDrop s cls).draws = s.draws := rfl
@[simp] theorem State.storeDrop_tele (s : State) (cls : List Nat) :
    (State.storeDrop s cls).tele = s.tele := rfl
@[simp] theorem State.storeDrop_regs (s : State) (cls : List Nat) :
    (State.storeDrop s cls).regs = s.regs := rfl
@[simp] theorem State.storeDrop_tt (s : State) (cls : List Nat) :
    (State.storeDrop s cls).tt = s.tt := rfl
@[simp] theorem State.storeDrop_xl (s : State) (cls : List Nat) :
    (State.storeDrop s cls).xl = s.xl := rfl
@[simp] theorem State.storeDrop_cache (s : State) (cls : List Nat) :
    (State.storeDrop s cls).cache = s.cache := rfl
@[simp] theorem State.storeDrop_media (s : State) (cls : List Nat) :
    (State.storeDrop s cls).media = s.media := rfl
@[simp] theorem State.storeDrop_heads (s : State) (cls : List Nat) :
    (State.storeDrop s cls).heads = s.heads := rfl
@[simp] theorem State.storeDrop_integ (s : State) (cls : List Nat) :
    (State.storeDrop s cls).integ = s.integ := rfl
@[simp] theorem State.storeDrop_sec (s : State) (cls : List Nat) :
    (State.storeDrop s cls).sec = s.sec := rfl
@[simp] theorem State.storeDrop_fry (s : State) (cls : List Nat) :
    (State.storeDrop s cls).fry = s.fry := rfl
@[simp] theorem State.storeDrop_drcs (s : State) (cls : List Nat) :
    (State.storeDrop s cls).drcs = s.drcs := rfl
@[simp] theorem State.storeDrop_dram (s : State) (cls : List Nat) :
    (State.storeDrop s cls).dram = s.dram := rfl
@[simp] theorem State.storeDrop_hps (s : State) (cls : List Nat) :
    (State.storeDrop s cls).hps = s.hps := rfl
@[simp] theorem State.storeDrop_mbox (s : State) (cls : List Nat) :
    (State.storeDrop s cls).mbox = s.mbox := rfl
@[simp] theorem State.storeDrop_mnt (s : State) (cls : List Nat) :
    (State.storeDrop s cls).mnt = s.mnt := rfl
@[simp] theorem State.storeDrop_barge (s : State) (cls : List Nat) :
    (State.storeDrop s cls).barge = s.barge := rfl
@[simp] theorem State.storeDrop_cen (s : State) (cls : List Nat) :
    (State.storeDrop s cls).cen = s.cen := rfl
@[simp] theorem State.storeDrop_fwStore (s : State) (cls : List Nat) :
    (State.storeDrop s cls).fwStore = s.fwStore := rfl
@[simp] theorem State.storeDrop_pwr (s : State) (cls : List Nat) :
    (State.storeDrop s cls).pwr = s.pwr := rfl
@[simp] theorem State.storeDrop_start (s : State) (cls : List Nat) :
    (State.storeDrop s cls).start = s.start := rfl
@[simp] theorem State.storeDrop_nv (s : State) (cls : List Nat) :
    (State.storeDrop s cls).nv = s.nv := rfl
@[simp] theorem State.storeDrop_save (s : State) (cls : List Nat) :
    (State.storeDrop s cls).save = s.save := rfl
@[simp] theorem State.storeDrop_retained (s : State) (cls : List Nat) :
    (State.storeDrop s cls).retained = s.retained := rfl

@[simp] theorem State.storeCut_out (s : State) :
    (State.storeCut s).out = s.out := rfl
@[simp] theorem State.storeCut_tele (s : State) :
    (State.storeCut s).tele = s.tele := rfl
@[simp] theorem State.storeCut_regs (s : State) :
    (State.storeCut s).regs = s.regs := rfl
@[simp] theorem State.storeCut_tt (s : State) :
    (State.storeCut s).tt = s.tt := rfl
@[simp] theorem State.storeCut_xl (s : State) :
    (State.storeCut s).xl = s.xl := rfl
@[simp] theorem State.storeCut_cache (s : State) :
    (State.storeCut s).cache = s.cache := rfl
@[simp] theorem State.storeCut_media (s : State) :
    (State.storeCut s).media = s.media := rfl
@[simp] theorem State.storeCut_heads (s : State) :
    (State.storeCut s).heads = s.heads := rfl
@[simp] theorem State.storeCut_integ (s : State) :
    (State.storeCut s).integ = s.integ := rfl
@[simp] theorem State.storeCut_sec (s : State) :
    (State.storeCut s).sec = s.sec := rfl
@[simp] theorem State.storeCut_fry (s : State) :
    (State.storeCut s).fry = s.fry := rfl
@[simp] theorem State.storeCut_drcs (s : State) :
    (State.storeCut s).drcs = s.drcs := rfl
@[simp] theorem State.storeCut_dram (s : State) :
    (State.storeCut s).dram = s.dram := rfl
@[simp] theorem State.storeCut_hps (s : State) :
    (State.storeCut s).hps = s.hps := rfl
@[simp] theorem State.storeCut_mbox (s : State) :
    (State.storeCut s).mbox = s.mbox := rfl
@[simp] theorem State.storeCut_mnt (s : State) :
    (State.storeCut s).mnt = s.mnt := rfl
@[simp] theorem State.storeCut_barge (s : State) :
    (State.storeCut s).barge = s.barge := rfl
@[simp] theorem State.storeCut_cen (s : State) :
    (State.storeCut s).cen = s.cen := rfl
@[simp] theorem State.storeCut_fwStore (s : State) :
    (State.storeCut s).fwStore = s.fwStore := rfl
@[simp] theorem State.storeCut_pwr (s : State) :
    (State.storeCut s).pwr = s.pwr := rfl
@[simp] theorem State.storeCut_start (s : State) :
    (State.storeCut s).start = s.start := rfl
@[simp] theorem State.storeCut_nv (s : State) :
    (State.storeCut s).nv = s.nv := rfl
@[simp] theorem State.storeCut_save (s : State) :
    (State.storeCut s).save = s.save := rfl
@[simp] theorem State.storeCut_retained (s : State) :
    (State.storeCut s).retained = s.retained := rfl

@[simp] theorem State.modPort_port (s : State) (f : RangePort → RangePort) : (s.modPort f).cache.port = f s.cache.port := rfl
@[simp] theorem State.boardTemp_inlet (s : State) (t : Int) : (s.boardTemp 0 t).pwr.inlet = t := rfl
@[simp] theorem State.boardTemp_outlet (s : State) (t : Int) : (s.boardTemp 1 t).pwr.outlet = t := rfl
@[simp] theorem State.dropReads_reads (s : State) (u : ReadUse) :
    (s.dropReads u).media.reads = s.media.reads.filter fun m => m.use != u := rfl
@[simp] theorem State.dramStore_dram (s : State) (c x : Nat) (d : Sector) :
    (s.dramStore c x d).dram = Mem.setSector s.dram (dramAddr c x) ((s.dramCipher c x).enc d ^^^ (s.dramCipher c x).enc 0) := by simp only [State.dramStore]

end Sys2Proof.Machine
end

