-- ==== Sys2Proof/WellFormed.lean ====
section
/-!
DEFINITION. Which commands are well formed: each operand lies in the range the spec gives it (a block index of R596, a
channel, a slice, a landing entry, a beat of R22, a cycle of the frame, and so on). The meanings are total: they answer
operands outside these ranges too, and no statement needs well-formedness unless it says so.
-/
namespace Sys2Proof

/-- Every operand of the command lies in its range. -/
def Instr.wf : Instr → Bool
  | .registerWrite _ off size _ _ => decide (off < 16777216) && decide (0 < size) && decide (size ≤ 64)
  | .setAliasWrite _ off size _ _ => decide (off < 16777216) && decide (0 < size) && decide (size ≤ 64)
  | .clearAliasWrite _ off size _ _ => decide (off < 16777216) && decide (0 < size) && decide (size ≤ 64)
  | .toggleAliasWrite _ off size _ _ => decide (off < 16777216) && decide (0 < size) && decide (size ≤ 64)
  | .postedWrite _ off size _ _ => decide (off < 16777216) && decide (0 < size) && decide (size ≤ 64)
  | .postedWriteAccept block => decide (block < 54)
  | .postedWriteTimeout block => decide (block < 54)
  | .groupStrobe _ _ => true
  | .qpush _ _ _ size => decide (0 < size) && decide (size ≤ 64)
  | .qpushEnd _ _ _ size => decide (0 < size) && decide (size ≤ 64)
  | .qpop _ _ size => decide (0 < size) && decide (size ≤ 64)
  | .queueFlush _ _ => true
  | .cntLowRead _ block n => decide (block < 54) && decide (n < 8)
  | .ttFnLoRead _ => true
  | .counterWrap block n inc => decide (block < 54) && decide (n < 8) && decide (0 < inc)
  | .frameTick temps _ _ _ busiest =>
    temps.all (fun t => decide (t.1 < 18) && decide (t.2.1 < 8)) && decide (busiest < 9)
  | .crossingGrant cyc _ beat => decide (cyc < 1024) && decide (beat < 6)
  | .crossingLate cyc _ missing => decide (cyc < 1024) && missing.all (· < 18)
  | .crossingLaunch cyc _ => decide (cyc < 1024)
  | .planeWriteCompletion cyc _ mch _ => decide (cyc < 1024) && decide (mch < 18)
  | .writeLate cyc _ mch => decide (cyc < 1024) && decide (mch < 18)
  | .crossingCommit cyc _ => decide (cyc < 1024)
  | .landingEntryFree cyc slice entry => decide (cyc < 1024) && decide (slice < 16) && decide (entry < 512)
  | .readCommand cyc _ beat => decide (cyc < 1024) && decide (beat < 6)
  | .writeSuspend cyc _ mch => decide (cyc < 1024) && decide (mch < 18)
  | .writeResume cyc _ mch => decide (cyc < 1024) && decide (mch < 18)
  | .readTransfer cyc _ mch _ _ => decide (cyc < 1024) && decide (mch < 18)
  | .missingBeat cyc _ mch => decide (cyc < 1024) && decide (mch < 18)
  | .alternateReferenceRead cyc _ => decide (cyc < 1024)
  | .reconstructRead cyc _ => decide (cyc < 1024)
  | .altWindowEnd => true
  | .frameOverrun _ => true
  | .oscSwitch _ => true
  | .oscDisagree _ => true
  | .oscStandbyFail _ => true
  | .oscStandbyOk => true
  | .tickLost _ _ => true
  | .returnMain => true
  | .forceBackup => true
  | .translationProbe dpa => decide (dpa < 35184372088832)
  | .hdmDecoderCommit _ n _ _ _ _ _ _ => decide (n < 4)
  | .writeCounterWrap district => decide (district < 384)
  | .gapMove cyc district => decide (cyc < 1024) && decide (district < 384)
  | .districtCheckpoint _ => true
  | .stripeRetirement cyc => decide (cyc < 1024)
  | .berthRetirement cyc => decide (cyc < 1024)
  | .memrd cyc _ _ _ => decide (cyc < 1024)
  | .memwr cyc _ _ _ _ _ => decide (cyc < 1024)
  | .byteEnableWrite cyc _ _ _ _ _ _ => decide (cyc < 1024)
  | .commitPageRead cyc _ _ off => decide (cyc < 1024) && decide (off < 4096)
  | .requestAdmit cyc _ => decide (cyc < 1024)
  | .fillBlock cyc _ => decide (cyc < 1024)
  | .victimMoveDone cyc slice entry => decide (cyc < 1024) && decide (slice < 16) && decide (entry < 512)
  | .backgroundDestage cyc slice bad => decide (cyc < 1024) && decide (slice < 16) && bad.all fun b => decide (b.1 < 8)
  | .lockRange _ _ => true
  | .unlockRange _ _ => true
  | .cleanRange _ _ => true
  | .invalidateRange _ _ => true
  | .rangeDone => true
  | .dramChannelFailed ch cause sub dev =>
    decide (ch < 4) && decide (0 < cause) && decide (cause ≤ 3) && decide (sub < 2) && decide (dev < 5)
  | .cacheReconfig => true
  | .sliceRemoved slice => decide (slice < 16)
  | .sliceDrained slice => decide (slice < 16)
  | .dramDeviceErased ch sub dev cause =>
    decide (ch < 4) && decide (sub < 2) && decide (dev < 5) && decide (0 < cause) && decide (cause ≤ 2)
  | .dieFailed mch die cause => decide (mch < 18) && decide (die < 8) && decide (0 < cause)
  | .channelFailed mch cause => decide (mch < 18) && decide (cause < 2)
  | .rebuildStart die => decide (die < 8)
  | .rebuildStripe cyc die beat => decide (cyc < 1024) && decide (die < 8) && decide (beat < 6)
  | .rebuildDone die => decide (die < 8)
  | .correctiveRewrite cyc _ beat => decide (cyc < 1024) && decide (beat < 6)
  | .refreshOverdue mch _ => decide (mch < 18)
  | .sentinelRewrite => true
  | .mchTableCopy => true
  | .datapathRetried block _ _ _ _ _ => decide (block < 54)
  | .dramReadReturn cyc ch sub _ _ dev =>
    decide (cyc < 1024) && decide (ch < 4) && decide (sub < 2) && decide (dev < 5)
  | .dramWriteIssue cyc ch sub _ => decide (cyc < 1024) && decide (ch < 4) && decide (sub < 2)
  | .macWindowEnd => true
  | .peerRepaired cyc lpn block _ _ _ => decide (cyc < 1024) && decide (lpn < 6442450944) && decide (block < 16)
  | .sramSweepRead block _ _ _ _ _ _ _ _ _ => decide (block < 54)
  | .dramSweepRead cyc ch _ _ _ dev _ => decide (cyc < 1024) && decide (ch < 4) && decide (dev < 5)
  | .sweepMediaRead cyc mch => decide (cyc < 1024) && decide (mch < 18)
  | .sweepLogicalRead cyc region => decide (cyc < 1024) && decide (region ≤ 64)
  | .mgtCheckpoint pair => decide (pair < 2)
  | .mgtLockstep pair => decide (pair < 2)
  | .mgtTrap pair _ _ => decide (pair < 2)
  | .romRestartDone pair => decide (pair < 2)
  | .keyRekey _ _ _ => true
  | .keyFormat _ _ _ => true
  | .keyopStart => true
  | .repaverPassStart slot => decide (slot < 64)
  | .repaverPage cyc => decide (cyc < 1024)
  | .rekeyDone slot => decide (slot < 64)
  | .formatDone slot => decide (slot < 64)
  | .repaverBoundarySave => true
  | .secServiceRequest _ => true
  | .ideFail head set check => decide (head < 2) && decide (set < 2) && decide (check < 2)
  | .keyProg _ head stream set dir => decide (head < 2) && decide (stream < 3) && decide (set < 2) && decide (dir < 2)
  | .kSetGo _ head stream set dir => decide (head < 2) && decide (stream < 3) && decide (set < 2) && decide (dir < 2)
  | .kSetStop _ head stream set dir =>
    decide (head < 2) && decide (stream < 3) && decide (set < 2) && decide (dir < 2)
  | .ferryKeyUpdate => true
  | .engineKat engine _ => decide (engine < 10)
  | .entropyTestFail => true
  | .debugUnlock level key _ => decide (level < 4) && decide (key < 2)
  | .getVersion path => decide (path < 4)
  | .getCapabilities path => decide (path < 4)
  | .negotiateAlgorithms path _ => decide (path < 4)
  | .getDigests path => decide (path < 4)
  | .getCertificate path slot _ _ => decide (path < 4) && decide (slot < 8)
  | .spdmChallenge path slot => decide (path < 4) && decide (slot < 8)
  | .getMeasurements path index _ => decide (path < 4) && decide (index < 256)
  | .keyExchange path slot _ => decide (path < 4) && decide (slot < 8)
  | .spdmFinish path _ _ _ => decide (path < 4)
  | .spdmHeartbeat path _ => decide (path < 4)
  | .keyUpdate path _ => decide (path < 4)
  | .endSession path _ => decide (path < 4)
  | .getCsr path _ _ => decide (path < 4)
  | .setCertificate path _ slot _ => decide (path < 4) && decide (slot < 8)
  | .vendorDefinedRequest path _ opcode _ => decide (path < 4) && decide (opcode < 65536)
  | .getSecurityState _ => true
  | .setPassphrase _ _ _ _ => true
  | .disablePassphrase _ _ _ => true
  | .freezeSecurityState _ => true
  | .passphraseSecureErase _ _ _ => true
  | .sanitize _ => true
  | .secureErase _ => true
  | .eraseDone => true
  | .gpfPhase1 _ => true
  | .gpfPhase2 cyc _ => decide (cyc < 1024)
  | .gpfDone cyc _ _ => decide (cyc < 1024)
  | .flitReceive cyc _ _ _ _ _ _ _ _ _ => decide (cyc < 1024)
  | .linkRetrain cyc cause => decide (cyc < 1024) && decide (cause < 2)
  | .linkWidth width => decide (width ≤ 8)
  | .ferryLinkUp _ => true
  | .ferryLinkDown => true
  | .mirrorWrite cyc lpn sector data _ =>
    decide (cyc < 1024) && decide (lpn < 6442450944) && decide (sector < 64) && decide (0 < data.length) && decide (data.length ≤ 4)
  | .mirrorAck cyc _ => decide (cyc < 1024)
  | .bellMsg _ _ _ _ => true
  | .stateMsg cyc _ _ _ _ => decide (cyc < 1024)
  | .stateSend cyc => decide (cyc < 1024)
  | .heartbeatMsg cyc _ _ => decide (cyc < 1024)
  | .heartbeatSend cyc => decide (cyc < 1024)
  | .roleHandover _ => true
  | .roleAccept _ => true
  | .roleResign _ => true
  | .roleDepart _ => true
  | .roleDemoted _ => true
  | .fenceMsg claim _ _ _ _ _ _ _ _ _ => decide (claim < 4)
  | .silenceTimeout cyc => decide (cyc < 1024)
  | .handoverTimeout cyc => decide (cyc < 1024)
  | .resignDrainTimeout cyc => decide (cyc < 1024)
  | .resyncPageRequest cyc lpn _ => decide (cyc < 1024) && decide (lpn < 6442450944)
  | .resyncPageData cyc lpn data _ => decide (cyc < 1024) && decide (lpn < 6442450944) && decide (data.length = 64)
  | .resyncPageZero cyc lpn => decide (cyc < 1024) && decide (lpn < 6442450944)
  | .resyncPageBitmap cyc _ pages => decide (cyc < 1024) && pages.all (· < 32768)
  | .resyncPageDone cyc => decide (cyc < 1024)
  | .resyncPageSend cyc => decide (cyc < 1024)
  | .configAtFnPropose change id _ subject _ =>
    decide (0 < change) && decide (change ≤ 3) && decide (id < 256) && decide (subject < 64)
  | .configAtFnAck id => decide (id < 256)
  | .configAtFnRefuse id _ => decide (id < 256)
  | .configAtFnCancel id => decide (id < 256)
  | .configAtFnSync change _ subject _ => decide (0 < change) && decide (change ≤ 3) && decide (subject < 64)
  | .atFnCancelled => true
  | .bargeAtFnPropose ch _ _ _ _ => decide (ch < 4)
  | .bargeAtFnAck ch _ => decide (ch < 4)
  | .bargeAtFnRefuse ch _ _ => decide (ch < 4)
  | .bargeAtFnCancel ch _ => decide (ch < 4)
  | .bargeAtFnDone ch _ => decide (ch < 4)
  | .bargeAtFnHalted ch _ => decide (ch < 4)
  | .pairStatus _ _ => true
  | .pairPromote _ _ => true
  | .pairDemote _ _ => true
  | .pairHandover _ _ => true
  | .pairDetach _ _ => true
  | .pairAttach _ _ => true
  | .pairResyncRate _ _ => true
  | .dramRefreshDue cyc ch sub _ => decide (cyc < 1024) && decide (ch < 4) && decide (sub < 2)
  | .mr4Read ch _ _ _ => decide (ch < 4)
  | .actMitigation cyc ch sub bank row =>
    decide (cyc < 1024) && decide (ch < 4) && decide (sub < 2) && decide (bank < 32) && decide (row < 131072)
  | .rfm cyc ch sub bank _ _ => decide (cyc < 1024) && decide (ch < 4) && decide (sub < 2) && decide (bank < 32)
  | .actTableClear ch sub bank => decide (ch < 4) && decide (sub < 2) && decide (bank < 32)
  | .pageIdleExpiry cyc ch sub bank =>
    decide (cyc < 1024) && decide (ch < 4) && decide (sub < 2) && decide (bank < 32)
  | .selfRefreshEntry cyc ch sub => decide (cyc < 1024) && decide (ch < 4) && decide (sub < 2)
  | .selfRefreshExit cyc ch sub => decide (cyc < 1024) && decide (ch < 4) && decide (sub < 2)
  | .driftCheck ch _ _ => decide (ch < 4)
  | .dramRetrain ch _ sub _ _ _ _ => decide (ch < 4) && decide (sub < 2)
  | .retrainRetry ch => decide (ch < 4)
  | .actResumed activity => decide (0 < activity) && decide (activity ≤ 12)
  | .frequencyChange ch _ => decide (ch < 4)
  | .trainRun ch => decide (ch < 4)
  | .trainRunDone ch errs => decide (ch < 4) && errs.all (·.1 < 80)
  | .laneFailed _ lane cause _ => decide (lane < 16) && decide (cause < 2)
  | .widthChanged _ width _ _ => decide (width < 16)
  | .linkUp _ _ _ _ => true
  | .linkDown _ _ => true
  | .moorEntered _ _ => true
  | .moorWake _ _ => true
  | .doeRequest _ proto _ => decide (proto < 4)
  | .doeAbort _ => true
  | .mctpMessage kind _ => decide (kind < 3)
  | .bgCmdDone _ => true
  | .recordTake => true
  | .eventRingWrite _ => true
  | .censusWindowClose => true
  | .censusPublish => true
  | .recalibrate _ _ => true
  | .recalDone offs _ => offs.all (·.1 < 144)
  | .capacitorHealthTest => true
  | .bankTest _ _ _ => true
  | .bankMonitor cells _ _ => decide (cells.length = 4)
  | .moorRefreshWake => true
  | .bargeDoorbell _ _ => true
  | .descriptorStart ch => decide (ch < 4)
  | .bargeCopy cyc ch _ _ => decide (cyc < 1024) && decide (ch < 4)
  | .bargeFill cyc ch _ => decide (cyc < 1024) && decide (ch < 4)
  | .bargeZero cyc ch _ => decide (cyc < 1024) && decide (ch < 4)
  | .bargeCrc cyc ch _ => decide (cyc < 1024) && decide (ch < 4)
  | .bargeComplete ch => decide (ch < 4)
  | .bargeResume ch => decide (ch < 4)
  | .imageWindowOpen => true
  | .imageCheck => true
  | .imageCheckDone _ => true
  | .calWindowOpen => true
  | .calWindowClose => true
  | .storeWindowWrite _ off size _ _ => decide (off < 0x8000) && decide (0 < size) && decide (size ≤ 64)
  | .powerUp _ => true
  | .railFault rail _ => decide (rail < 17)
  | .powerUpRetry _ => true
  | .powerDown => true
  | .railWarn rail _ => decide (rail < 17)
  | .mainPowerLoss _ => true
  | .flushAbort _ => true
  | .idleEntry => true
  | .pwrReqMoored => true
  | .pwrReqOpen => true
  | .pwrReqOff => true
  | .mooredWake _ failed => failed.all (· < 96)
  | .slotPowerLimit _ => true
  | .powerClassSet _ _ => true
  | .thermalStep _ => true
  | .thermalTrip part ch die _ => decide (part < 2) && decide (ch < 18) && decide (die < 8)
  | .coldStart _ _ => true
  | .startupTimeout _ => true
  | .coldReset => true
  | .softReset _ page => decide (page < 256)
  | .perstAssert _ => true
  | .perstDeassert _ => true
  | .flr _ => true
  | .cxlReset _ => true
  | .pwrdisAssert => true
  | .pwrdisDeassert => true
  | .prsntHigh => true
  | .inputFault => true
  | .ferryPresChange _ => true
  | .smbclkLowTimeout => true
  | .identify _ => true
  | .identifyMemoryDevice _ => true
  | .getPartitionInfo _ => true
  | .getSupportedLogs _ => true
  | .getLog _ log _ _ => decide (log < 3)
  | .getTimestamp _ => true
  | .setTimestamp _ _ => true
  | .getEventRecords _ log => decide (log < 4)
  | .clearEventRecords _ log _ _ => decide (log < 4)
  | .getEventInterruptPolicy _ => true
  | .setEventInterruptPolicy _ policy => decide (policy.length = 4)
  | .getHealthInfo _ => true
  | .getAlertConfig _ => true
  | .setAlertConfig _ _ _ _ _ _ _ _ => true
  | .getShutdownState _ => true
  | .setShutdownState _ _ => true
  | .getPoisonList _ _ _ => true
  | .injectPoison cyc _ _ => decide (cyc < 1024)
  | .clearPoison cyc _ _ _ => decide (cyc < 1024)
  | .getScanMediaCapabilities _ _ _ => true
  | .scanMedia _ _ _ => true
  | .getScanMediaResults _ => true
  | .getFwInfo _ => true
  | .transferFw _ action _ _ _ => decide (action < 5)
  | .activateFw _ action _ => decide (action < 2)
  | .regRead _ _ => true
  | .regWrite _ _ => true
  | .regionSetAttr _ _ => true
  | .mapSelect _ _ => true
  | .censusCtrl _ _ => true
  | .passphraseUnlock _ _ => true
  | .prsntLow => true
  | .railInTolerance rail _ => decide (rail < 17)
  | .mediaPhyTrainingLost mch _ => decide (mch < 18)
  | .dramTrainingLost ch sub _ => decide (ch < 4) && decide (sub < 2)
  | .resyncBitmapCleared => true
  | .cpmuCounterOverflow _ n _ => decide (n < 4)

end Sys2Proof
end

