-- ==== Sys2Proof/Tests/Slice0.lean ====
section
/-!
SUPPORT. Tests: a state and operands that meet the hypotheses of every statement that has some, and an ill-formed command
for each check of well-formedness.
-/
namespace Sys2Proof
open Machine

theorem test_w_idle : State.reset.pending = [] := rfl

theorem test_w_memOk : State.reset.memOk := ⟨rfl, rfl, rfl⟩

/-- Every domain On: a block in service. -/
def liveState : State := { State.reset with pwr := { State.reset.pwr with domains := (List.range 96).map fun d => (d, 2) } }
theorem test_w_regwrite : liveState.bar2There .hp0 = true ∧ secBlocked .hp0 bTt 0x020 = false
    ∧ liveState.live bTt = true
    ∧ liveState.regWritable bTt 0x020 = true ∧ (regSpec (blkType bTt) 0x020).rp = 0 ∧ (regSpec (blkType bTt) 0x020).ws = 0
    ∧ (regSpec (blkType bTt) 0x020).rs ≠ 0 := by decide

theorem test_w_posted : liveState.live (bDrc 0) = true ∧ secBlocked .hp0 (bDrc 0) 0x020 = false
    ∧ liveState.regWritable (bDrc 0) 0x020 = true ∧ (regSpec (blkType (bDrc 0)) 0x020).rp ≠ 0
    ∧ (regSpec (blkType (bDrc 0)) 0x020).rs = 0 ∧ (regSpec (blkType (bDrc 0)) 0x020).ri = 0
    ∧ (regSpec (blkType (bDrc 0)) 0x020).ws = 0 ∧ liveState.bar2There .hp0 = true := by decide
/-- A write of DRC_REF_CTRL in flight. -/
def postedState : State := { liveState with regs := { liveState.regs with
  posted := [(40, { off := 0x280020, words := [(0x020, 5)], value := 5, size := 4, master := .hp0 })] } }
theorem test_w_accept : ∃ p, postedState.regs.posted.get? 40 = some p ∧ (p.words.map Prod.fst).Nodup
    ∧ ∀ w ∈ p.words, w.1 < 0x10000 := ⟨_, rfl, by decide, by decide⟩

theorem test_w_push : liveState.bar2There .hp0 = true ∧ liveState.live (qBlock (.descriptors 3)) = true
    ∧ secBlocked .hp0 (qBlock (.descriptors 3)) (qWin (.descriptors 3)) = false
    ∧ secBlocked .hp0 (qBlock (.descriptors 3)) (qWin (.descriptors 3) + 0x100) = false ∧ mayPush .hp0 (.descriptors 3) = true
    ∧ (liveState.getQ (.descriptors 3)).discard = false ∧ (liveState.getQ (.descriptors 3)).words.length < qCap (.descriptors 3) :=
  by decide
/-- Queues at their boundaries: one full, one discarding, one with a word, one with a word that fails its decode. -/
def queueState : State :=
  let w : QWord := { word := 7, endMark := true }
  (((liveState.setQ (.descriptors 0) { words := List.replicate 256 w }).setQ (.descriptors 1) { discard := true }).setQ
    (.completions 2) { words := [w] }).setQ (.completions 3) { words := [{ w with bad := true }] }
set_option maxRecDepth 4000 in
theorem test_w_full : queueState.live (qBlock (.descriptors 0)) = true ∧ (queueState.getQ (.descriptors 0)).discard = false
    ∧ (queueState.getQ (.descriptors 0)).words.length = qCap (.descriptors 0) := ⟨rfl, rfl, rfl⟩
theorem test_w_discard : queueState.live (qBlock (.descriptors 1)) = true ∧ (queueState.getQ (.descriptors 1)).discard = true :=
  ⟨rfl, rfl⟩
theorem test_w_pop : queueState.bar2There .hp0 = true ∧ queueState.live (qBlock (.completions 2)) = true
    ∧ secBlocked .hp0 (qBlock (.completions 2)) (qWin (.completions 2) + 0x200) = false ∧ mayPop .hp0 (.completions 2) = true
    ∧ (queueState.getQ (.completions 2)).words = [{ word := 7, endMark := true }]
    ∧ (queueState.getQ (.completions 1)).words = []
    ∧ (queueState.getQ (.completions 3)).words = [{ word := 7, endMark := true, bad := true }] :=
  ⟨rfl, rfl, rfl, rfl, rfl, rfl, rfl⟩
/-- The end of the ranges: SEC's queues, which only management pair A reaches from outside. -/
theorem test_w_secQueue : liveState.live (qBlock .secRequest) = true
    ∧ secBlocked .mgtA (qBlock .secRequest) (qWin .secRequest) = false
    ∧ secBlocked .mgtA (qBlock .secRequest) (qWin .secRequest + 0x100) = false ∧ mayPush .mgtA .secRequest = true
    ∧ secBlocked .mgtA (qBlock .secRequest) (qCtrl .secRequest) = false := by decide

theorem test_w_strobe : State.reset.regs.pendingGroups &&& 0xffff0000#32 = 0 := rfl

/-- A counter of TT one below its end, with OVF 0, and one of XL with OVF 1. -/
def wrapState : State := { liveState with tele := { liveState.tele with
  counters := [(8, { event := 1, enable := true, count := 2 ^ 48 - 1 }),
    (21 * 8 + 7, { event := 1, enable := true, count := 2 ^ 48 - 1, ovf := true })] } }
theorem test_w_wrap : wrapState.live bTt = true ∧ (wrapState.tele.counters.getD 8 {}).enable = true
    ∧ (wrapState.tele.counters.getD 8 {}).ovf = false ∧ 2 ^ 48 ≤ (wrapState.tele.counters.getD 8 {}).count + 1
    ∧ wrapState.live bXl = true ∧ (wrapState.tele.counters.getD 175 {}).enable = true
    ∧ (wrapState.tele.counters.getD 175 {}).ovf = true ∧ 2 ^ 48 ≤ (wrapState.tele.counters.getD 175 {}).count + 1
    ∧ wrapState.bar2There .hp0 = true := by decide

theorem test_w_osc : liveState.tt.standbyFailed = false
    ∧ ({ liveState.tt with backupOk := true }).okOf (oscOther { liveState.tt with backupOk := true }.src) = true
    ∧ OscCause.noEdge ≠ .forced ∧ (1 : BitVec 8) ≠ 0 := by decide
/-- Both references sound, and a standby that failed. -/
def oscState : State := { liveState with tt := { liveState.tt with mainOk := true, backupOk := true, standbyFailed := true } }
theorem test_w_standbyDown : ({ oscState.tt with backupOk := false } : Tt).okOf (oscOther .main) = false ∧ oscState.tt.src = .main := by decide
theorem test_w_standby : oscState.tt.standbyFailed = true ∧ oscState.tt.mainOk = true ∧ oscState.tt.backupOk = true
    ∧ oscState.tt.okOf (oscOther oscState.tt.src) = true := by decide

theorem test_w_range : liveState.cache.port.busy = false ∧ liveState.rangeCheck .unlock 0 userPages = 0
    ∧ liveState.rangeCheck .clean 1 userPages = 3 ∧ liveState.rangeCheck .invalidate 0 0 = 3
    ∧ ({ liveState with cache := { liveState.cache with port := { busy := true } } } : State).cache.port.busy = true := by decide
/-- CS0's port with an operation that has reached every set of its range. -/
def portState : State := { liveState with cache := { liveState.cache with
  port := { op := .clean, start := 0, count := 4, busy := true, next := 4, done := 4 }, ways := [(3, { lpn := 2, used := true, lock := true })] } }
theorem test_w_rangeDone : portState.rangeOver = true ∧ (portState.way 0 3).used = true ∧ (portState.way 0 3).lpn = 2 := by decide
/-- One dirty page in way 5 of set 0. -/
def dirtyState : State := { liveState with cache := { liveState.cache with
  ways := [(5, { lpn := 9, used := true, valid := 1, dirty := 1 })] } }
theorem test_w_clean : (dirtyState.cache.ways.filter fun p => p.2.used && p.2.lpn == 9)
      = [(0 * 8 + 5, { lpn := 9, used := true, valid := 1, dirty := 1 })]
    ∧ dirtyState.way 0 5 = { lpn := 9, used := true, valid := 1, dirty := 1 }
    ∧ (Way.isDirty { lpn := 9, used := true, valid := 1, dirty := 1 }) = true ∧ dirtyState.evictUsed (dirtyState.sliceOf 0) < 448
    ∧ dirtyState.landingUsed (dirtyState.sliceOf 0) < 512 ∧ dirtyState.rangeCheck .clean 9 1 = 0 := by decide

def destageState : State := { dirtyState with cache := { dirtyState.cache with slices := [(0, { destaging := true })] } }
theorem test_w_destage : destageState.way 0 5 = { lpn := 9, used := true, valid := 1, dirty := 1 }
    ∧ ((destageState.waysOf 0).filter fun p => p.2.isDirty) = [(0 * 8 + 5, { lpn := 9, used := true, valid := 1, dirty := 1 })]
    ∧ (∀ w' < 8, w' ≠ 5 → (destageState.way 0 w').isDirty = false) ∧ (destageState.cs 0).destaging = true
    ∧ (destageState.cs 0).removed = false ∧ destageState.lostSet 0 = false
    ∧ destageState.landingRoom (destageState.sliceOf 0) true = true ∧ liveState.waysOf 3 = [] := by decide
theorem test_w_slices : (liveState.cs 15).removed = false
    ∧ ({ liveState.integ with failedBlocks := [bCs 15] } : Integrity).failedBlocks.contains (bCs 15) = true
    ∧ ({ removed := true, draining := true } : Slice).removed = true ∧ liveState.waysOf 4 = [] ∧ liveState.landingUsed 4 = 0 := by decide

/-- A launched crossing of landing entry 0 whose channels have completed, and its Written entry. -/
def crossState : State := { liveState with
  media := { liveState.media with crossings := [{ id := 1, work := .landing 0, psn := 0, slot := 2, beat := 0, launched := true
                                                  cws := [(0, {}), (1, {})], done := [0, 1] }] }
  cache := { liveState.cache with landing := [(0, { st := .written, lpn := 3 }), (1, { st := .released, freeAt := 15 })] }
  tt := { liveState.tt with fn := 3 } }
theorem test_w_commit : ∃ x, (crossState.media.crossings.find? fun x => x.id == 1) = some x ∧ x.work = .landing 0
    ∧ x.launched = true ∧ (∀ c ∈ x.chans, c ∈ x.done) ∧ x.slot + 10 + x.kMax ≤ (crossState.at 0).now
    ∧ (crossState.entry 0 1).st = .released ∧ (crossState.entry 0 1).freeAt ≤ (crossState.at 0).now :=
  ⟨_, rfl, by decide⟩
/-- A crossing of slot 1 of frame 0, not launched, and one whose plane is late. -/
def lateState : State := { liveState with
  media := { liveState.media with crossings := [
    { id := 1, work := .landing 0, psn := 0, slot := 1, beat := 0, cws := [(0, {}), (17, {})] },
    { id := 2, work := .landing 1, psn := 8, slot := 0, beat := 5, launched := true, cws := [(17, {})] }] } }
theorem test_w_late : ∃ x, (lateState.media.crossings.find? fun x => x.id == 1) = some x ∧ x.work = .landing 0
    ∧ x.launched = false ∧ (lateState.at 60).inGuard = true ∧ (lateState.at 60).now + 1 = x.slot ∧ 17 ∈ x.chans
    ∧ (lateState.at 64).now = x.slot ∧ (lateState.at 60).tt.cyc % 64 = 60 ∧ (lateState.at 64).curBeat = x.beat ∧ lateState.sec.error = false := ⟨_, rfl, by decide⟩
theorem test_w_writeLate : ∃ x, (lateState.media.crossings.find? fun x => x.id == 2) = some x ∧ x.work = .landing 1
    ∧ x.launched = true ∧ (lateState.at 639).tt.cyc % 64 = 63 ∧ 17 ∈ x.chans ∧ 17 ∉ x.done
    ∧ (lateState.at 639).now = x.slot + 9 + x.k 17 := ⟨_, rfl, by decide⟩
/-- A full landing entry that is ready, and map words whose beats are all writes. -/
def readyState : State := { liveState with
  tt := { liveState.tt with maps := [List.replicate 16 0x555#16] }
  cache := { liveState.cache with landing := [(5, { st := .ready, lpn := 7 })] } }

theorem test_w_plane : ∃ x, (lateState.media.crossings.find? fun x => x.id == 2) = some x ∧ x.launched = true
    ∧ (lateState.at 636).inGuard = true ∧ 17 ∈ x.chans ∧ 17 ∉ x.done ∧ x.failed = []
    ∧ (lateState.at 636).now = x.slot + 9 + x.k 17 := ⟨_, rfl, by decide⟩
/-- A read of slot 1 that waits on the plane of the launched crossing. -/
def suspState : State := { lateState with media := { lateState.media with reads := [
  { id := 9, kind := .host, lpn := 0, block := 0, psn := 8, pos := 0, chans := [17], slot := 1, suspends := true }] } }
theorem test_w_suspend : ∃ x, (suspState.media.crossings.find? fun x => x.id == 2) = some x ∧ x.launched = true
    ∧ (suspState.at 63).inGuard = true ∧ (suspState.at 63).suspending 17 = false ∧ x.holds 17 ((suspState.at 63).now + 1) = true
    ∧ x.k 17 < 4 ∧ (suspState.at 63).suspendAsked 17 x.psn = true := ⟨_, rfl, by decide⟩
theorem test_w_resume : ∃ x : Crossing, ([{ id := 2, work := .landing 1, psn := 8, slot := 0, beat := 5, susp := [(17, 1)], suspended := [(17, 1)] }]
      : List Crossing).find? (fun x => x.id == 2) = some x ∧ x.suspended.get? 17 = some 1 ∧ (suspState.at 128).now = 1 + 1
    ∧ (suspState.at 128).tt.cyc % 64 = 0 :=
  ⟨_, rfl, by decide⟩

/-- Three reads of block 0 of page 0: one to command in slot 1, one whose codeword transfers in slot 1, and two that failed. -/
def ladderState : State := { liveState with
  media := { liveState.media with reads := [
  { id := 1, kind := .host, lpn := 0, block := 0, psn := 0, pos := 0, chans := [0], slot := 1 },
  { id := 2, kind := .host, lpn := 0, block := 0, psn := 0, pos := 0, chans := [0], slot := 0, beat := some 0 },
  { id := 3, kind := .host, lpn := 0, block := 0, psn := 0, pos := 0, chans := [0], slot := 0, bad := [0] },
  { id := 4, kind := .host, lpn := 0, block := 0, psn := 0, pos := 0, step := 2, chans := [0], slot := 0, bad := [0] }] }
  tt := { liveState.tt with maps := [List.replicate 16 0#16] } }
theorem test_w_command : ∃ m, ladderState.readOf 1 = some m ∧ m.use = .fill ∧ 0 = (ladderState.at 64).curBeat
    ∧ (ladderState.at 64).canCommand m 0 = true := ⟨_, rfl, by decide⟩
theorem test_w_transfer : ∃ m, ladderState.readOf 2 = some m ∧ m.step = 1 ∧ m.kind ≠ .maintenance ∧ m.block < 16
    ∧ m.lpn < userPages ∧ m.beat = some (ladderState.at 73).curBeat ∧ (ladderState.at 73).tt.cyc % 64 % 10 = 9
    ∧ 0 ∈ m.chans ∧ 0 ∉ m.got ∧ m.slot + 1 = (ladderState.at 73).now
    ∧ (ladderState.at 73).checkCw m.lpn m.block ((ladderState.at 73).cell 0 m.psn) 13 false = .good 0 0 :=
  ⟨_, rfl, rfl, by decide, by decide, by decide, rfl, rfl, by decide, by decide, rfl, rfl⟩
theorem test_w_alternate : ∃ m, ladderState.readOf 3 = some m ∧ m.step = 1 ∧ m.bad ≠ [] ∧ m.kind ≠ .maintenance
    ∧ m.chans = [0] ∧ (ladderState.at 60).inGuard = true
    ∧ (ladderState.at 60).takesRead m 0 ((ladderState.at 60).now + 1 + 1) = true := ⟨_, rfl, by decide⟩
set_option maxRecDepth 4000 in
theorem test_w_reconstruct : ∃ m, ladderState.readOf 4 = some m ∧ m.step = 2 ∧ m.bad ≠ [] ∧ m.kind ≠ .maintenance ∧ m.pos < 17
    ∧ (∀ q ∈ (List.range 17).filter (fun q => q != m.pos), (ladderState.at 60).missing m.psn q = false)
    ∧ (∀ q ∈ (List.range 17).filter (fun q => q != m.pos), (ladderState.at 60).takesRead m
        ((ladderState.at 60).assigned (dieOf m.psn) q) ((ladderState.at 60).now + 1 + 1) = true) :=
  ⟨_, rfl, by decide⟩

/-- Map 3 in force with maintenance beats, and a rewrite owed on channel 3. -/
def rewriteState : State := { liveState with
  media := { liveState.media with rewrites := [{ id := 7, kind := .corrective, mch := 3, psn := 8, cw := {} }] }
  tt := { liveState.tt with maps := [List.replicate 16 0xaaa#16] } }
theorem test_w_rewrite : ∃ w, (rewriteState.media.rewrites.find? fun w => w.id == 7) = some w
    ∧ (rewriteState.at 0).canRewrite w 0 = true := ⟨_, rfl, by decide⟩
theorem test_w_upkeep : liveState.tt.fn % 2 ^ 24 = 0 ∧ liveState.pwr.flush = none := by decide
/-- The last sentinel stripe due. -/
def internalState : State := { rewriteState with media := { liveState.media with internal := [(6442451711, [{}])] } }
theorem test_w_internal : internalState.media.internal.get? 6442451711 = some [{}]
    ∧ (∀ x ∈ internalState.media.crossings, x.work ≠ .internal 6442451711) ∧ (internalState.at 60).inGuard = true
    ∧ (internalState.at 60).maintStart 6442451711 ((internalState.at 60).now + 2) 5 = true := ⟨rfl, nofun, by decide, by decide⟩
/-- 60 days of FN with no band rewritten. -/
def oldState : State := { liveState with tt := { liveState.tt with fn := 60 * 21093750000 } }
theorem test_w_overdue : oldState.interval 17 219 < ((oldState.mch 17).bands.getD 219 {}).age oldState.tt.fn 219
    ∧ ((oldState.mch 17).bands.getD 219 {}).overdue = false := by decide

/-- Channel 16 at fault level 3; its link is up, that of channel 2 down since frame 0. -/
def failState : State := { liveState with
  integ := { liveState.integ with failedBlocks := [bMch 16] }
  media := { liveState.media with mchs := [(2, { phyLostAt := some 0 }), (16, { phyUp := true })] } }
theorem test_w_dieFailed : failState.role 0 7 < 17 ∧ failState.dieFails 0 7 2 = true
    ∧ failState.rebuildTarget 7 = none ∧ (failState.freeSpare 7).isSome = true := by decide
theorem test_w_channelFailed : (failState.mch 16).failed = false ∧ bMch 16 ∈ failState.integ.failedBlocks
    ∧ (failState.mch ((16 + 1) % 18)).failed = false ∧ (failState.mch 16).phyUp = true ∧ (failState.mch 2).phyLostAt = some 0 ∧ failState.tt.fn < 0 + 16 := by decide
/-- Die number 7 degraded already, and no spare left. -/
def degradedState : State := { liveState with media := { liveState.media with degraded := [(7, 4)] } }
theorem test_w_degraded : ∃ p ∈ degradedState.media.degraded, p.1 = 7 := by decide

/-- Die 3 of channel 5 failed, that of channel 17 a rebuild target at position 5: with no rebuild yet; with one at the margin; with one at its end. -/
def rebuildState (started : Bool) (boundary : Nat) (owed : Bool) : State := { liveState with
  media := { liveState.media with
    mchs := [(5, { roles := [(3, 31)] }), (17, { roles := [(3, 5)], rebuilding := [3], rebuild := [(3, boundary)] })]
    rebuilds := if started then [{ die := 3, pos := 5, dstMch := 17, start := 0 }] else []
    rewrites := if owed then [{ id := 7, kind := .rebuild 5, mch := 17, psn := 11, cw := {} }] else [] }
  tt := { liveState.tt with maps := [List.replicate 16 0xaaa#16] } }
theorem test_w_rebuildStart : (rebuildState false 3 false).rebuildTarget 3 = some 17 ∧ (rebuildState false 3 false).enginesRun = true
    ∧ ∀ r ∈ (rebuildState false 3 false).media.rebuilds, r.die ≠ 3 := by decide
set_option maxRecDepth 8000 in
theorem test_w_rebuildStripe : let s := rebuildState true 7375487483 false
    ∃ q, (s.media.rebuilds.find? fun q => q.die == 3) = some q ∧ s.enginesRun = true ∧ s.media.rewrites = [] ∧ s.media.reads = []
    ∧ skipMargin ((s.mch q.dstMch).rebuild.getD 3 3) ≤ lastPsn 3 ∧ (s.at 0).crossingOn 7375487483 = false
    ∧ (s.at 0).missing 7375487483 q.pos = true ∧ ∀ p < 17, p ≠ q.pos → (s.at 0).missing 7375487483 p = false :=
  ⟨_, rfl, by decide⟩
/-- The read of a stripe for the rebuild of die 3 has ended. -/
def rebuiltState : State := { rebuildState true 11 false with media := { (rebuildState true 11 false).media with
  reads := [{ id := 1, kind := .maintenance, use := .rebuild 3, lpn := 0, block := 5, psn := 11, pos := 5, step := 3, chans := [], slot := 0
              result := some (0, 0), word := some {} }] } }
theorem test_w_rebuilt : (∃ q, (rebuiltState.media.rebuilds.find? fun q => q.die == 3) = some q) ∧ rebuiltState.media.rewrites = []
    ∧ ∃ m, (rebuiltState.media.reads.filter fun x => x.use == .rebuild 3) = [m] ∧ m.result.isSome = true ∧ m.word = some {} :=
  ⟨⟨_, rfl⟩, rfl, _, rfl, rfl, rfl⟩
theorem test_w_rebuildOwed : let s := rebuildState true 11 true
    ∃ q w, (s.media.rebuilds.find? fun q => q.die == 3) = some q
    ∧ (s.media.rewrites.find? fun w => w.kind == .rebuild q.pos && dieOf w.psn == 3 && w.mch == q.dstMch) = some w
    ∧ (s.at 64).canRewrite w 0 = true := ⟨_, _, rfl, rfl, by decide⟩
theorem test_w_rebuildDone : ∃ q, ((rebuildState true 7375487491 false).media.rebuilds.find? fun q => q.die == 3) = some q
    ∧ lastPsn 3 < skipMargin (((rebuildState true 7375487491 false).mch q.dstMch).rebuild.getD 3 3) := ⟨_, rfl, by decide⟩

/-- DRAM channel 3 at fault level 3 and device 4 of its subchannel 1 corrected 16 times; another state drains it. -/
def dramState : State := { liveState with
  integ := { liveState.integ with failedBlocks := [bDrc 3] }
  drcs := [(3, { state := 3, subs := [(1, { corrFns := List.replicate 16 (4, 0) })] })] }
theorem test_w_dramFailed : (dramState.drc 3).failed = false ∧ bDrc 3 ∈ dramState.integ.failedBlocks ∧ dramState.joined = false
    ∧ (∀ u < 2, (dramState.sub 3 u).readQ = []) ∧ 3 ∈ dramState.cache.drams ∧ dramState.cache.drams.length = 4
    ∧ dramState.cache.drainDrams = [] ∧ dramState.erases 3 1 4 1 = true ∧ (dramState.sub 3 1).erased = none :=
  ⟨rfl, by decide, rfl, fun u h => by match u, h with | 0, _ => rfl | 1, _ => rfl, by decide, rfl, rfl, by decide, rfl⟩
/-- A clean and a dirty page in set 48, which lies on DRAM channel 3. -/
def dramPages : State := { dramState with cache := { dramState.cache with
  ways := [(384, { used := true, lpn := 5, valid := 1 }), (385, { used := true, lpn := 6, valid := 0xff, dirty := 0x10 })] } }
theorem test_w_dramPages : dramPages.setDram 48 = 3 ∧ (dramPages.way 48 0).used = true ∧ (dramPages.way 48 0).isDirty = false
    ∧ (dramPages.way 48 1).used = true ∧ (dramPages.way 48 1).isDirty = true ∧ (dramPages.way 48 1).dirtyBlocks = 0xf0 := by decide
/-- The drain of channel 3 has destaged everything. -/
def drainedState : State := { liveState with cache := { liveState.cache with
  drainDrams := [3], ways := [(384, { used := true, lpn := 5, valid := 1 })] } }
theorem test_w_reconfig : drainedState.draining = true ∧ (∀ p ∈ drainedState.cache.ways, p.2.isDirty = false)
    ∧ drainedState.tt.cyc = 0 := by decide

/-- DRAM channel 0 in service in a module in Idle: a held read, an open row, a full activation count, an owed interval. -/
def upkeepState : State := { liveState with
  pwr := { liveState.pwr with state := 3 }
  tt := { liveState.tt with fn := 1280 }
  drcs := [(0, { state := 3, subs := [(0, {
    readQ := [{ req := { id := 1, origin := .page, dpa := 0, kind := .read }, addr := 0, data := 0, poison := false, dirty := false }]
    openRows := [(2, (7, 0))], owed := 4, acts := [(2, [(0, { row := 7, count := 64 }), (1, { row := 8, count := 3 })])]
    rfm := [(2, 32)] }), (1, { owed := 1 })] }), (1, { state := 4, subs := [(0, { selfRefresh := true })] })
    , (2, { state := 3, subs := [(0, { forcedTill := 10 ^ 12, batch := 3 })] })] }
theorem test_w_refresh : (upkeepState.sub 0 0).selfRefresh = false ∧ (upkeepState.drc 0).state ≠ 0 ∧ (upkeepState.drc 0).state ≠ 7
    ∧ (upkeepState.sub 0 0).forcedTill ≤ (upkeepState.at 0).ns ∧ (upkeepState.sub 2 0).batch < 8
    ∧ (upkeepState.at 0).ns < (upkeepState.sub 2 0).forcedTill ∧ (upkeepState.drc 2).state = 3 ∧ (upkeepState.sub 2 0).selfRefresh = false
    ∧ (upkeepState.sub 0 0).readQ ≠ [] ∧ upkeepState.postponeMax 0 0 < (upkeepState.sub 0 0).owed + 1
    ∧ (upkeepState.sub 0 1).readQ = [] ∧ upkeepState.tt.fn % 32 = 0 ∧ (upkeepState.sub 0 1).hot = false := by decide
theorem test_w_guard : ((upkeepState.sub 0 0).acts.getD 2 []).find? (fun e => e.2.row == 7) = some (0, { row := 7, count := 64 })
    ∧ (upkeepState.sub 0 0).forcedTill ≤ (upkeepState.at 0).ns ∧ upkeepState.actThreshold 0 ≤ 64 ∧ 32 ≤ (upkeepState.sub 0 0).rfm.getD 2 0
    ∧ (upkeepState.sub 0 0).openRows.get? 2 = some (7, 0) ∧ 0 + upkeepState.regF (bDrc 0) 0x010 8 8 ≤ (upkeepState.at 0).ns := by decide
theorem test_w_selfRefresh : upkeepState.pwr.state = 3 ∧ (upkeepState.drc 0).state = 3 ∧ (upkeepState.sub 0 1).readQ = []
    ∧ (upkeepState.sub 0 1).selfRefresh = false
    ∧ (upkeepState.sub 0 1).idleSince + upkeepState.regF (bDrc 0) 0x010 16 8 * 100000 ≤ (upkeepState.at 0).ns
    ∧ (upkeepState.sub 1 0).selfRefresh = true ∧ upkeepState.tt.fn % 256 = 0 := by decide

/-- Channel 3 asked for and refused a retraining; channel 2 being retrained; a run on channel 2; activities 8 and 12 wait. -/
def retrainState : State := { liveState with
  mnt := { liveState.mnt with retrain := [3], retrainRefused := [3], waiting := [(8, 0), (12, 0)] }
  cache := { liveState.cache with retrainDrams := [] }
  drcs := [(2, { state := 6 }), (3, { state := 3, train := { busy := true } })] }
theorem test_w_retrain : 3 ∉ retrainState.cache.retrainDrams ∧ 3 ∈ retrainState.mnt.retrain
    ∧ retrainState.dirtyOn 3 ≤ retrainState.regF bMnt 0x028 0 21 ∧ retrainState.blocker 8 = none
    ∧ retrainState.tt.fn % 2 ^ 16 = 0 ∧ 3 ∈ retrainState.mnt.retrainRefused ∧ retrainState.mnt.waiting.get? 8 = some 0
    ∧ retrainState.mnt.waiting.get? 12 = some 0 ∧ retrainState.blocker 12 = none ∧ retrainState.pwr.flush = none
    ∧ retrainState.mnt.retrain = 3 :: [] ∧ (retrainState.drc 2).state = 6 ∧ (retrainState.drc 2).train.busy = false
    ∧ (retrainState.drc 3).train.busy = true := by decide
/-- Channel 2 out of service for a retraining, none of its pages dirty; a change to speed 1 has reached channel 0. -/
def trainingState : State := { liveState with
  cache := { liveState.cache with retrainDrams := [2] }
  mnt := { liveState.mnt with freqTarget := some 1 }
  drcs := [(0, { state := 3 }), (2, { state := 6 })] }
theorem test_w_trained : 2 ∈ trainingState.cache.retrainDrams ∧ trainingState.dirtyOn 2 = 0 := by decide
theorem test_w_trainedQueues : ∀ u < 2, (trainingState.sub 2 u).readQ = [] := fun u h => by match u, h with | 0, _ => rfl | 1, _ => rfl
/-- A change to speed 1 has reached channel 0. -/
def freqState : State := { trainingState with cache := liveState.cache }
theorem test_w_frequency : freqState.mnt.freqTarget = some 1 ∧ freqState.blocker 9 = none ∧ freqState.freqNext 1 = some 0
    ∧ freqState.mnt.waiting.has 9 = false := by decide

/-- DRAM channel 1: two held reads, one read once already, a queued write, and a page with a dirty sector. -/
def burstState : State :=
  let q (id : Nat) : HostReq := { id := id, origin := .host 0 9, dpa := 0, kind := .read }
  { liveState with
    drcs := [(1, { state := 3, subs := [(0, {
      readQ := [{ req := q 1, addr := 0, data := 5, poison := false, dirty := true },
        { req := q 2, addr := 64, data := 5, poison := true, dirty := true, retried := true }]
      writeQ := [] }), (1, { writeQ := [(64, 7)] })] })]
    hps := [(0, { inReset := false })]
    cache := { liveState.cache with ways := [(128, { used := true, lpn := 5, valid := 3, dirty := 2 })] } }
theorem test_w_burst : ∃ x y, ((burstState.sub 1 0).readQ.find? fun r => r.req.id == 1) = some x
    ∧ ((burstState.sub 1 0).readQ.find? fun r => r.req.id == 2) = some y ∧ x.req.origin = .host 0 9 ∧ x.req.mute = false
    ∧ x.retried = false ∧ y.req.origin = .host 0 9 ∧ y.req.mute = false ∧ y.retried = true ∧ y.dirty = true
    ∧ burstState.deaf 0 = false ∧ burstState.corrects 1 0 1 = true ∧ burstState.corrects 1 0 2 = false ∧ burstState.joined = false :=
  ⟨_, _, rfl, rfl, by decide⟩
theorem test_w_writeIssue : (burstState.sub 1 1).selfRefresh = false ∧ (burstState.sub 1 1).readQ = []
    ∧ ((burstState.sub 1 1).writeQ.find? fun p => p.1 == 64) = some (64, 7) ∧ (burstState.sub 1 1).openRows = [] ∧ burstState.memOk :=
  ⟨rfl, rfl, rfl, rfl, rfl, rfl, rfl⟩
theorem test_w_dramSweep : (burstState.drc 1).state = 3 ∧ (burstState.sub 1 (subOf 64)).selfRefresh = false
    ∧ burstState.pwr.state ≠ 4 ∧ burstState.corrects 1 (subOf 64) 2 = false ∧ burstState.placeOf 1 64 = some (16, 0, 1)
    ∧ burstState.placeOf 1 0 = some (16, 0, 0)
    ∧ (burstState.way 16 0).valid.getLsbD 1 = true ∧ (burstState.way 16 0).dirty.getLsbD 1 = true
    ∧ (burstState.way 16 0).valid.getLsbD 0 = true ∧ (burstState.way 16 0).dirty.getLsbD 0 = false ∧ burstState.joined = false := by
  decide

/-- Sweeps under way on channels 0 and 17, the latter at its last stripe; a region with class 3; a block waited for. -/
def sweepState : State := { liveState with
  media := { liveState.media with mchs := [(16, { roles := [(1, 31)] })], reads := [
    { id := 1, kind := .maintenance, use := .sweep 17, lpn := 0, block := 0, psn := sweepEnd, pos := 17, chans := [], slot := 0
      result := some (0, 0) },
    { id := 2, kind := .maintenance, use := .logical 1, lpn := 0, block := 0, psn := 0, pos := 0, chans := [], slot := 0
      result := some (0, 0) }] }
  integ := { liveState.integ with sweepPos := [(0, 1), (16, 1), (17, sweepEnd)], fromPeer := [5 * 16 + 3] }
  regs := { liveState.regs with active := [(regKey bXl 0x400, 0x18000), (regKey bXl 0x404, 0x300), (regKey bXl 0x410, 0x18001),
    (regKey bXl 0x414, 0x300)] }
  cache := { liveState.cache with
    ways := [(8, { used := true, lpn := 5, valid := 3, dirty := 2 })]
    landing := [(0, { st := .filling, lpn := 3, valid := 1 })] } }
theorem test_w_sweepMedia : sweepState.enginesRun = true ∧ sweepState.integ.sweepPos.getD 0 0 % 33554432 ≠ 0
    ∧ sweepState.integ.rewriting.contains 0 = false ∧ (∀ m ∈ sweepState.media.reads, m.use ≠ .sweep 0)
    ∧ sweepState.sweepSkips 0 (sweepState.integ.sweepPos.getD 0 0) = false
    ∧ sweepState.integ.sweepPos.getD 16 0 % 33554432 ≠ 0 ∧ (∀ m ∈ sweepState.media.reads, m.use ≠ .sweep 16)
    ∧ sweepState.sweepSkips 16 (sweepState.integ.sweepPos.getD 16 0) = true := by decide
theorem test_w_sweepTaken : ∃ m, (sweepState.media.reads.filter fun x => x.use == .sweep 17) = [m] ∧ m.result.isSome = true
    ∧ m.step ≠ 4 ∧ sweepState.integ.rewriting.contains 17 = false ∧ sweepEnd < skipMargin (m.psn + 1) := ⟨_, rfl, by decide⟩
theorem test_w_logical : sweepState.passRange 0 = some (0, gibPages) ∧ sweepState.integ.logicalNow < sweepState.logicalCap
    ∧ sweepState.passDue 0 = true ∧ sweepState.enginesRun = true ∧ sweepState.integ.logicalPos.getD 0 0 < gibPages
    ∧ (∀ m ∈ sweepState.media.reads, m.use ≠ .logical 0) := by decide
theorem test_w_logicalRead : sweepState.passRange 1 = some (gibPages, gibPages)
    ∧ (sweepState.media.reads.filter fun m => m.use == .logical 1) ≠ []
    ∧ ∀ m ∈ sweepState.media.reads.filter fun m => m.use == .logical 1,
        m.result.isSome = true ∧ m.step ≠ 4 ∧ m.erred = false := by decide
theorem test_w_tagLost : sweepState.live (bCs 0) = true ∧ sweepState.landingRoom (sweepState.sliceOf 1) true = true
    ∧ (sweepState.way 1 0).used = true ∧ sweepState.joined = false ∧ (sweepState.entry 0 0).busy = true
    ∧ (sweepState.entry 0 0).valid.getLsbD 0 = true ∧ 5 * 16 + 3 ∈ sweepState.integ.fromPeer ∧ sweepState.tt.fn % 2 ^ 20 = 0 := by decide

/-- A read and a write that wait, and a crossing not launched. -/
def pathState : State := { burstState with
  cache := { burstState.cache with waiting := [{ id := 1, origin := .host 0 9, dpa := 0, kind := .read },
    { id := 2, origin := .host 0 9, dpa := 4096, kind := .write }] }
  media := { burstState.media with crossings := [{ id := 1, work := .landing 0, psn := 0, slot := 1, beat := 0 }] }
  mbox := { burstState.mbox with bg := some (0, 0, 0) }
  integ := { burstState.integ with lockstepB := some 0 } }
theorem test_w_datapath : pathState.live (bCs 0) = true ∧ pathState.deaf 0 = false
    ∧ (pathState.cache.waiting.find? fun q => q.id == 1 && q.kind == .read).isSome = true
    ∧ (pathState.cache.waiting.find? fun q => q.id == 2 && q.kind != .read).isSome = true
    ∧ (pathState.media.crossings.find? fun x => x.id == 1 && !x.launched).isSome = true
    ∧ pathState.integ.lockstepB = some 0 ∧ pathState.uptimeUs ≤ 0 + 1000000 := by decide

theorem test_w_placement : ({} : District).start < distN ∧ ({} : District).gap ≤ distN ∧ (0 : Nat) < distN ∧ distN - 1 ≠ ({} : District).gap
    ∧ distN - 1 ≤ distN ∧ (0 : Nat) < 3 * 2 ^ 31 ∧ (383 : Nat) < 384 := by decide

/-- A district whose GAP is 0 and whose START is at its end, and one that waits at its 64th write with PENDING 15. -/
def gapState : State := { liveState with xl := { liveState.xl with
  districts := [(1, { gap := 0, start := distN - 1, pending := 2 }), (383, { wcount := 63, pending := 15, backlogged := true })] } }
theorem test_w_gap : (gapState.district 1).start < distN ∧ (gapState.district 1).gap = 0 ∧ 1 ≤ (gapState.district 0).gap
    ∧ (gapState.district 0).gap ≤ distN := by decide

/-- Stripe 8 and berth 2 wait for retirement; another state retires berth 2 at its last stripe. -/
def retireState : State := { gapState with xl := { gapState.xl with retireQ := [(true, 2), (false, 8)] } }
theorem test_w_xlate : 0 < (gapState.district 1).pending ∧ (gapState.district 1).frozen = false
    ∧ gapState.districtMoving 1 = false ∧ gapState.enginesRun = true ∧ gapState.copyFree 1 2 = true
    ∧ (gapState.at 0).crossingOn (gapState.remap (psnOf 1 ((gapState.district 1).next.1))) = false := by
  refine ⟨by decide, rfl, rfl, rfl, rfl, ?_⟩
  have r (c psn : Nat) : (gapState.at 0).rowReady c psn true = true := rfl
  simp only [State.crossingOn, r]
  simp [State.landingsOf, gapState, liveState, State.reset, State.at]
/-- Stripe 8 and berth 2 wait for retirement; another state retires berth 2 at its last stripe. -/
theorem test_w_retire : (retireState.xl.retireQ.find? fun e => !e.1) = some (false, 8)
    ∧ (retireState.xl.retireQ.find? fun e => e.1) = some (true, 2) ∧ retireState.xl.full = false ∧ retireState.stripesFull = false
    ∧ (berthTable retireState.xl.berths 2 (12616193 + retireState.xl.nextBerth)).length ≤ 65536
    ∧ retireState.xl.nextBerth < 1789056 ∧ retireState.xl.moves = [] ∧ retireState.enginesRun = true
    ∧ (retireState.at 0).crossingOn 8 = false
    ∧ retireState.xl.berth = none ∧ retireState.copyFree 8 6459228672 = true := by decide
theorem test_w_berth : let s : State := { retireState with xl := { retireState.xl with berth := some (2, 12616193), boundary := 511 } }
    s.enginesRun = true ∧ s.xl.boundary < 512 ∧ s.xl.moves = [] ∧ s.stripeMap (2 * 512 + 511) = none
    ∧ (s.at 0).crossingOn (2 * 512 + 511) = false ∧ s.copyFree (2 * 512 + 511) (12616193 * 512 + 511) = true := by decide
/-- A launched crossing of LPN 0 whose channels have completed, in a district at its 64th write. -/
def wrapped : State := { crossState with
  cache := { crossState.cache with landing := [(0, { st := .written, lpn := 0 })] }
  xl := { crossState.xl with districts := [((distOf 0).1, { wcount := 63, pending := 15, backlogged := true })] } }
def wrappedCross : Crossing := { id := 1, work := .landing 0, psn := 0, slot := 2, beat := 0, launched := true
                                 cws := [(0, {}), (1, {})], done := [0, 1] }
theorem test_w_wrapped_commits : wrapped.commitsIn (distOf 0).1 wrappedCross = true := by
  have l : wrapped.entryK 0 = { st := .written, lpn := 0 } := rfl
  have n : wrapped.now = 48 := rfl
  have c : wrappedCross.chans = [0, 1] := rfl
  have k : wrappedCross.kMax = 0 := rfl
  have w : wrappedCross.work = .landing 0 := rfl
  simp only [State.commitsIn, n, c, k, w, l]
  simp [wrappedCross]
theorem test_w_district (l : Nat) : (distOf l).1 < 384 := by
  simp only [distOf]
  generalize mixAll _ = p
  have a := p.1.isLt
  have b := p.2.isLt
  have m := Nat.mod_lt (l / 2 ^ 31 + (Config.mixG ((p.1.toNat * 2 ^ 15 + p.2.toNat) / 2 ^ 24)).val) (show 0 < 3 by decide)
  generalize (Config.mixG _).val = g at *
  omega
theorem test_w_wrapped : (distOf 0).1 < 384 ∧ (wrapped.district (distOf 0).1).wcount = 63
    ∧ ∃ x, (wrapped.media.crossings.find? fun x => wrapped.commitsIn (distOf 0).1 x) = some x ∧ x.work = .landing 0
        ∧ x.repeated = false := by
  refine ⟨test_w_district 0, ?_, ?_⟩
  · have d : wrapped.xl.districts = [((distOf 0).1, { wcount := 63, pending := 15, backlogged := true })] := rfl
    simp [State.district, d, Kv.getD, Kv.get?]
  · have c : wrapped.media.crossings = [wrappedCross] := rfl
    exact ⟨wrappedCross, by rw [c, List.find?_cons, test_w_wrapped_commits], rfl, rfl⟩
theorem test_w_hdm : liveState.hdmCause 0 0 0 0 1 256 0 = 1 ∧ liveState.hdmCause 0 0 0 1 1 256 98304 = 0 := by decide

/-- A configured module with a Crypto Officer session and one region of 1 GiB on key slot 5. -/
def keyState : State := { liveState with
  start := { liveState.start with mboxReady := true }
  pwr := { liveState.pwr with state := 2 }
  regs := { liveState.regs with active := [(regKey bXl 0x400, 0x18000), (regKey bXl 0x404, 0x50000)] }
  sec := { liveState.sec with drbgOk := true, sessions := [{ id := 9, path := 1, mutualAuth := true, co := true }] } }
theorem test_w_serves : Serves keyState .spdm := ⟨rfl, rfl, rfl, by decide, rfl, rfl⟩
theorem test_w_rekey : let p : List (BitVec 8) := [5, 0, 0, 0]
    p.length = 4 ∧ pnum p 0 1 = 5 ∧ pnum p 1 3 = 0 ∧ keyState.coSession 9 = true ∧ keyState.coSession 8 = false
    ∧ keyState.sec.erase = none ∧ keyState.pwr.state ≠ 4 ∧ (∀ p ∈ keyState.sec.slots, p.2.op = 0) ∧ keyState.sec.queue = [] := by decide
theorem test_w_rekeyTaken : keyState.keyOpCheck 5 false = 0 ∧ keyState.slotMirrored 5 = false ∧ keyState.keyOpCheck 6 false = 2 := by decide
/-- A format of slot 5 at the head of the queue; a page of it in the cache. -/
def keyQueueState : State := { keyState with
  sec := { keyState.sec with queue := [(5, true)] }
  cache := { keyState.cache with ways := [(8, { used := true, lpn := 7, valid := 1 })] } }
theorem test_w_keyop : keyQueueState.sec.queue = (5, true) :: [] ∧ (∀ p ∈ keyQueueState.sec.slots, p.2.op = 0)
    ∧ keyQueueState.blocker 6 = none ∧ keyQueueState.mnt.waiting.has 6 = false ∧ keyQueueState.sec.drbgOk = true
    ∧ keyQueueState.sec.error = false ∧ keyQueueState.pwr.flush = none ∧ keyQueueState.inSlot 5 (keyQueueState.way 1 0).lpn = true := by
  decide
/-- Slot 5 in a rekey that has reached its F0, before or in its pass. -/
def rekeyState (passing : Bool) (boundary : Nat) (newKey : Option Nat) : State := { keyState with
  sec := { keyState.sec with batch := 1, slots := [(5, { cur := 255, op := 1, f0 := 1048574, passing := passing, boundary := boundary, newKey := newKey })] }
  tt := { keyState.tt with fn := 1048576 } }
theorem test_w_generation : ((rekeyState false 0 (some 3)).keySlot 5).newKey = some 3
    ∧ ((rekeyState false 0 (some 3)).keySlot 5).f0 ≤ (rekeyState false 0 (some 3)).tt.fn
    ∧ (rekeyState false 0 none).keySlot 5 = { cur := 255, op := 1, f0 := 1048574 }
    ∧ (∀ p ∈ (rekeyState false 0 none).sec.slots, p.2.passing = false) := by decide
theorem test_w_page : (rekeyState true 7 none).passSlot = some 5 ∧ (rekeyState true 7 none).nextLpn 5 7 = some 7
    ∧ 0 < (rekeyState true 7 none).sec.batch ∧ (rekeyState true 7 none).media.rebuilds = []
    ∧ (rekeyState true 7 none).pwr.flush = none ∧ (rekeyState true 7 none).pwr.state ≠ 4
    ∧ (rekeyState true 7 none).xl.moves = [] ∧ (rekeyState true 7 none).media.reads = []
    ∧ (rekeyState true 7 none).tt.fn % 2 ^ 20 = 0 := by decide
/-- The read of page 7 has passed, with a codeword of an older generation. -/
def pageReadState : State := { rekeyState true 7 none with media := { (rekeyState true 7 none).media with
  reads := [{ id := 1, kind := .maintenance, use := .repave 7, lpn := 7, block := 0, psn := 0, pos := 0, chans := [], slot := 0
              result := some (0, 0), word := some { gen := 254 } }] } }
theorem test_w_pageRead : pageReadState.passSlot = some 5 ∧ pageReadState.nextLpn 5 (pageReadState.keySlot 5).boundary = some 7
    ∧ pageReadState.pwr.flush = none ∧ ∃ m, (pageReadState.media.reads.filter fun m => m.use == .repave 7) = [m]
    ∧ m.result.isSome = true ∧ m.step ≠ 4 ∧ m.word = some { gen := 254 } :=
  ⟨by decide, by decide, rfl, _, rfl, rfl, by decide, rfl⟩
theorem test_w_pageRoom : (rekeyState true 7 none).landingRoom ((rekeyState true 7 none).sliceOf ((rekeyState true 7 none).setOf 7)) true = true := by
  have h (n : Nat) : (rekeyState true 7 none).landingUsed n = 0 ∧ (rekeyState true 7 none).evictUsed n = 0 := ⟨rfl, rfl⟩
  simp [State.landingRoom, h]
theorem test_w_passEnded : (rekeyState true userPages none).passEnded 5 = true := by decide

/-- A session, a key set programmed and active on head 1, engine 7 out of service, a ferry session that owes its first update. -/
def linkKeyState : State := { keyState with
  fry := { keyState.fry with role := .lead }
  sec := { keyState.sec with
    ide := [(8, { prog1 := true, active := some true })], enginesBad := [7], ferrySession := true, ferryTx := 2 ^ 36 } }
theorem test_w_linkKeys : linkKeyState.ideOk 1 0 0 = true ∧ (∃ x ∈ linkKeyState.sec.sessions, x.id = 9)
    ∧ (linkKeyState.sec.ide.getD 8 {}).prog1 = true ∧ (linkKeyState.sec.ide.getD (1 * 8) {}).active.isSome = true
    ∧ linkKeyState.sec.ferrySession = true ∧ linkKeyState.isLead = true
    ∧ 2 ^ 36 * (linkKeyState.sec.ferryUpdates + 1) ≤ max linkKeyState.sec.ferryTx linkKeyState.sec.ferryRx
    ∧ 6 ∉ linkKeyState.sec.enginesBad ∧ (6 ^^^ 1) ∈ linkKeyState.sec.enginesBad ∧ linkKeyState.sec.error = false
    ∧ 0 ∉ linkKeyState.sec.enginesBad ∧ (0 ^^^ 1) ∉ linkKeyState.sec.enginesBad ∧ linkKeyState.sec.drbgOk = true
    ∧ linkKeyState.live bSec = true ∧ linkKeyState.sec.reqQ = {} ∧ linkKeyState.sec.respQ = {} := by decide

/-- Both passphrases set; locked or not; four failed attempts or five. -/
def passState (locked : Bool) (tries : Nat) : State := { keyState with
  start := { keyState.start with mboxReady := true }
  sec := { keyState.sec with
    pass := { user := some 5, master := some 6, locked := locked, attemptsUser := tries }, erase := some 0
    slots := [(0, { op := 2, f0 := 1 })] } }
theorem test_w_pass : Serves (passState false 4) .mboxHp0 ∧ (passState false 4).sec.pass.locked = false
    ∧ (passState false 4).sec.pass.frozen = false ∧ (passState false 4).sec.drbgOk = true
    ∧ (passState false 4).sec.pass.attemptsUser < 5 ∧ (passState false 4).sec.pass.user = some 5 ∧ (5 : BitVec 256) ≠ 6 :=
  ⟨⟨rfl, rfl, rfl, by decide, rfl, rfl⟩, rfl, rfl, rfl, by decide, rfl, by decide⟩
theorem test_w_locked : Serves (passState true 5) .mctp ∧ (passState true 5).sec.pass.locked = true
    ∧ 5 ≤ (passState true 5).sec.pass.attemptsUser ∧ (passState true 4).sec.pass.attemptsUser < 5 :=
  ⟨⟨rfl, rfl, rfl, by decide, rfl, rfl⟩, rfl, by decide, by decide⟩
theorem test_w_erase : (passState false 0).sec.error = false ∧ (passState false 0).mbox.bg = none ∧ (passState false 0).pwr.state ≠ 4
    ∧ (passState false 0).sec.pass.master = some 6 ∧ (passState false 0).sec.pass.attemptsMaster < 5
    ∧ (passState false 0).sec.erase = some 0 ∧ (passState false 0).eraseEnds 0 = true
    ∧ keyState.blocker 12 = none := ⟨rfl, rfl, by decide, rfl, by decide, rfl, rfl, rfl⟩
theorem test_w_eraseBarge (n : Nat) : ((passState false 0).brg n).cur = none := rfl

/-- A negotiated MCTP connection with an officer's session and a plain one, and a chain in slot 1. -/
def spdmState (handshake : Option (Nat × Bool)) : State := { keyState with
  sec := { keyState.sec with
    conns := [(2, { version := true, caps := true, algs := true, handshake := handshake }), (3, { version := true })]
    sessions := [{ id := 9, path := 2, mutualAuth := true, co := true }, { id := 8, path := 2, mutualAuth := false, co := false }]
    certSlot1 := [1, 2] }
  fry := { keyState.fry with rate := 2 } }
theorem test_w_spdm : (spdmState none).spdmUp 2 = true ∧ (spdmState none).integ.romA = false ∧ ((spdmState none).conn 2).up = true
    ∧ (spdmState none).hasChain 1 = true ∧ 1 < ((spdmState none).chain 1).length ∧ (spdmState none).sec.drbgOk = true
    ∧ (spdmState none).sessionsOf (2 == 3) < 4 ∧ ((spdmState none).conn 2).handshake = none
    ∧ (spdmState none).spdmUp 3 = true ∧ ((spdmState none).conn 3).caps = false ∧ ((spdmState none).conn 1).version = false := by decide
theorem test_w_session : ((spdmState none).spdmSession 2 9).isSome = true ∧ (spdmState none).coSession 9 = true
    ∧ ((spdmState none).spdmSession 2 8).isSome = true ∧ (spdmState none).coSession 8 = false
    ∧ ((spdmState (some (4, true))).conn 2).handshake = some (4, true)
    ∧ (spdmState none).keyOpCheck 5 false = 0 ∧ (spdmState none).slotMirrored 5 = false := by decide
theorem test_w_spdmServes : Serves (spdmState none) .spdm := ⟨rfl, rfl, rfl, by decide, rfl, rfl⟩

/-- Head 0 alone is used, out of reset, at 32 GT/s x16; PWR is Open, or waits for Moored. -/
def linkState (moor : Bool) : State := { liveState with
  hps := [(0, { inReset := false, rate := 4, width := 16 })], pwr := { liveState.pwr with state := 2, mooring := moor } }
theorem test_w_link : (linkState false).headUsed 0 = true ∧ ((linkState false).hp 0).inReset = false
    ∧ (linkState false).headLanes 0 = (0, 16) ∧ ((linkState false).hp 0).laneFail.getLsbD 15 = false
    ∧ (linkState false).regF (bHp 0) 0x01c 0 16 < 70000 ∧ ((linkState false).hp 0).moor = 0
    ∧ ((linkState false).hp 0).rate ≠ 0 ∧ 8 < ((linkState false).hp 0).width ∧ (8 : Nat) ∈ [1, 2, 4, 8] := by decide
/-- Lane 9 has failed: an L0p reduction leaves x8. -/
def laneState : State := { linkState false with hps := [(0, { inReset := false, rate := 4, width := 16, laneFail := 0x200 })] }
theorem test_w_l0p : laneState.l0pWidth 0 = 8 ∧ laneState.headUsed 0 = true ∧ (laneState.hp 0).rate ≠ 0 ∧ (laneState.hp 0).moor = 0
    ∧ 8 < (laneState.hp 0).width ∧ (8 : Nat) ∈ [1, 2, 4, 8] ∧ (16 : Nat) ∈ [1, 2, 4, 8, 16]
    ∧ 16 ≤ (laneState.headLanes 0).2 ∧ (laneState.hp 0).inReset = false := by decide
theorem test_w_mooring : (linkState true).pwr.mooring = true ∧ (linkState true).pwr.state = 2
    ∧ (∀ l ∈ (linkState true).cache.landing, l.2.st = .free) ∧ (linkState true).headDrained 0 = true
    ∧ ∀ k < 2, k ≠ 0 → (linkState true).headUsed k = true → ((linkState true).hp k).moor = 2 := by decide
/-- Two heads; head 1 still runs at full rate, head 0 is at the low rate and holds a read. -/
def mooringState : State := { linkState true with
  regs := { State.reset.regs with active := [(regKey (bHp 0) 0x010, 4)] }
  hps := [(0, { inReset := false, rate := 1, width := 1, moor := 2, formerRate := 5, formerWidth := 8, held := [
      { tag := 1, hpa := 64, kind := .read, data := 0, be := 0, poison := false, recv := 0 }] }),
    (1, { inReset := false, rate := 5, width := 8 })] }
theorem test_w_moorOne : mooringState.headUsed 1 = true ∧ (mooringState.hp 1).moor = 0 ∧ (mooringState.hp 0).moor = 2
    ∧ (mooringState.hp 0).held ≠ [] ∧ mooringState.pwr.state ≠ 4 := by decide
theorem test_w_moored : ({ mooringState with pwr := { mooringState.pwr with state := 4 } } : State).headUsed 0 = true
    ∧ (({ mooringState with pwr := { mooringState.pwr with state := 4 } } : State).hp 0).held ≠ [] := by decide
/-- Both heads in use, head 1 at full rate: head 0 is the first to reach Moored. -/
def firstMoor : State := { mooringState with
  hps := [(0, { inReset := false, rate := 5, width := 8 }), (1, { inReset := false, rate := 5, width := 8 })] }
theorem test_w_moorFirst : firstMoor.pwr.mooring = true ∧ firstMoor.pwr.state = 2 ∧ firstMoor.headUsed 0 = true
    ∧ (firstMoor.hp 0).moor = 0 ∧ (∀ l ∈ firstMoor.cache.landing, l.2.st = .free) ∧ firstMoor.headDrained 0 = true
    ∧ firstMoor.headUsed 1 = true ∧ (firstMoor.hp 1).moor ≠ 2 := by decide
theorem test_w_moorOther : ∃ k < 2, k ≠ 0 ∧ mooringState.headUsed k = true ∧ (mooringState.hp k).moor ≠ 2 := ⟨1, by decide⟩

/-- A Phase 2 flush of head 0 that waits for FN 4, which is durable; counter 2 of its CPMU is full; the mailbox is ready. -/
def gpfState : State := { linkState false with
  heads := [(0, { acceptedFn := 4, mediaFn := 4, pairFn := 4, gpf := some (0, 4) })]
  hps := [(0, { inReset := false, rate := 4, width := 16, cpmu := [(2, { count := 2 ^ 48 - 1 })] })]
  start := { State.reset.start with mboxReady := true } }
theorem test_w_gpf : gpfState.deaf 0 = false ∧ (gpfState.head 0).gpf = some (0, 4) ∧ gpfState.gpfDrained 0 0 = true
    ∧ 4 ≤ (gpfState.head 0).mediaFn ∧ gpfState.joined = false
    ∧ (gpfState.at 9).ns - 0 ≤ (if gpfState.pwr.gated then 13300 else 10000) := by decide
theorem test_w_gpfPhases : (linkState false).headUsed 0 = true ∧ (linkState false).deaf 0 = false
    ∧ ((linkState false).head 0).gpf = none := by decide
/-- Four frames on, in a joined pair. -/
def gpfLate : State := { gpfState with
  tt := { State.reset.tt with fn := 4 }
  fry := { State.reset.fry with pstate := .joined } }
theorem test_w_gpfLate : (if gpfLate.pwr.gated then 13300 else 10000) < (gpfLate.at 0).ns - 0 ∧ gpfLate.joined = true
    ∧ 4 ≤ (gpfLate.head 0).pairFn ∧ gpfLate.deaf 0 = false ∧ (gpfLate.head 0).gpf = some (0, 4)
    ∧ gpfLate.gpfDrained 0 0 = true := by decide
theorem test_w_cpmu : gpfState.headUsed 0 = true ∧ (gpfState.hp 0).inReset = false ∧ gpfState.start.mboxReady = true ∧ ((gpfState.hp 0).cpmu.getD 2 {}).frozen = false ∧ 2 ^ 48 ≤ ((gpfState.hp 0).cpmu.getD 2 {}).count + 1
    ∧ (gpfState.hp 0).doeBusy = false ∧ gpfState.mbox.mctpBusy = false ∧ gpfState.pwr.state ∈ [2, 3, 4] := by decide

/-- A module of a pair, cable in place, link at the high rate with a session; step and state of its join as given. -/
def ferryState (ps : PState) (role : Role) (step token : Nat) : State := { liveState with
  regs := { State.reset.regs with active := [(regKey bFry 0x010, 5)] }
  start := { State.reset.start with step := 9, ferryPres := true }
  tt := { State.reset.tt with fn := 100 }
  sec := { State.reset.sec with ferrySession := true }
  fry := { State.reset.fry with
    pstate := ps, role := role, rate := 2, width := 8, token := token, joinStep := step, resends := 16, replayFullAt := some 0
    before := some (.splitLead, .lead), tablesOk := true } }
theorem test_w_flit : (ferryState .joined .lead 0 7).fry.rate ≠ 0 ∧ (ferryState .joined .lead 0 7).promoting = false ∧ (ferryState .joined .lead 0 7).sec.ferrySession = true
    ∧ (ferryState .joined .lead 0 7).fry.rxSeq + 1 = 1 ∧ (4 : Nat) ∈ [1, 2, 4, 8] ∧ (4 : Nat) ≠ (ferryState .joined .lead 0 7).fry.width
    ∧ 16 ≤ (ferryState .joined .lead 0 7).fry.resends ∧ 0 + 4096 ≤ ((ferryState .joined .lead 0 7).at 0).ns := by decide
theorem test_w_train : (ferryState .splitLead .lead 0 7).pairCfg = true ∧ 8 ≤ (ferryState .splitLead .lead 0 7).start.step
    ∧ (ferryState .splitLead .lead 0 7).mayJoin = true := by decide
theorem test_w_join : (ferryState .joining .follower 4 7).fry.offset.natAbs ≤ 10 ∧ (ferryState .joining .lead 5 7).fry.joinFn = none
    ∧ (ferryState .joining .lead 3 7).claimsLead = true ∧ (ferryState .joining .none 3 7).claimsLead = false
    ∧ (ferryState .joining .lead 2 7).sec.pass.locked = false := by decide
theorem test_w_noCable : ({ liveState with regs := { State.reset.regs with active := [(regKey bFry 0x010, 5)] }
                                           start := { State.reset.start with ferryPres := true } } : State).pairCfg = true := by decide

/-- A joined pair member at the start of frame 100, before slot 1. -/
def joinedState (role : Role) : State := ferryState .joined role 0 7
theorem test_w_joined : (joinedState .follower).joined = true ∧ (joinedState .follower).promoting = false ∧ (joinedState .follower).fry.role = .follower
    ∧ (joinedState .follower).fry.rate = 2 ∧ (joinedState .lead).isLead = true ∧ (joinedState .lead).pairCfg = true
    ∧ ((joinedState .lead).at 256).slot = 4 ∧ ((joinedState .follower).at 127).slot = 1 ∧ ((joinedState .lead).at 512).slot = 8
    ∧ (joinedState .lead).sec.error = false ∧ (joinedState .lead).fry.sendQ = [] ∧ (joinedState .lead).fry.token < 8
    ∧ (joinedState .lead).fry.pendingRole = none ∧ (63 : Nat) + 1 ≤ 64 ∧ (0 : Nat) < userPages := by decide
/-- A lead with one sent write whose host request waits for its ack alone. -/
def ackState : State := { joinedState .lead with
  hps := [(0, { inReset := false, rate := 4, width := 16 })]
  fry := { (joinedState .lead).fry with widxSent := 3, widxAcked := 2, sendQ := [{
    widx := 3, lpn := 9, sector := 0, data := [(0, false)], fn := 100, cyc := 4, sent := true, onMirror := true
    waits := [({ id := 1, origin := .host 0 5, dpa := 36864, kind := .write }, some true)] }] } }
theorem test_w_ack : 3 ≤ ackState.fry.widxSent ∧ ackState.deaf 0 = false ∧ ackState.fry.handover = none
    ∧ ackState.fry.resign = none ∧ ackState.joined = true ∧ ackState.isLead = true := by decide
theorem test_w_ackOrigin : ∀ m ∈ ackState.fry.sendQ, ∀ x ∈ m.waits, ∀ w, x.1.origin ≠ .mirror w := by
  simp [ackState]

/-- A joined lead in a handover and a resignation that ran out of time, one write unacknowledged; its mailbox serves. -/
def leavingState : State := { ackState with
  start := { ackState.start with mboxReady := true }
  fry := { ackState.fry with handoverFn := some 96, resign := some (0, true), pendingRole := none } }
theorem test_w_leaving : 96 + 4 ≤ leavingState.tt.fn ∧ 0 + 50000 ≤ (leavingState.at 0).ns
    ∧ (leavingState.at 0).silenceNs = 65280 ∧ leavingState.fry.pendingRole = none ∧ leavingState.isLead = true := by decide
theorem test_w_silent : ((joinedState .follower).at 0).silenceNs = 65280 ∧ (joinedState .follower).isLead = false
    ∧ ((ferryState .joining .follower 5 7).at 0).silenceNs = 65280
    ∧ ({ joinedState .follower with sec := { State.reset.sec with error := true } } : State).sec.error = true := by decide
theorem test_w_split : (ferryState .splitLead .lead 0 7).joined = false ∧ (ferryState .splitLead .lead 0 7).isLead = true
    ∧ (ferryState .splitLead .lead 0 7).fry.pstate ≠ .joining := by decide
theorem test_w_pairCmd : Serves leavingState .mboxHp0 ∧ (leBytes 8 9).length = 8 ∧ leavingState.fry.token < pnum (leBytes 8 9) 0 8
    ∧ leavingState.fry.peerToken < pnum (leBytes 8 9) 0 8 ∧ leavingState.pairCfg = true ∧ (leBytes 4 50).length = 4
    ∧ pnum (leBytes 4 50) 1 3 = 0 ∧ pnum (leBytes 4 50) 0 1 = 50 :=
  ⟨⟨rfl, rfl, rfl, by decide, rfl, rfl⟩, by decide⟩
theorem test_w_unpaired : Serves (passState false 0) .mctp ∧ (passState false 0).pairCfg = false :=
  ⟨⟨rfl, rfl, rfl, by decide, rfl, rfl⟩, by decide⟩
/-- A joined lead and a joined follower with nothing unacknowledged, whose mailboxes serve. -/
def quietState (role : Role) : State := { joinedState role with start := { (joinedState role).start with mboxReady := true } }
theorem test_w_quiet : Serves (quietState .lead) .mboxHp0 ∧ (quietState .lead).fry.sendQ = []
    ∧ (quietState .lead).fry.handover = none ∧ (quietState .lead).fry.resign = none ∧ (quietState .follower).isLead = false :=
  ⟨⟨rfl, rfl, rfl, by decide, rfl, rfl⟩, by decide⟩

/-- A member that resyncs, with pages marked, room for pages, and the peer's last index applied. -/
def resyncState (role : Role) (marked : List Nat) : State := { ferryState .resyncing role 0 7 with
  fry := { (ferryState .resyncing role 0 7).fry with
    bitmap := marked, pcred := 64, widxSent := 5, doneSent := marked.isEmpty } }
theorem test_w_resync : (resyncState .lead [4, 9]).nextResync = some 4 ∧ (resyncState .lead [4, 9]).fry.takes = []
    ∧ (resyncState .lead [4, 9]).mayTake 4 = true ∧ (resyncState .lead [4, 9]).sectorHere 4 0 = none
    ∧ (∀ q < 17, (resyncState .lead [4, 9]).missing ((resyncState .lead [4, 9]).readPsn 4) q = false)
    ∧ (resyncState .lead [4, 9]).isLead = true ∧ (resyncState .lead [4, 9]).fry.rate = 2
    ∧ (resyncState .lead [4, 9]).fry.pendingRole = none ∧ (resyncState .lead [4, 9]).fry.sendQ = []
    ∧ (resyncState .lead [4, 9]).fry.resyncNow < (resyncState .lead [4, 9]).resyncCap
    ∧ (resyncState .lead [4, 9]).sec.error = false ∧ (resyncState .follower []).takesPage 8 = true
    ∧ (resyncState .lead [4, 9]).promoting = false ∧ (resyncState .lead [4, 9]).resyncFits = true
    ∧ (resyncState .follower []).fry.pageOwed = [] ∧ (resyncState .follower []).fry.pendingRole = none
    ∧ (resyncState .follower []).promoting = false := by decide
/-- The lead, which resyncs, or answers its joined peer, has page 4 in hand: every sector was here. -/
def takenState (ps : PState) (answer : Bool) : State := { resyncState .lead [4] with
  fry := { (resyncState .lead [4]).fry with
    pstate := ps, takes := [{ lpn := 4, answer := answer, present := List.replicate 64 (some (0, false)) }] } }
theorem test_w_resyncTaken : ((takenState .resyncing false).fry.takes.find? fun x => !x.answer).isSome = true
    ∧ (takenState .resyncing false).taken { lpn := 4, answer := false, present := List.replicate 64 (some (0, false)) } = true
    ∧ 0 < (takenState .resyncing false).fry.pcred ∧ (takenState .resyncing false).isLead = true
    ∧ (takenState .resyncing false).resyncFits = true ∧ (takenState .resyncing false).fry.resyncNow < (takenState .resyncing false).resyncCap := by decide
theorem test_w_resyncAsked : ((takenState .joined true).fry.takes.find? fun x => x.answer && x.lpn == 4).isSome = true
    ∧ (takenState .joined true).taken { lpn := 4, answer := true, present := List.replicate 64 (some (0, false)) } = true
    ∧ 0 < (takenState .joined true).fry.pcred ∧ (takenState .joined true).joined = true
    ∧ (takenState .joined true).needsFetch 4 = false ∧ (takenState .joined true).fry.sendQ = []
    ∧ (takenState .joined true).fry.rate ≠ 0 ∧ (takenState .joined true).sec.error = false
    ∧ 5 ≤ (takenState .joined true).fry.widxSent ∧ (joinedState .lead).mayTake 4 = true
    ∧ (joinedState .lead).needsFetch 4 = false ∧ (joinedState .lead).sectorHere 4 0 = none := by decide
/-- The lead has sent its last page, or has kind 4 still to send. -/
def resyncLast (done : Bool) : State := { resyncState .lead [] with fry := { (resyncState .lead []).fry with doneSent := done } }
theorem test_w_resyncLast : (resyncLast false).nextResync = none ∧ (resyncLast false).fry.doneSent = false
    ∧ (resyncLast false).fry.takes = [] ∧ (resyncLast true).fry.doneSent = true ∧ (resyncLast true).nextResync = none
    ∧ (resyncLast true).isLead = true ∧ (resyncLast true).fry.rate ≠ 0
    ∧ (resyncLast false).resyncFits = true ∧ (resyncLast false).fry.resyncNow < (resyncLast false).resyncCap := by decide
theorem test_w_resyncOwed : ({ (resyncState .follower []).fry with pageOwed := [(4, [0])] } : Fry).pageOwed ≠ [] := by decide
theorem test_w_resyncData : (List.replicate 64 (0 : Sector)).length = 64 := by decide
theorem test_w_resyncEnd : (196607 : Nat) < 196608 := by decide

/-- A joined member with a proposed change and a barge launch on channel 1, in the stage given. -/
def agreeState (role : Role) (mine : Bool) (stage : Nat) (done : Bool) : State := { joinedState role with
  mbox := { State.reset.mbox with owed := some (.mboxHp0, 0xC010) }
  barge := [(1, { state := 1, cur := some { word := 1, endMark := true, index := 0 } })]
  fry := { (joinedState role).fry with
    tracking := true, atFn := some { change := 1, id := 6, target := 108, subject := 0, stage := stage }
    bargeAt := [(1, { id := 7, desc := { word := 1, endMark := true, index := 0 }, mine := mine, launch := 108, widx := 0
                      stage := stage, doneHere := done, dst := 0, len := 1 })] } }
theorem test_w_agree : (agreeState .lead true 1 false).isLead = true ∧ (agreeState .lead true 1 false).tt.fn + 2 < 108
    ∧ (agreeState .follower false 2 false).isLead = false ∧ (agreeState .follower false 3 false).joined = true
    ∧ (agreeState .follower false 2 false).inLimit = true := by decide
theorem test_w_agreeCur : ((agreeState .lead true 3 true).brg 1).cur = some { word := 1, endMark := true, index := 0 } := rfl
theorem test_w_agreeGet : ∃ b, (agreeState .lead true 3 true).fry.bargeAt.get? 1 = some b ∧ b.mine = true ∧ b.stage = 3
    ∧ b.doneHere = true := ⟨_, rfl, rfl, rfl, rfl⟩
/-- A joined follower in its bell limit, with a mirrored region 0 that the barge may use. -/
def proposeState : State := { joinedState .follower with
  regs := { State.reset.regs with active := [(regKey bXl 0x400, 0x18000#32), (regKey bXl 0x404, 0x48#32),
    (regKey bXl 0x408, 0xffff#32), (regKey bFry 0x010, 5)] }
  fry := { (joinedState .follower).fry with tracking := true } }
/-- FILL of one sector at DPA 0. -/
def fillWord : BitVec 512 := 2#512 ||| (1#512 <<< 192)
set_option maxRecDepth 8000 in
theorem test_w_propose : proposeState.changeOk 1 0 0 = true ∧ proposeState.inLimit = true ∧ proposeState.fry.atFn = none
    ∧ proposeState.bargeCheck 1 { word := fillWord, endMark := true, index := 0 } true = 0 := by decide
/-- A lead whose proposal got no ack by the tick of target − 2. -/
def lateAckState : State := { agreeState .lead true 1 false with
  tt := { State.reset.tt with fn := 106 }, mbox := {}, fry := { (agreeState .lead true 1 false).fry with bargeAt := [] } }
theorem test_w_lateAck : 108 ≤ lateAckState.tt.fn + 2 ∧ lateAckState.fry.bargeAt = [] ∧ lateAckState.sec.error = false
    ∧ lateAckState.mbox.owed = none ∧ lateAckState.isLead = true := by decide
theorem test_w_lateBarge : ∃ b, ({ agreeState .lead true 1 false with tt := { State.reset.tt with fn := 106 } } : State).fry.bargeAt
    = [(1, b)] ∧ b.mine = true ∧ b.stage = 1 ∧ b.launch ≤ 106 + 2 := ⟨_, rfl, rfl, rfl, by decide⟩
theorem test_w_sync : (ferryState .joining .follower 6 7).fry.pstate = .joining ∧ 6 ≤ (ferryState .joining .follower 6 7).fry.joinStep
    ∧ ((ferryState .joining .follower 6 7).keySlot 63).lastFormat < 1 := by decide

/-- PWR is Open, region 0 is open to the barge, and channel 1 holds this descriptor: waiting in its queue, or running. -/
def bargeState (word : BitVec 512) (running phase : Bool) : State := { liveState with
  pwr := { liveState.pwr with state := 2 }
  start := { State.reset.start with mboxReady := true }
  drcs := [(1, { state := 3 })]
  regs := { State.reset.regs with active := [(regKey bXl 0x400, 0x18000#32), (regKey bXl 0x404, 0x40#32)] }
  barge := [(1, if running then { state := 1, cur := some { word := word, endMark := true, index := 0 }, phase := phase
                                  moved := phase }
    else { tail := 1, desc := { words := [{ word := word, endMark := true }] } })] }
/-- COPY and CRC of one sector at DPA 0; ZERO of one sector. -/
def copyWord : BitVec 512 := 1#512 ||| (64#512 <<< 128) ||| (1#512 <<< 192)
def crcWord : BitVec 512 := 4#512 ||| (1#512 <<< 192)
def zeroWord : BitVec 512 := 3#512 ||| (1#512 <<< 192)
theorem test_w_doorbell : Serves (bargeState fillWord false false) .mboxHp0 ∧ pnum [1, 0, 5, 0] 0 1 < 4 ∧ pnum [1, 0, 5, 0] 1 1 = 0
    ∧ (bargeState fillWord false false).live bBrg = true ∧ isPath .hp0 = false :=
  ⟨⟨rfl, rfl, rfl, by decide, rfl, rfl⟩, by decide⟩
set_option maxRecDepth 8000 in
set_option exponentiation.threshold 600 in
theorem test_w_start : let s := bargeState fillWord false false
    let d : Descriptor := { word := fillWord, endMark := true, index := 0 }
    (s.brg 1).state = 0 ∧ (s.brg 1).head ≠ (s.brg 1).tail ∧ s.bargeCheck 1 d false = 0 ∧ s.bargeMirrored d = false
    ∧ s.bargeCheck 1 { d with endMark := false } false = 3 := by decide
/-- As bargeState running, and the source block has been read from media: zeros, with these poison bits. -/
def sourceRead (word : BitVec 512) (poison : BitVec 4) : State := { bargeState word true false with
  media := { (bargeState word true false).media with reads := [
    { id := 1, kind := .barge, use := .barge 1, lpn := 0, block := 0, psn := 0, pos := 0, chans := [0], slot := 0
      result := some (0, poison) }] } }
set_option maxRecDepth 8000 in
set_option exponentiation.threshold 600 in
theorem test_w_run : let s := bargeState copyWord true false
    (s.brg 1).state = 1 ∧ (s.brg 1).sectors < Descriptor.len { word := copyWord, endMark := true, index := 0 } ∧ s.bargeRoom ≠ 0
    ∧ Descriptor.op { word := copyWord, endMark := true, index := 0 } = 1 ∧ s.stagingUp 1 = true ∧ s.sectorBusy 0 = false
    ∧ s.live bBrg = true ∧ s.pwr.flush = none ∧ (s.brg 1).phase = false ∧ s.bargeSector 1 0 = none
    ∧ s.blockFor (.barge 1) 0 0 = none ∧ (∀ q < 17, s.missing (s.readPsn 0) q = false)
    ∧ Descriptor.op { word := fillWord, endMark := true, index := 0 } = 2
    ∧ Descriptor.op { word := zeroWord, endMark := true, index := 0 } = 3
    ∧ Descriptor.op { word := crcWord, endMark := true, index := 0 } = 4
    ∧ Descriptor.len { word := zeroWord, endMark := true, index := 0 } = 1 := by decide
set_option maxRecDepth 8000 in
set_option exponentiation.threshold 600 in
theorem test_w_sourceRead : (sourceRead copyWord 0).bargeSector 1 0 = some (0, false)
    ∧ (sourceRead copyWord 1).bargeSector 1 0 = some (0, true) ∧ (sourceRead crcWord 0).sectorBusy 0 = false
    ∧ (sourceRead copyWord 1).fry.bargeAt.get? 1 = none ∧ (sourceRead copyWord 0).stagingUp 1 = true
    ∧ ((sourceRead crcWord 0).brg 1).state = 1 ∧ ((sourceRead crcWord 0).brg 1).phase = false
    ∧ (sourceRead crcWord 0).bargeRoom ≠ 0 ∧ (sourceRead crcWord 0).live bBrg = true := by decide
theorem test_w_bargeDone : let s := bargeState zeroWord true true
    (s.brg 1).state = 1 ∧ (s.brg 1).moved = true ∧ (s.brg 1).outstanding = 0 ∧ s.fry.bargeAt.get? 1 = none
    ∧ (s.brg 1).phase = true ∧ (s.brg 1).comp.words.length < 256 := ⟨rfl, rfl, rfl, rfl, rfl, by decide⟩

/-- PWR in this state, mailbox ready, uptime 25 h; recalibration and health test running when asked; die 9 failed. -/
def upState (pstate : Nat) (run freq : Bool) : State := { linkState false with
  start := { State.reset.start with mboxReady := true }
  media := { State.reset.media with mchs := [(1, { roles := [(1, 31)] })] }
  mnt := { State.reset.mnt with recalBusy := run, recalMask := 2, recalDies := 3, freqTarget := if freq then some 1 else none }
  pst := { State.reset.pst with calValid := true }
  pwr := { (linkState false).pwr with state := pstate, testRunning := run, uptimeNs := 90000 * 10 ^ 9 } }
theorem test_w_recal : Serves (upState 2 false false) .mboxHp0 ∧ pnum [2, 0, 0, 3] 0 3 < 2 ^ 18 ∧ 2 ^ 18 ≤ pnum [0, 0, 4, 3] 0 3
    ∧ (upState 2 false false).mbox.bg = none ∧ (upState 2 false false).sec.erase = none :=
  ⟨⟨rfl, rfl, rfl, by decide, rfl, rfl⟩, by decide⟩
theorem test_w_recalBusy : Serves (passState false 0) .mboxHp0 ∧ (passState false 0).sec.erase ≠ none
    ∧ (passState false 0).pwr.state ≠ 4 := ⟨⟨rfl, rfl, rfl, by decide, rfl, rfl⟩, by decide⟩
set_option maxRecDepth 8000 in
theorem test_w_recalDone : (upState 2 true false).mnt.recalBusy = true ∧ (upState 2 true false).pst.calValid = true
    ∧ recalDies (upState 2 true false).mnt.recalMask (upState 2 true false).mnt.recalDies = [8, 9] ∧ (upState 2 true false).role 1 1 = 31
    ∧ (upState 2 true false).role 1 0 ≠ 31 := by decide
theorem test_w_cap : (upState 2 false false).capDue = true ∧ (upState 2 false false).mnt.waiting.has 10 = false
    ∧ (upState 2 false false).blocker 10 = none ∧ (upState 2 false true).blocker 10 = some 9 ∧ (upState 4 false false).capDue = true
    ∧ (upState 2 true false).pwr.testRunning = true := by decide
theorem test_w_monitor : (∃ a ∈ [2200, 2360, 2208], ∃ b ∈ [2200, 2360, 2208], a + 150 < b)
    ∧ ¬ (∃ a ∈ [2200, 2350], ∃ b ∈ [2200, 2350], a + 150 < b) := by decide
theorem test_w_moorWake : (upState 4 false false).pwr.state = 4 := rfl
theorem test_w_bandsDue : 0 ∈ ({ upState 4 false false with tt := { State.reset.tt with fn := 30 * 21093750000 } } : State).bandsDue 24 :=
  List.mem_filter.mpr ⟨by simp, by decide⟩

theorem test_w_window : liveState.pwr.flush = none ∧ liveState.pst.imgOpen = false ∧ liveState.pst.imgBusy = false
    ∧ liveState.pst.calOpen = false ∧ liveState.mnt.recalBusy = false ∧ (upState 2 true false).mnt.recalBusy = true := by decide
/-- Both windows open, the store window at the calibration set (0x10_0000) or below it, a check under way, one record staged. -/
def storeState (page : Nat) : State := { liveState with
  regs := { State.reset.regs with active := [(regKey bPst 0x030, BitVec.ofNat 32 page)] }
  pst := { State.reset.pst with imgOpen := true, calOpen := true, next := 24575, imgBusy := page == 0 }
  tele := { State.reset.tele with evq := { State.reset.tele.evq with staged := [{ fn := 1, source := 2, code := 3, severity := .info }] } } }
theorem test_w_store : (storeState 0).pst.imgBusy = true ∧ (storeState 32).bar2There .hp0 = true ∧ (storeState 32).live bPst = true
    ∧ (storeState 32).storeOpen (0x8000 * (storeState 32).regF bPst 0x030 0 6 + 0x7fff + 0) = true
    ∧ (storeState 0).storeOpen (0x8000 * (storeState 0).regF bPst 0x030 0 6 + 0 + 0) = false
    ∧ (storeState 0).pst.next + 1 = 24576 ∧ (4 : Nat) ∈ [4, 8, 16, 32, 64] ∧ 0x7ffc % 4 = 0
    ∧ ∀ i ∈ (List.range (min 4 64)).filter fun i => (15#64).getLsbD i,
      (storeState 32).storeOpen (0x8000 * (storeState 32).regF bPst 0x030 0 6 + 0x7ffc + i) = true := by decide
theorem test_w_storeMem : (storeState 32).memOk ∧ (upState 2 true false).memOk := ⟨⟨rfl, rfl, rfl⟩, ⟨rfl, rfl, rfl⟩⟩
theorem test_w_flushing : ({ liveState with pwr := { liveState.pwr with flush := some { cause := 0 } } } : State).pwr.flush
    = some { cause := 0 } := rfl

/-- Both inputs in tolerance, in this power state, after this many failed attempts. -/
def railState (pstate attempts : Nat) : State := { State.reset with
  pwr := { State.reset.pwr with state := pstate, attempts := attempts, mainOk := true, auxOk := true, mainFell := true } }
theorem test_w_powerUp : (railState 0 0).mayPowerUp = true ∧ (railState 1 2).mayPowerUp = true ∧ (railState 1 3).mayPowerUp = true
    ∧ ((railState 2 0).pwr.rails.getD 16 {}).state ≠ 2 ∧ (railState 2 0).pwr.state ∈ [2, 3, 4] ∧ (railState 2 0).pwr.flush = none
    ∧ (railState 7 0).pwr.mainFell = true ∧ (railState 1 0).start.step ≠ 8 ∧ (railState 1 0).pwr.flush = none ∧ (railState 2 0).tt.tickLost = false
    ∧ (railState 2 0).mediaLost = false := by decide
/-- A flush on the bank that has reached this step. -/
def flushState (step : Nat) (incomplete : Bool) : State := { railState 5 0 with
  pwr := { (railState 5 0).pwr with
    onBank := true, cm := 1000, esr := 20, flush := some { cause := 1, step := step, onBank := true, incomplete := incomplete } } }
theorem test_w_flush : (flushState 6 false).pwr.flush.isSome = true ∧ 6168 ≤ vFloor (flushState 6 false).pwr.cm (flushState 6 false).pwr.esr
    ∧ (flushState 6 false).mediaLost = false ∧ (flushState 1 true).pwr.state = 5 ∧ (flushState 1 true).pwr.onBank = true := by decide
/-- In service, a store write of two bytes under way. -/
def writingState : State := { railState 2 0 with
  store := [(16, 7), (17, 9)], pst := { State.reset.pst with writing := [{ cls := 0, start := 0, addr := 16, old := [0, 0] }] } }
theorem test_w_storeCut : writingState.pst.writing = [{ cls := 0, start := 0, addr := 16, old := [0, 0] }] ∧ writingState.memOk
    ∧ writingState.pwr.state ∈ [2, 3, 4] ∧ writingState.pwr.flush = none := ⟨rfl, ⟨rfl, rfl, rfl⟩, by decide, rfl⟩
theorem test_w_mainLoss : ((railState 2 0).pwr.rails.getD 1 {}).state ≠ 2 ∧ ((railState 1 0).pwr.rails.getD 1 {}).state ≠ 2
    ∧ ((flushState 1 false).pwr.rails.getD 1 {}).state ≠ 2 ∧ (flushState 1 false).pwr.flush.isSome = true
    ∧ (flushState 1 false).pwr.state = 5 ∧ (railState 6 0).pwr.flush = none := by decide
theorem test_w_mainLossLate : let x : State := { railState 1 0 with start := { (railState 1 0).start with step := 8 } }
    x.pwr.state = 1 ∧ x.start.step = 8 ∧ x.pwr.flush = none ∧ (x.pwr.rails.getD 1 {}).state ≠ 2 := by decide
theorem test_w_flushSome : ∃ f, (flushState 6 false).pwr.flush = some f ∧ f.incomplete = false ∧ 6 ≤ f.step :=
  ⟨_, rfl, rfl, by decide⟩

/-- PWR in OPEN; the classes of 40 W and 55 W allowed, 55 W in force; idle entry after 1 µs, and 4 µs have passed. -/
def classState (cls : Nat) : State := { linkState false with
  regs := { State.reset.regs with active := [(regKey bPwr 0x014, 0x31#32), (regKey bPwr 0x01c, 1)] }
  start := { State.reset.start with mboxReady := true }
  tt := { State.reset.tt with fn := 1 }
  pwr := { (linkState false).pwr with cls := cls } }
theorem test_w_class : (classState 1).pwr.state = 2 ∧ (classState 1).regF bPwr 0x01c 0 16 = 1 ∧ 0 + 1 * 1000 ≤ (classState 1).ns
    ∧ (classState 1).moorRefusal = none ∧ (classState 1).joined = false ∧ (classState 1).live bPwr = true
    ∧ (classState 1).classAllowed 1 = true ∧ (classState 1).classFits 1 = true ∧ (classState 1).classAllowed 2 = false
    ∧ (classState 1).classBest 1 = some 0 ∧ (classState 0).pwr.cls = 0 := by decide
theorem test_w_classServe : Serves (classState 1) .mboxHp0 ∧ pnum [1, 0, 0, 0] 0 1 = 1 ∧ pnum [1, 0, 0, 0] 1 3 = 0 :=
  ⟨⟨rfl, rfl, rfl, by decide, rfl, rfl⟩, by decide⟩
theorem test_w_limit : ({ classState 1 with pwr := { (classState 1).pwr with slotLimit := 45 } } : State).classFits 1 = false
    ∧ ({ classState 1 with pwr := { (classState 1).pwr with slotLimit := 45 } } : State).classBest 3 = some 0
    ∧ ({ classState 1 with pwr := { (classState 1).pwr with slotLimit := 10 } } : State).classBest 3 = none := by decide
theorem test_w_moorCause : (upState 2 true false).moorRefusal = some 1
    ∧ ({ joinedState .follower with pwr := { liveState.pwr with state := 2 } } : State).moorRefusal = none := by decide
theorem test_w_openDomain : (classState 1).openDomain 3 = 2 ∧ (3 : Nat) < 96 ∧ (upState 4 false false).pwr.state = 4 := by decide

/-- A cold start in POWER_UP at this step; nothing in the stores. -/
def startState (step : Nat) : State := { liveState with start := { State.reset.start with step := step } }
theorem test_w_startStep : (startState 2).pwr.state = 1 ∧ (startState 2).sec.error = false ∧ (startState 8).start.memActive = false
    ∧ (∀ c < 4, ((startState 5).drc c).failed = false) ∧ (startState 4).sec.firstFail = 0 ∧ liveState.pwr.state = 1
    ∧ State.reset.pwr.state = 1 ∧ (railState 2 0).pwr.state ≠ 1 := by decide
theorem test_w_startNoImage : (startState 3).imgFails 0 true ≠ 0 ∧ (startState 3).imgFails 1 true ≠ 0 := by
  constructor <;> simp [startState, liveState, State.imgFails, Mem.num, Mem.reads, ofBytes, Mem.read, Mem.blank, State.reset]
/-- Firmware slot 0 holds the magic number of R519. -/
def fwState : State := { startState 4 with fwStore := [(0, 0x53), (1, 0x4c), (2, 0x46), (3, 0x57)] }
theorem test_w_startFw : fwState.healthLoad.mbox.fwNext = 0 ∧ fwState.fwHeader 0 0 4 = 0x57464C53 := by
  have h : fwState.healthRecord = none := by decide +kernel
  refine ⟨?_, by decide⟩
  rw [State.healthLoad, h]; rfl
/-- R499–R503. An image in copy A: map 0 of R70 in a TABLE record, a WRITE that defines it, and END. -/
def imageBytes : Mem :=
  [(0x180000, 0x54), (0x180001, 0x52), (0x180002, 0x44), (0x180003, 0x31), (0x180004, 0x1), (0x180008, 0x1),
  (0x18000c, 0x90), (0x180010, 0x90), (0x180014, 0x1), (0x180015, 0xe3), (0x180017, 0x24), (0x18001a, 0xff),
  (0x18001b, 0xff), (0x180030, 0x5), (0x180038, 0xa8), (0x180039, 0xd7), (0x18003a, 0xec), (0x18003b, 0x2c),
  (0x180040, 0x5), (0x180042, 0x1)] ++ [(0x180045, 0x40), (0x180048, 0x20), (0x180050, 0x40), (0x180051, 0x9),
  (0x180052, 0x40), (0x180053, 0x9), (0x180054, 0x40), (0x180055, 0x9), (0x180056, 0x40), (0x180057, 0x9),
  (0x180058, 0x40), (0x180059, 0x9), (0x18005a, 0x40), (0x18005b, 0x9), (0x18005c, 0x40), (0x18005d, 0x9),
  (0x18005e, 0x40), (0x18005f, 0x9), (0x180060, 0x40), (0x180061, 0x9)] ++ [(0x180062, 0x40), (0x180063, 0x9),
  (0x180064, 0x40), (0x180065, 0x9), (0x180066, 0x40), (0x180067, 0x9), (0x180068, 0x40), (0x180069, 0x9),
  (0x18006a, 0x40), (0x18006b, 0x9), (0x18006c, 0x40), (0x18006d, 0x9), (0x18006e, 0x40), (0x18006f, 0x9),
  (0x180070, 0x1), (0x180072, 0x1), (0x180074, 0x28), (0x180078, 0x1), (0x180080, 0xf), (0x180088, 0x5)]
/-- A start whose loader finds this image. -/
def imageState : State := { startState 3 with store := imageBytes }
set_option maxRecDepth 100000 in
theorem test_imageCrc : (crc32c (Mem.reads imageBytes 0x180000 56 ++ Mem.reads imageBytes 0x180040 80)).toNat = 0x2cecd7a8 := by
  decide +kernel
theorem test_imageRecords : imageState.recordCheck 0x180000 = true := by decide +kernel
theorem test_w_imageFails : imageState.imgFails 0 true = 0 := by
  have hr := Config.siliconRev.isLt
  have n0 : Mem.num imageBytes 0x180000 4 = 0x31445254 := by decide +kernel
  have n4 : Mem.num imageBytes 0x180004 1 = 1 := by decide +kernel
  have n6 : Mem.num imageBytes 0x180006 2 = 0 := by decide +kernel
  have n12 : Mem.num imageBytes 0x18000c 4 = 144 := by decide +kernel
  have n16 : Mem.num imageBytes 0x180010 4 = 144 := by decide +kernel
  have n20 : Mem.num imageBytes 0x180014 4 = 0x2400e301 := by decide +kernel
  have n24 : Mem.num imageBytes 0x180018 2 = 0 := by decide +kernel
  have n26 : Mem.num imageBytes 0x18001a 2 = 0xffff := by decide +kernel
  have n44 : Mem.num imageBytes 0x18002c 1 = 0 := by decide +kernel
  have n56 : Mem.num imageBytes 0x180038 4 = 0x2cecd7a8 := by decide +kernel
  have hc := test_imageCrc
  have hs : imageState.store = imageBytes := rfl
  simp only [State.imgFails, imgBase, if_true, Nat.add_zero, Nat.reduceAdd, hs, n0, n4, n6, n12, n16, n20, n24, n26, n44, n56,
    Nat.reduceSub, hc, test_imageRecords]
  simp
  omega
theorem test_w_imageNewer : seqNewer (imageState.imgSeqOf 1) (imageState.imgSeqOf 0) = false := by decide +kernel
/-- The records of the image all apply. -/
theorem test_w_imageLoads : ∃ u, State.loadAll 0 [] (imgRecs imageState.store (imgBase 0)) (imageState.loaderBegin true true true)
    = .ok u := by
  have h : (State.loadAll 0 [] (imgRecs imageState.store (imgBase 0)) (imageState.loaderBegin true true true)).isOk = true := by
    decide +kernel
  generalize State.loadAll 0 [] (imgRecs imageState.store (imgBase 0)) (imageState.loaderBegin true true true) = r at h
  cases r with
  | ok u => exact ⟨u, rfl⟩
  | error e => simp [Except.isOk, Except.toBool] at h

theorem test_w_resets : (startState 4).headUsed 0 = true ∧ (startState 4).pwr.state ≠ 4 ∧ ((linkState false).hp 0).inReset = false
    ∧ ((startState 4).hp 0).inReset = true ∧ (linkState false).headUsed 0 = true ∧ (railState 0 0).pwr.state ∉ [1, 2, 3, 4] ∧ (railState 1 0).pwr.state = 1
    ∧ (railState 4 0).pwr.state ∈ [2, 3, 4] ∧ blkAt (blkPage bCen) = some bCen ∧ blkAt (blkPage bBrg) = some bBrg
    ∧ blkAt 0 = some bTop ∧ blkAt 0xffff = none ∧ (startState 4).start.memActive = false
    ∧ ({ State.reset.start with memActive := true } : Start).memActive = true := by decide

theorem test_w_inputs : (railState 0 0).pwr.state ∈ [0, 6, 7] ∧ (railState 6 0).start.prsntHigh = false
    ∧ (railState 5 0).pwr.state = 5 ∧ 3 ≤ (startState 3).start.step ∧ (startState 3).start.clkreqFault = false
    ∧ (startState 2).start.step < 3 := by decide
theorem test_w_prsnt : ({ (railState 2 0).start with prsntHigh := true } : Start).prsntHigh = true
    ∧ ({ (railState 2 0).start with prsntHigh := true } : Start).pwrdis = false
    ∧ ({ (railState 2 0).start with prsntHigh := true, pwrdis := true } : Start).pwrdis = true := by decide

theorem test_w_tick : liveState.live bTt = true ∧ State.reset.live bTt = false ∧ liveState.tt.flushMapDue = false
    ∧ liveState.tt.kept = none ∧ liveState.sec.erase ≠ some 0 ∧ liveState.regs.pendingGroups.getLsbD 1 = false
    ∧ liveState.live (bMch 17) = true ∧ (liveState.mch 17).failed = false ∧ liveState.pwr.flush = none
    ∧ oscState.tt.backupOk = true ∧ oscState.tt.src = .main ∧ oscState.live bTt = true := by decide
/-- A block in service whose timetable waits for what this record says. -/
def tickState (due forced ret force : Bool) (src : Osc) (flush : Option Flush) : State := { liveState with
  tt := { liveState.tt with
    flushMapDue := due, forced := forced, returnReq := ret, forceReq := force, src := src, mainOk := true, backupOk := true }
  pwr := { liveState.pwr with flush := flush } }
theorem test_w_tickWaits : (tickState true false true false .backup none).live bTt = true
    ∧ (tickState false true false true .main (some { cause := 1, step := 3 })).live bTt = true
    ∧ (tickState false true false true .main (some { cause := 1, step := 3 })).fry.resign = none := by decide

/-- Region 0 in all 19 copies, open to locks and the barge, and four ways of a set lockable in every slice. -/
def servedRegs (through : Bool) : Kv Word :=
  let limits : Kv Word := (List.range 16).foldl (fun m n => m.set (regKey (bCs n) 0x014) 4#32) []
  let word : Word := if through then 0x61#32 else 0x60#32
  regionBlocks.foldl (fun m b => (m.set (regKey b 0x400) 0x60008000#32).set (regKey b 0x404) word) limits
/-- Head 0 has one decoder, one region spans user memory in every copy (write-through or write-back), and the map reads in every beat. -/
def servedState (through : Bool) : State := { linkState false with
  hps := [(0, { inReset := false, rate := 4, width := 16, hdms := [(0, { base := 0, size := 16, ways := 1, gran := 256, dpa := 0, locked := false })] })]
  start := { State.reset.start with memActive := true }
  pwr := { (linkState false).pwr with gated := false }
  drcs := [(0, { state := 3 }), (1, { state := 3 }), (2, { state := 3 }), (3, { state := 3 })]
  tt := { liveState.tt with maps := [List.replicate 16 0x100#16] }
  regs := { liveState.regs with active := servedRegs through } }
/-- The same with page 0 in way 2 of its set, with these sectors valid. -/
def heldState (valid : BitVec 64) : State := { servedState false with
  cache := { liveState.cache with ways := [((servedState false).setOf 0 * 8 + 2, { lpn := 0, used := true, valid := valid })] } }
/-- The same with a landing entry of page 0 that holds sector 0. -/
def landedState (through : Bool) : State := { servedState through with
  cache := { liveState.cache with landing := [(5, { st := .filling, lpn := 0, valid := 1 })] } }
theorem test_w_regions : ∀ (through : Bool), ∀ n < 16, (servedState through).regionAt (bCs n) 0 = some 0
    ∧ ((servedState through).region (bCs n) 0).policy = (if through then 1 else 0)
    ∧ (servedState through).mirrored (bCs n) 0 = false := by decide
/-- A state whose cache has no removed slice serves every set in the slice the set belongs to. -/
theorem sliceOf_lt (s : State) (h : s.cache.slices = []) (set : Nat) : s.sliceOf set < 16 := by
  simp [State.sliceOf, State.cs, h, Kv.getD, Kv.get?, setSlice]; omega
theorem noTake (t : PageTake) : t ∈ ([] : List PageTake) → False := by simp
theorem noMerge (p : MediaRead × HostReq) : p ∈ ([] : List (MediaRead × HostReq)) → False := by simp
theorem test_w_taken (through : Bool) (v : BitVec 64) (k : ReqKind) : Taken ((servedState through).at 0) 0 0 0 0 k
    ∧ Taken ((heldState v).at 0) 0 0 0 0 k ∧ Taken ((landedState through).at 0) 0 0 0 0 k := by
  have e (through : Bool) (n : Nat) (h : n < 16) := (test_w_regions through n h).1
  have a : ∀ through, (servedState through).headRegion 0 0 = some 0 := by decide
  have b : ∀ through, (servedState through).hdmDecode 0 0 = some 0 := by decide
  have m : ∀ through, (servedState through).mirrored (bHp 0) 0 = false := by decide
  refine ⟨⟨rfl, rfl, rfl, rfl, b through, by decide, rfl, a through, ?_, .inr (.inl (m through)), by simp [servedState, linkState, liveState, State.at, State.reset], nofun, rfl, rfl, rfl, rfl, .inr fun t h => (noTake t h).elim, .inr fun p h => (noMerge p h).elim⟩, 
    ⟨rfl, rfl, rfl, rfl, b false, by decide, rfl, a false, ?_, .inr (.inl (m false)), by simp [heldState, liveState, State.at, State.reset], nofun, rfl, rfl, rfl, rfl, .inr fun t h => (noTake t h).elim, .inr fun p h => (noMerge p h).elim⟩, 
    ⟨rfl, rfl, rfl, rfl, b through, by decide, rfl, a through, ?_, .inr (.inl (m through)), by simp [landedState, liveState, State.at, State.reset], nofun, rfl, rfl, rfl, rfl, .inr fun t h => (noTake t h).elim, .inr fun p h => (noMerge p h).elim⟩⟩
  · exact congrArg Option.isSome (e through _ (sliceOf_lt _ rfl _))
  · exact congrArg Option.isSome (e false _ (sliceOf_lt _ rfl _))
  · exact congrArg Option.isSome (e through _ (sliceOf_lt _ rfl _))
theorem test_w_found (v : BitVec 64) : ((heldState v).at 0).findWay 0 = some 2
    ∧ (((heldState v).at 0).way (((heldState v).at 0).setOf 0) 2).valid = v
    ∧ ((servedState false).at 0).findWay 0 = none ∧ ∀ through, ((landedState through).at 0).findWay 0 = none := by
  have e : ((heldState v).at 0).setOf 0 = (servedState false).setOf 0 := rfl
  have w : ((heldState v).at 0).cache.ways = [((servedState false).setOf 0 * 8 + 2, { lpn := 0, used := true, valid := v })] := rfl
  refine ⟨?_, ?_, ?_, ?_⟩
  · simp only [State.findWay, e, State.way, w]
    generalize (servedState false).setOf 0 = z
    simp [List.range, List.range.loop, Kv.getD, Kv.get?, resetWay]
  · simp only [e, State.way, w]
    generalize (servedState false).setOf 0 = z
    simp [Kv.getD, Kv.get?]
  · simp [State.findWay, State.way, servedState, State.at, linkState, liveState, State.reset, Kv.getD, Kv.get?, resetWay]
  · intro through
    simp [State.findWay, State.way, landedState, State.at, liveState, State.reset, Kv.getD, Kv.get?, resetWay]
theorem test_w_room (v : BitVec 64) (x : Nat) : (∀ c < 4, ((heldState v).at 0).readRoom c x none = true) ∧ ({ lpn := 0, used := true, valid := 15 } : Way).mixed 0 = false ∧ ∀ set, ((heldState v).at 0).setDram set < 4 := by
  constructor
  · intro c hc
    have : c = 0 ∨ c = 1 ∨ c = 2 ∨ c = 3 := by omega
    rcases this with rfl | rfl | rfl | rfl <;> rfl
  · refine ⟨by decide, ?_⟩
    intro set
    have d : ((heldState v).at 0).cache.drams = [0, 1, 2, 3] := rfl
    simp only [State.setDram, d]
    have : setIndex set % 4 < 4 := Nat.mod_lt _ (by decide)
    generalize setIndex set % 4 = k at *
    have : k = 0 ∨ k = 1 ∨ k = 2 ∨ k = 3 := by omega
    rcases this with rfl | rfl | rfl | rfl <;> decide
theorem test_w_landed (through : Bool) : ((landedState through).at 0).openEntry 0 = some 5 ∧ ((landedState through).at 0).waitRoom = true
   ∧ newest ((((landedState through).at 0).landingsOf 0).filter fun p => p.2.valid.getLsbD 0) = some (5, { st := .filling, lpn := 0, valid := 1 }) := by
  cases through <;> decide
theorem test_w_writeBack (v : BitVec 64) (set n : Nat) : ((heldState v).at 0).uncached set = false ∧ ((heldState v).at 0).draining = false
    ∧ ((heldState v).at 0).pwr.gated = false ∧ ((heldState v).at 0).holdDirty n = false := by
  refine ⟨?_, rfl, rfl, ?_⟩
  · have c (n : Nat) : ((heldState v).at 0).cs n = {} := rfl
    simp only [State.uncached, c]; rfl
  · have w : ((heldState v).at 0).cache.ways = [((servedState false).setOf 0 * 8 + 2, { lpn := 0, used := true, valid := v })] := rfl
    have c : ((heldState v).at 0).cs n = {} := rfl
    have l : ((heldState v).at 0).cache.landing = [] := rfl
    simp only [State.holdDirty, State.dirtyPages, State.landingUsed, State.landings, c, w, l] <;> simp [Way.isDirty]
theorem test_w_dramRoom (v : BitVec 64) (c x : Nat) (h : c < 4) : ((heldState v).at 0).dramRoom c x = true := by
  have : c = 0 ∨ c = 1 ∨ c = 2 ∨ c = 3 := by omega
  rcases this with rfl | rfl | rfl | rfl <;> rfl
/-- The read of any block of any stripe can be reserved in slot 1. -/
theorem test_w_reserve (v : BitVec 64) (psn pos : Nat) (h : pos < 17) : ∃ c, ((heldState v).at 0).reserve psn pos 0 = some (1, [c], 1, false) := by
  have hc (d : Nat) : ((heldState v).at 0).chanOf d pos = (State.reset).chanOf 0 pos := rfl
  have hx : ∀ q < 17, ((State.reset).chanOf 0 q).isSome = true := by decide
  have hm : ((heldState v).at 0).missing psn pos = false := by
    simp only [State.missing, hc]
    have := hx pos h
    cases e : (State.reset).chanOf 0 pos with
    | none => rw [e] at this; cases this
    | some c => rfl
  have he (c d p : Nat) : ((heldState v).at 0).eligible c d p 1 = some false := by
    have rb : ((heldState v).at 0).readBeats 1 = 5 := (rfl : _ = (servedState false).readBeats 1).trans (by decide)
    have r : ((heldState v).at 0).media.reads = [] := rfl
    have x : ((heldState v).at 0).planeWrite c d p 1 = none := rfl
    simp only [State.eligible, rb, r, x] <;> simp
  simp [State.reserve, hm, he]
theorem test_w_miss (v : BitVec 64) : ((heldState v).at 0).tracked (((heldState v).at 0).sliceOf 0) < 256
    ∧ (((heldState v).at 0).regionAt bXl (0 / 64 * 64)).isSome = true
    ∧ ((((heldState v).at 0).landingsOf 0).filter fun p => p.2.valid.getLsbD 0) = [] ∧ ∀ psn j, blockPos psn j < 17 := by
  refine ⟨?_, ?_, rfl, fun psn j => Nat.mod_lt _ (by decide)⟩
  · have r : ((heldState v).at 0).media.reads = [] := rfl
    simp only [State.tracked, r] <;> simp
  · exact (rfl : _ = ((servedState false).regionAt bXl 0).isSome).trans (by decide)
/-- A read of page 0 that waits, and a block of page 0 that was read for way 2. -/
def waitingState (v : BitVec 64) : State := { heldState v with
  cache := { (heldState v).cache with waiting := [{ id := 3, origin := .host 0 1, dpa := 0, kind := .read }] }
  media := { liveState.media with reads := [{ id := 9, kind := .host, lpn := 0, block := 0, psn := 0, pos := 0, chans := [0], slot := 0
                                              way := some 2, result := some (0, 0) }] } }
theorem test_w_waiting (v : BitVec 64) : let s := waitingState v
    (∃ r, (s.cache.waiting.find? fun q => q.id == 3) = some r ∧ r.kind = .read ∧ (s.at 0).behind r = false
      ∧ (s.at 0).unadmitted r = false)
    ∧ (∃ m : MediaRead, (s.media.reads.find? fun x => x.id == 9) = some m ∧ m.result = some (0, 0) ∧ m.step ≠ 4 ∧ m.way = some 2
      ∧ m.entry = none ∧ m.after = none ∧ m.joined = [] ∧ m.block < 16) ∧ (s.at 0).landingsOf 0 = [] :=
  ⟨⟨_, rfl, rfl, rfl, rfl⟩, ⟨_, rfl, rfl, by decide, rfl, rfl, rfl, rfl, by decide⟩, rfl⟩
theorem test_w_waitingWay (v : BitVec 64) : ((waitingState v).at 0).findWay 0 = some 2
    ∧ ((waitingState v).at 0).way (((waitingState v).at 0).setOf 0) 2 = { lpn := 0, used := true, valid := v }
    ∧ (∀ c < 4, ∀ x, ((waitingState v).at 0).readRoom c x none = true) := by
  refine ⟨(rfl : _ = ((heldState v).at 0).findWay 0).trans (test_w_found v).1, ?_, fun c hc x => (test_w_room v x).1 c hc⟩
  have e : ((waitingState v).at 0).setOf 0 = (servedState false).setOf 0 := rfl
  have w : ((waitingState v).at 0).cache.ways = [((servedState false).setOf 0 * 8 + 2, { lpn := 0, used := true, valid := v })] := rfl
  simp only [State.way, e, w] <;> simp [Kv.getD, Kv.get?]
theorem test_w_moving : ({ st := .ready, moving := true } : Landing).moving = true := rfl
theorem test_w_lockOk : (servedState false).lockOk 0 1 = true := by decide
theorem lockOk_regs (s t : State) (h : s.regs = t.regs) (a b : Nat) : s.lockOk a b = t.lockOk a b := by
  simp only [State.lockOk, State.regionAt, State.region, State.actW, State.resetW, h]
theorem rangeCheck_lock (s : State) (h : s.lockOk 0 1 = true) : s.rangeCheck .lock 0 1 = 0 := by
  simp [State.rangeCheck, h, userPages]
theorem heldRegs (v : BitVec 64) : (heldState v).regs = (servedState false).regs := rfl
theorem heldLock (v : BitVec 64) : (heldState v).lockOk 0 1 = true := (lockOk_regs _ _ (heldRegs v) 0 1).trans test_w_lockOk
theorem test_w_lockCheck (v : BitVec 64) : (heldState v).rangeCheck .lock 0 1 = 0 := rangeCheck_lock _ (heldLock v)
theorem test_w_lockLimit : ∀ n < 16, (servedState false).regF (bCs n) 0x014 0 3 = 4 := by decide
theorem test_w_lockFree (v : BitVec 64) : (heldState v).lockedIn ((heldState v).setOf 0) = 0 ∧ ∀ n, (heldState v).tracked n = 0 := by
  constructor
  · have e : (heldState v).setOf 0 = (servedState false).setOf 0 := rfl
    have w : (heldState v).cache.ways = [((servedState false).setOf 0 * 8 + 2, { lpn := 0, used := true, valid := v })] := rfl
    simp only [State.lockedIn, State.way, e, w]
    generalize (servedState false).setOf 0 = z
    simp [List.range, List.range.loop, Kv.getD, Kv.get?, resetWay]
  · have r : (heldState v).media.reads = [] := rfl
    simp only [State.tracked, r] <;> simp
theorem test_w_now (v : BitVec 64) : ((heldState v).at 0).now = 0 :=
  (rfl : _ = (liveState.at 0).now).trans (by decide)
theorem test_w_grant : let r := readyState.at 60
    r.inGuard = true ∧ r.canCross (r.entryK 5) (r.now + 2) 0 = true ∧ r.isNext 5 (r.entryK 5) (r.now + 2) 0 = true := by
  have o : (readyState.at 60).offered ((readyState.at 60).entryK 5) = true := by decide
  have c : (readyState.at 60).capRoom 2 true = true := by decide
  have b (cs : List Nat) : (readyState.at 60).hostBeat cs 2 0 = true := rfl
  have m : (readyState.at 60).moveOk 7 2 = true := rfl
  have g (d p : Nat) : (readyState.at 60).guardOk d p = true := rfl
  have x : (readyState.at 60).tt.excluded = 0 := rfl
  have w (c d p u : Nat) : (readyState.at 60).planeWrite c d p u = none := rfl
  have p (cs : List Nat) (psn : Nat) : (readyState.at 60).planesFree cs psn 2 0 = true := by
    have k : (readyState.at 60).media.crossings = [] := rfl
    have q : (readyState.at 60).media.rewrites = [] := rfl
    have r : (readyState.at 60).media.reads = [] := rfl
    have y : (readyState.at 60).media.transfers = [] := rfl
    simp only [State.planesFree, x, w, k, q, r, y]
    simp
  have n : (readyState.at 60).now = 0 := rfl
  have l : ((readyState.at 60).entryK 5).lpn = 7 := rfl
  have h : ((readyState.at 60).entryK 5).isHost = true := rfl
  refine ⟨by decide, ?_, ?_⟩
  · simp [State.canCross, n, l, o, c, b, m, g, p, h]
  · have a : (readyState.at 60).cache.landing = [(5, { st := .ready, lpn := 7 })] := rfl
    have z : (readyState.at 60).otherStart 2 0 = false := rfl
    have y : (readyState.at 60).sec.blank = [] := rfl
    simp only [State.isNext, a, n, z, y] <;> simp
/-- Channel 1 copies from page 0, whose sector 0 is valid in the cache and poisoned or not. -/
def bargeHeld (poison : BitVec 64) : State := { bargeState copyWord true false with
  cache := { liveState.cache with ways := [((servedState false).setOf 0 * 8 + 2, { lpn := 0, used := true, valid := 1, poison := poison })] } }
theorem test_w_sectorHere (poison : BitVec 64) : ∃ x, (bargeHeld poison).sectorHere 0 0 = some (x, poison.getLsbD 0) := by
  have e : (bargeHeld poison).setOf 0 = (servedState false).setOf 0 := rfl
  have w : (bargeHeld poison).cache.ways
    = [((servedState false).setOf 0 * 8 + 2, { lpn := 0, used := true, valid := 1, poison := poison })] := rfl
  have f : (bargeHeld poison).findWay 0 = some 2 := by
    simp only [State.findWay, State.way, e, w]
    generalize (servedState false).setOf 0 = z
    simp [List.range, List.range.loop, Kv.getD, Kv.get?, resetWay]
  have g : (bargeHeld poison).way ((servedState false).setOf 0) 2 = { lpn := 0, used := true, valid := 1, poison := poison } := by
    simp [State.way, w, Kv.getD, Kv.get?]
  refine ⟨(bargeHeld poison).waySector ((servedState false).setOf 0) 2 0, ?_⟩
  simp [State.sectorHere, State.cacheSector, f, e, g]
theorem test_w_reports : Serves (upState 2 false false) .mboxHp0 ∧ isPath .mboxHp0 = true ∧ isPath .mctp = true
    ∧ (.getTimestamp .mctp : Instr) ∈ [.getPartitionInfo .mctp, .getSupportedLogs .mctp, .getTimestamp .mctp, .getHealthInfo .mctp]
    ∧ (upState 2 false false).start.mboxReady = true ∧ State.reset.start.mboxReady = false
    ∧ ({ State.reset.integ with romA := true } : Integrity).romA = true ∧ ({ State.reset.pst with unconfigured := true } : Pst).unconfigured = true :=
  ⟨⟨rfl, rfl, rfl, by decide, rfl, rfl⟩, rfl, rfl, by simp, rfl, rfl, rfl, rfl⟩

/-- A mailbox service with one Info record logged, a firmware transfer at 128 B or none, and a background transfer or none. -/
def settingState (transfer : Option Nat) (bg : Option (Nat × Nat × Nat)) : State := { upState 2 false false with
  hps := [(0, { inReset := false, logs := [(0, { entries := [{ handle := 5, flags := 0, stamp := 0, kind := 0, bytes := [] }], ovf := true })] })]
  mbox := { State.reset.mbox with fwTransfer := transfer, bg := bg, fwCheck := true } }
theorem test_w_settings : Serves (settingState none none) .mboxHp0 ∧ Serves (settingState (some 128) none) .mboxHp0 :=
  ⟨⟨rfl, rfl, rfl, by decide, rfl, rfl⟩, ⟨rfl, rfl, rfl, by decide, rfl, rfl⟩⟩
theorem test_w_fw : (settingState none none).mbox.fwTransfer = none ∧ (settingState none none).mbox.bg = none
    ∧ (settingState none none).mbox.fwRunning = 0 ∧ (settingState (some 128) none).mbox.fwTransfer = some (128 * 1)
    ∧ (settingState (some 128) none).mbox.fwTransfer ≠ some (128 * 2) ∧ (settingState none none).mbox.shutdown ≠ BitVec.ofNat 8 (b2n true)
    ∧ (settingState none none).mbox.shutdown = BitVec.ofNat 8 (b2n false)
    ∧ (settingState none (some (0, 0x0201, 0))).bgOver 0x0201 = true
    ∧ (∃ e ∈ (((settingState none none).hp 0).logs.getD 0 {}).entries, e.handle = 5)
    ∧ (∀ e ∈ (((settingState none none).hp 0).logs.getD 0 {}).entries, e.handle ≠ 6) := by decide
theorem test_w_bgStands : ({ (settingState none (some (0, 0xc030, 0))) with mnt := { State.reset.mnt with recalBusy := true } } : State).bgOver
    0xc030 = false := rfl

/-- The mailbox serves, and a landing entry of page 0 is open, write-through. -/
def injectState : State := { landedState true with start := { State.reset.start with memActive := true, mboxReady := true } }
theorem test_w_inject : Serves injectState .mboxHp0 ∧ injectState.pwr.state ≠ 4 ∧ injectState.poisonCheck .mboxHp0 0 = 0
    ∧ injectState.poisonCheck .mboxHp0 windowBase = rcInput ∧ (injectState.at 0).openEntry 0 = some 5
    ∧ (injectState.at 0).waitRoom = true ∧ injectState.cache.waiting = [] ∧ injectState.merging = []
    ∧ (injectState.at 0).unadmitted { id := 0, origin := .command 0, dpa := 0, kind := .write } = false
    ∧ (injectState.regionAt (bHp (pathHead .mboxHp0)) 0).getD 0 = 0 :=
  ⟨⟨rfl, rfl, rfl, by decide, rfl, rfl⟩, by decide⟩
theorem test_w_scan : windowBase < 0 + 64 * (windowBase / 64 + 1) ∧ injectState.mbox.bg = none ∧ injectState.mbox.poisonNext = none
    ∧ injectState.integ.scan = none ∧ injectState.mbox.scanNext = 0
    ∧ ({ injectState.integ with scan := some (0, 1) } : Integrity).scan.isSome = true
    ∧ ({ injectState.mbox with bg := some (0, 0x4304, 0) } : Mbox).bg.isSome = true := by decide
theorem test_w_injectLimit : 64 ≤ (List.replicate 64 ({ dpa := 0, len := 1, source := .injected } : PoisonRec)).countP (fun r => r.source == .injected) := by
  decide

/-- Region 0 with this MIRROR in all 19 copies, allowing every value; TT_MAP_ALLOW of map 0; a pair is configured. -/
def vendorRegs (mirror : Bool) : Kv Word :=
  let word : Word := if mirror then 8#32 else 0#32
  let regions := regionBlocks.foldl (fun m b => (m.set (regKey b 0x404) word).set (regKey b 0x408) 0xffff#32) (servedRegs false)
  (regions.set (regKey bTt 0x028) 1#32).set (regKey bFry 0x010) 1#32
/-- One region spans user memory in every copy and allows every value; map 0 is valid and allowed; the mailbox serves. -/
def vendorState (p : PState) (role : Role) (mirror : Bool) : State := { servedState false with
  start := { State.reset.start with memActive := true, mboxReady := true }
  fry := { (joinedState role).fry with pstate := p }
  tt := { liveState.tt with maps := [List.replicate 16 0x940#16] }
  regs := { liveState.regs with active := vendorRegs mirror } }
theorem test_w_vendor : Serves (vendorState .joined .lead true) .mboxHp0 ∧ Serves (vendorState .joined .follower true) .mctp
    ∧ Serves (vendorState .joined .lead false) .mboxHp0 := ⟨⟨rfl, rfl, rfl, by decide, rfl, rfl⟩, ⟨rfl, rfl, rfl, by decide, rfl, rfl⟩,
      ⟨rfl, rfl, rfl, by decide, rfl, rfl⟩⟩
theorem test_w_region : let s := vendorState .joined .lead true
    s.pwr.state ≠ 4 ∧ (s.region bXl 0).valid = true ∧ s.owner (s.region bXl 0) = 0 ∧ s.mirrored bXl 0 = true ∧ s.joined = true ∧ s.isLead = true
    ∧ (vendorState .joined .follower true).fry.role = .follower ∧ (vendorState .joined .lead false).mirrored bXl 0 = false
    ∧ (∀ f < 2, regAllows (s.actW bXl 0x408) f 1 = true) ∧ (s.region bXl 1).valid = false
    ∧ regAllows ((servedState false).actW bXl 0x408) 0 1 = false := by decide
theorem test_w_attrPayload : let p : List (BitVec 8) := [0, 1, 1, 0, 0, 0, 0, 0]
    p.length = 8 ∧ pnum p 0 1 = 0 ∧ pnum p 1 1 = 1 ∧ pnum p 2 1 = 1 ∧ pnum p 5 3 = 0 ∧ pnum [64, 1, 4, 0, 0, 0, 0, 0] 0 1 = 64 := by decide
theorem test_w_mapOk : ((vendorState .joined .lead true).actW bTt 0x028).getLsbD 0 = true
    ∧ mapFault ((vendorState .joined .lead true).tt.maps.getD 0 []) = none
    ∧ ((vendorState .joined .lead true).actW bTt 0x028).getLsbD 1 = false := by decide
theorem test_w_regPayload : pnum [0, 0, 1, 0, 4, 0, 0, 0] 4 1 = 4 ∧ pnum [0, 0, 1, 0, 2, 0, 0, 0] 4 1 = 2
    ∧ pnum [8, 0, 3, 0] 0 1 = 8 ∧ pnum [25, 0, 3, 0] 0 1 = 25 ∧ pnum [8, 3, 3, 0] 1 1 = 3 ∧ ((State.reset).actW (bHp 1) 0x010).getLsbD 3 = false :=
  by decide

/-- An occurrence of two records waits in the holds, with records taken in the frame. -/
def recordState (taken : Nat) : State := { liveState with tele := { State.reset.tele with evq := { State.reset.tele.evq with
  hold := [[{ fn := 0, source := 370, code := 0x0301, severity := .info }, { fn := 0, source := 370, code := 0, severity := .info, cont := true }]]
  lostMark := [370], takenNow := taken } } }
theorem test_w_take : (∀ k, ((recordState 0).tele.counters.getD k {}).enable = false) ∧ (recordState 0).tele.evq.records.discard = false
    ∧ (recordState 0).tele.evq.records.words.length < qCap .records ∧ (recordState 0).tele.evq.takenNow < 1024
    ∧ (∀ h < 2, ∀ l < 4, (((recordState 0).hp h).logs.getD l {}).entries.length + 2 ≤ logCap l)
    ∧ (recordState 0).tele.evq.taking = [] ∧ (recordState 0).tele.evq.direct = [] ∧ (recordState 0).tele.evq.hold.length = 1
    ∧ 1024 ≤ (recordState 1024).tele.evq.takenNow ∧ (recordState 0).tele.evq.staged.length < 256
    ∧ (recordState 0).tele.evq.relay.length < 64 := ⟨fun _ => rfl, by decide⟩

/-- A window is latched, and one ending with frame 0 is gathered, at this FN. -/
def censusState (fn : Nat) : State := { liveState with
  cen := { State.reset.cen with closeDue := some false, gathering := true }, tt := { liveState.tt with fn := fn } }
theorem test_w_census : (censusState 1).cen.closeDue.isSome = true ∧ Mem.wf (censusState 1).cen.building = true
    ∧ Mem.num (censusState 1).cen.building 10 6 < (censusState 1).tt.fn ∧ 0 < (censusState 2).tt.fn - Mem.num (censusState 2).cen.building 10 6 - 1
    ∧ (censusState 0).tt.fn ≤ Mem.num (censusState 0).cen.building 10 6 ∧ liveState.cen.closeDue = none := by decide

theorem test_mapFault : mapFault (List.replicate 16 0x940#16) = none ∧ mapFault (List.replicate 16 0#16) = some (255, 255)
    ∧ mapFault (List.replicate 16 0x1940#16) = some (0, 255) := by decide

theorem test_w_hold : (∀ r ∈ [({ fn := 0, source := 3, code := 0, severity := .info } : Record)], r.source = 3)
    ∧ ∀ x ∈ (recordState 0).tele.evq.hold, x ≠ [] ∧ ∃ k, ∀ r ∈ x, r.source = k := by
  refine ⟨by decide, ?_⟩
  intro x hx
  simp [recordState] at hx
  subst hx
  exact ⟨by simp, 370, by simp⟩
/-- A hold of four Info records drops the oldest for a new Warning, and counts it. -/
theorem test_holdDrops : let r (c : Nat) (v : Severity) : Record := { fn := 0, source := 3, code := c, severity := v }
    let e : Evq := { hold := [[r 1 .info], [r 2 .info], [r 3 .warning], [r 4 .info]] }
    (Evq.put 8 e 3 [r 5 .warning]).hold = [[r 2 .info], [r 3 .warning], [r 4 .info], [r 5 .warning]]
    ∧ (Evq.put 8 e 3 [r 5 .warning]).frameDropped = 1 := by decide

theorem test_wf_refuses_0 : List.all (α := Instr)
    [.registerWrite .hp0 16777216 1 0 0, .registerWrite .hp0 0 0 0 0, .registerWrite .hp0 0 65 0 0,
     .setAliasWrite .hp0 16777216 1 0 0, .setAliasWrite .hp0 0 0 0 0, .setAliasWrite .hp0 0 65 0 0,
     .clearAliasWrite .hp0 16777216 1 0 0, .clearAliasWrite .hp0 0 0 0 0, .clearAliasWrite .hp0 0 65 0 0,
     .toggleAliasWrite .hp0 16777216 1 0 0, .toggleAliasWrite .hp0 0 0 0 0, .toggleAliasWrite .hp0 0 65 0 0,
     .postedWrite .hp0 16777216 1 0 0, .postedWrite .hp0 0 0 0 0, .postedWrite .hp0 0 65 0 0, .postedWriteAccept 54,
     .postedWriteTimeout 54, .qpush .hp0 .records 0 0, .qpush .hp0 .records 0 65, .qpushEnd .hp0 .records 0 0]
    (fun i => !i.wf) = true := by decide

theorem test_wf_refuses_1 : List.all (α := Instr)
    [.qpushEnd .hp0 .records 0 65, .qpop .hp0 .records 0, .qpop .hp0 .records 65, .cntLowRead .hp0 54 0,
     .cntLowRead .hp0 0 8, .counterWrap 54 0 1, .counterWrap 0 8 1, .counterWrap 0 0 0,
     .frameTick [(18, 0, 0)] 0 false 0 0, .frameTick [] 0 false 0 9, .crossingGrant 1024 (.copy 0) 0,
     .crossingGrant 0 (.copy 0) 6, .crossingLate 1024 0 [], .crossingLate 0 0 [18], .crossingLaunch 1024 0,
     .planeWriteCompletion 1024 0 0 0, .planeWriteCompletion 0 0 18 0, .writeLate 1024 0 0, .writeLate 0 0 18,
     .crossingCommit 1024 0]
    (fun i => !i.wf) = true := by decide

theorem test_wf_refuses_2 : List.all (α := Instr)
    [.landingEntryFree 1024 0 0, .landingEntryFree 0 16 0, .landingEntryFree 0 0 512, .readCommand 1024 0 0,
     .readCommand 0 0 6, .writeSuspend 1024 0 0, .writeSuspend 0 0 18, .writeResume 1024 0 0, .writeResume 0 0 18,
     .readTransfer 1024 0 0 0 false, .readTransfer 0 0 18 0 false, .missingBeat 1024 0 0, .missingBeat 0 0 18,
     .alternateReferenceRead 1024 0, .reconstructRead 1024 0, .translationProbe 35184372088832,
     .hdmDecoderCommit 0 4 0 1 0 0 0 false, .writeCounterWrap 384, .gapMove 1024 0, .gapMove 0 384]
    (fun i => !i.wf) = true := by decide

theorem test_wf_refuses_3 : List.all (α := Instr)
    [.stripeRetirement 1024, .berthRetirement 1024,
     .memrd 1024 0 0 0, .memwr 1024 0 0 0 0 false, .byteEnableWrite 1024 0 0 0 0 0 false,
     .commitPageRead 1024 0 0 0, .commitPageRead 0 0 0 4096, .requestAdmit 1024 0, .fillBlock 1024 0,
     .victimMoveDone 1024 0 0, .victimMoveDone 0 16 0, .victimMoveDone 0 0 512, .backgroundDestage 1024 0 [],
     .backgroundDestage 0 16 [], .backgroundDestage 0 0 [(8, 0, false)], .dramChannelFailed 4 1 0 0, .dramChannelFailed 0 0 0 0, .dramChannelFailed 0 4 0 0]
    (fun i => !i.wf) = true := by decide

theorem test_wf_refuses_4 : List.all (α := Instr)
    [.dramChannelFailed 0 1 2 0, .dramChannelFailed 0 1 0 5, .sliceRemoved 16, .sliceDrained 16,
     .dramDeviceErased 4 0 0 1, .dramDeviceErased 0 2 0 1, .dramDeviceErased 0 0 5 1, .dramDeviceErased 0 0 0 0,
     .dramDeviceErased 0 0 0 3, .dieFailed 18 0 1, .dieFailed 0 8 1, .dieFailed 0 0 0, .channelFailed 18 0,
     .channelFailed 0 2, .rebuildStart 8, .rebuildStripe 1024 0 0, .rebuildStripe 0 8 0,
     .rebuildStripe 0 0 6, .rebuildDone 8]
    (fun i => !i.wf) = true := by decide

theorem test_wf_refuses_5 : List.all (α := Instr)
    [.correctiveRewrite 1024 0 0, .correctiveRewrite 0 0 6, .refreshOverdue 18 0, .datapathRetried 54 0 0 false 0 0,
     .dramReadReturn 1024 0 0 0 0 0, .dramReadReturn 0 4 0 0 0 0, .dramReadReturn 0 0 2 0 0 0,
     .dramReadReturn 0 0 0 0 0 5, .dramWriteIssue 1024 0 0 0, .dramWriteIssue 0 4 0 0, .dramWriteIssue 0 0 2 0,
     .peerRepaired 1024 0 0 0 0 false, .peerRepaired 0 6442450944 0 0 0 false, .peerRepaired 0 0 16 0 0 false,
     .sramSweepRead 54 0 0 0 0 0 0 0 false false, .dramSweepRead 1024 0 0 0 0 0 false,
     .dramSweepRead 0 4 0 0 0 0 false, .dramSweepRead 0 0 0 0 0 5 false, .sweepMediaRead 1024 0,
     .sweepMediaRead 0 18]
    (fun i => !i.wf) = true := by decide

theorem test_wf_refuses_6 : List.all (α := Instr)
    [.sweepLogicalRead 1024 0,
     .sweepLogicalRead 0 65, .mgtCheckpoint 2, .mgtLockstep 2, .mgtTrap 2 0 0, .romRestartDone 2,
     .repaverPassStart 64, .repaverPage 1024, .rekeyDone 64, .formatDone 64, .ideFail 2 0 0, .ideFail 0 2 0,
     .ideFail 0 0 2, .keyProg 0 2 0 0 0, .keyProg 0 0 3 0 0]
    (fun i => !i.wf) = true := by decide

theorem test_wf_refuses_7 : List.all (α := Instr)
    [.keyProg 0 0 0 2 0, .keyProg 0 0 0 0 2, .kSetGo 0 2 0 0 0, .kSetGo 0 0 3 0 0, .kSetGo 0 0 0 2 0,
     .kSetGo 0 0 0 0 2, .kSetStop 0 2 0 0 0, .kSetStop 0 0 3 0 0, .kSetStop 0 0 0 2 0, .kSetStop 0 0 0 0 2,
     .engineKat 10 false, .debugUnlock 4 0 false, .debugUnlock 0 2 false, .getVersion 4, .getCapabilities 4,
     .negotiateAlgorithms 4 false, .getDigests 4, .getCertificate 4 0 0 0, .getCertificate 0 8 0 0,
     .spdmChallenge 4 0]
    (fun i => !i.wf) = true := by decide

theorem test_wf_refuses_8 : List.all (α := Instr)
    [.spdmChallenge 0 8, .getMeasurements 4 0 false, .getMeasurements 0 256 false, .keyExchange 4 0 false,
     .keyExchange 0 8 false, .spdmFinish 4 false false false, .spdmHeartbeat 4 0, .keyUpdate 4 0, .endSession 4 0,
     .getCsr 4 0 false, .setCertificate 4 0 0 [], .setCertificate 0 0 8 [], .vendorDefinedRequest 4 0 0 [],
     .vendorDefinedRequest 0 0 65536 [], .gpfPhase2 1024 0, .gpfDone 1024 0 0,
     .flitReceive 1024 false false 0 0 none false 0 0 0, .linkRetrain 1024 0, .linkRetrain 0 2, .linkWidth 9]
    (fun i => !i.wf) = true := by decide

theorem test_wf_refuses_9 : List.all (α := Instr)
    [.mirrorWrite 1024 0 0 [0] 0, .mirrorWrite 0 6442450944 0 [0] 0, .mirrorWrite 0 0 64 [0] 0,
     .mirrorWrite 0 0 0 [] 0, .mirrorWrite 0 0 0 [0, 0, 0, 0, 0] 0, .mirrorAck 1024 0, .stateMsg 1024 0 0 0 0,
     .stateSend 1024, .heartbeatMsg 1024 0 none, .heartbeatSend 1024, .fenceMsg 4 false false false false 0 0 0 0 0,
     .silenceTimeout 1024, .handoverTimeout 1024, .resignDrainTimeout 1024, .resyncPageRequest 1024 0 0,
     .resyncPageRequest 0 6442450944 0,
     .resyncPageData 1024 0 (List.replicate 64 0) 0, .resyncPageData 0 6442450944 (List.replicate 64 0) 0,
     .resyncPageData 0 0 [] 0]
    (fun i => !i.wf) = true := by decide

theorem test_wf_refuses_10 : List.all (α := Instr)
    [.resyncPageZero 1024 0, .resyncPageZero 0 6442450944, .resyncPageBitmap 1024 0 [],
     .resyncPageBitmap 0 0 [32768], .resyncPageDone 1024, .resyncPageSend 1024,
     .configAtFnPropose 0 0 0 0 0, .configAtFnPropose 4 0 0 0 0, .configAtFnPropose 1 256 0 0 0,
     .configAtFnPropose 1 0 0 64 0, .configAtFnAck 256, .configAtFnRefuse 256 false, .configAtFnCancel 256,
     .configAtFnSync 0 0 0 0, .configAtFnSync 4 0 0 0, .configAtFnSync 1 0 64 0, .bargeAtFnPropose 4 0 0 0 0,
     .bargeAtFnAck 4 0, .bargeAtFnRefuse 4 0 false]
    (fun i => !i.wf) = true := by decide

theorem test_wf_refuses_11 : List.all (α := Instr)
    [.bargeAtFnCancel 4 0, .bargeAtFnDone 4 0, .bargeAtFnHalted 4 0, .dramRefreshDue 1024 0 0 0,
     .dramRefreshDue 0 4 0 0, .dramRefreshDue 0 0 2 0, .mr4Read 4 false false 0, .actMitigation 1024 0 0 0 0,
     .actMitigation 0 4 0 0 0, .actMitigation 0 0 2 0 0, .actMitigation 0 0 0 32 0, .actMitigation 0 0 0 0 131072,
     .rfm 1024 0 0 0 false 0, .rfm 0 4 0 0 false 0, .rfm 0 0 2 0 false 0, .rfm 0 0 0 32 false 0,
     .actTableClear 4 0 0, .actTableClear 0 2 0, .actTableClear 0 0 32, .pageIdleExpiry 1024 0 0 0]
    (fun i => !i.wf) = true := by decide

theorem test_wf_refuses_12 : List.all (α := Instr)
    [.pageIdleExpiry 0 4 0 0, .pageIdleExpiry 0 0 2 0, .pageIdleExpiry 0 0 0 32, .selfRefreshEntry 1024 0 0,
     .selfRefreshEntry 0 4 0, .selfRefreshEntry 0 0 2, .selfRefreshExit 1024 0 0, .selfRefreshExit 0 4 0,
     .selfRefreshExit 0 0 2, .driftCheck 4 0 0, .dramRetrain 4 false 0 0 0 0 0, .dramRetrain 0 false 2 0 0 0 0,
     .retrainRetry 4, .actResumed 0, .actResumed 13, .frequencyChange 4 0, .trainRun 4, .trainRunDone 4 [],
     .trainRunDone 0 [(80, 0)], .laneFailed 0 16 0 0]
    (fun i => !i.wf) = true := by decide

theorem test_wf_refuses_13 : List.all (α := Instr)
    [.laneFailed 0 0 2 0, .widthChanged 0 16 false 0, .doeRequest 0 4 0, .mctpMessage 3 none,
     .recalDone [(144, 0, 0)] false, .bankMonitor [] 0 false, .descriptorStart 4, .bargeCopy 1024 0 0 [],
     .bargeCopy 0 4 0 [], .bargeFill 1024 0 0, .bargeFill 0 4 0, .bargeZero 1024 0 0, .bargeZero 0 4 0,
     .bargeCrc 1024 0 0, .bargeCrc 0 4 0, .bargeComplete 4, .bargeResume 4, .storeWindowWrite .hp0 0x8000 1 0 0,
     .storeWindowWrite .hp0 0 0 0 0, .storeWindowWrite .hp0 0 65 0 0]
    (fun i => !i.wf) = true := by decide

theorem test_wf_refuses_14 : List.all (α := Instr)
    [.railFault 17 0, .railWarn 17 0, .mooredWake 0 [96], .thermalTrip 2 0 0 0, .thermalTrip 0 18 0 0,
     .thermalTrip 0 0 8 0, .softReset .hp0 256, .getLog .hp0 3 0 0, .getEventRecords .hp0 4,
     .clearEventRecords .hp0 4 false [], .setEventInterruptPolicy .hp0 [], .injectPoison 1024 .hp0 0,
     .clearPoison 1024 .hp0 0 0, .transferFw .hp0 5 0 0 [], .activateFw .hp0 2 0, .railInTolerance 17 0,
     .mediaPhyTrainingLost 18 false, .dramTrainingLost 4 0 false, .dramTrainingLost 0 2 false,
     .cpmuCounterOverflow 0 4 1]
    (fun i => !i.wf) = true := by decide

end Sys2Proof
end

section
/-!
PROOF. Writes of one whole register word under each of the four modes (R10, R35, R39, R41): what the decoding of the offset
and of the byte enables comes to, what the access types let the write change, and that it triggers nothing where the word has no
WS bits and no doorbell or probe.
-/
namespace Sys2Proof.Machine

/-! ### Decoding of the offset and the byte enables -/

/-- R33. No two blocks share a page. -/
theorem blkAt_blkPage {b : Nat} (hb : b < 54) : blkAt (blkPage b) = some b := by
  revert b
  decide

/-- R33. An offset within the 64 KiB of a block decodes to that block and to the offset within it. -/
theorem regKey_add_div {b o back : Nat} (h : o + back < 0x10000) : (regKey b o + back) / 0x10000 = blkPage b := by
  unfold regKey; omega

theorem regKey_add_mod {b o back : Nat} (h : o + back < 0x10000) : (regKey b o + back) % 0x10000 = o + back := by
  unfold regKey; omega

/-- The four low bytes of a value, put together again, are its low 32 bits. -/
theorem ofNat_four_bytes (v : BitVec 512) :
    BitVec.ofNat 32 (0 + bits v 0 8 * 256 ^ 0 + bits v 8 8 * 256 ^ 1 + bits v 16 8 * 256 ^ 2 + bits v 24 8 * 256 ^ 3)
      = v.setWidth 32 := by
  apply BitVec.eq_of_toNat_eq
  simp only [bits, BitVec.toNat_ofNat, BitVec.toNat_setWidth, Nat.shiftRight_eq_div_pow]
  omega

theorem accessBytes_four_enabled (o : Nat) (v : BitVec 512) :
    accessBytes o 4 0xf v = [(o, true, bits v 0 8), (o + 1, true, bits v 8 8), (o + 2, true, bits v 16 8),
      (o + 3, true, bits v 24 8)] := by
  simp [accessBytes, List.range_succ]

/-- The bytes of an aligned four-byte access lie in one word. -/
theorem accessBytes_filter_word {o : Nat} (ho : o % 4 = 0) (v : BitVec 512) :
    (accessBytes o 4 0xf v).filter (fun b => b.1 / 4 * 4 == o) = accessBytes o 4 0xf v := by
  have hmine : o / 4 * 4 = o ∧ (o + 1) / 4 * 4 = o ∧ (o + 2) / 4 * 4 = o ∧ (o + 3) / 4 * 4 = o := by omega
  rw [List.filter_eq_self, accessBytes_four_enabled]
  simp [hmine]

theorem accessBytes_value {o : Nat} (ho : o % 4 = 0) (v : BitVec 512) :
    BitVec.ofNat 32 ((accessBytes o 4 0xf v).foldl (fun n b => n + b.2.2 * 256 ^ (b.1 % 4)) 0) = v.setWidth 32 := by
  have hplace : (o + 1) % 4 = 1 ∧ (o + 2) % 4 = 2 ∧ (o + 3) % 4 = 3 := by omega
  obtain ⟨h1, h2, h3⟩ := hplace
  rw [← ofNat_four_bytes, accessBytes_four_enabled, List.foldl_cons, List.foldl_cons, List.foldl_cons, List.foldl_cons,
    List.foldl_nil, ho, h1, h2, h3]

theorem accessBytes_enabled (o : Nat) (v : BitVec 512) : (accessBytes o 4 0xf v).countP (fun b => b.2.1) = 4 := by
  rw [accessBytes_four_enabled]
  simp

/-- R35. An aligned access of four bytes with all byte enables touches one word, with its four bytes enabled. -/
theorem accessWords_aligned_word {o : Nat} (ho : o % 4 = 0) (v : BitVec 512) :
    accessWords o 4 0xf v = [(o, 4, v.setWidth 32)] := by
  have hbase : (o / 4 + 0) * 4 = o := by omega
  have hone : List.range ((o % 4 + min 4 64 + 3) / 4) = [0] := by rw [ho]; rfl
  simp only [accessWords, hone, List.map_cons, List.map_nil, hbase, accessBytes_filter_word ho, accessBytes_value ho,
    accessBytes_enabled]

/-! ### What the access types let a write change -/

/-- The value of a word after a write that reaches the bits of `mask` only (R39, R41). -/
def WriteMode.merge (mode : WriteMode) (old v mask : Word) : Word := (old &&& ~~~mask) ||| (mode.apply old v &&& mask)

@[simp] theorem WriteMode.merge_no_bits (mode : WriteMode) (old v : Word) : mode.merge old v 0#32 = old := by
  simp only [WriteMode.merge, BitVec.not_zero, BitVec.and_allOnes, BitVec.and_zero, BitVec.or_zero]

/-- R118. The word at this offset is REGn_ATTR of a block that holds regions. -/
def isRegionAttr (b o : Nat) : Prop :=
  (blkType b = 4 ∨ blkType b = 5 ∨ blkType b = 6) ∧ 0x400 ≤ o ∧ o < 0x800 ∧ o % 16 = 4

/-- R41. Apart from REGn_ATTR, a write of RS bits changes the shadow word, and notes at most that a counter or a map was
selected. -/
theorem State.writeRs_eq_of_not_attr (s : State) {b o : Nat} (mode : WriteMode) (v rs : Word) (hattr : ¬ isRegionAttr b o) :
    ∃ tt sel, s.writeRs b o mode v rs = { s with
      tt := tt
      regs := { s.regs with
        shadow := s.regs.shadow.set (regKey b o) (mode.merge (s.shdW b o) v rs), selWritten := sel } } := by
  unfold isRegionAttr at hattr
  simp only [State.writeRs, hattr, if_false]
  split
  case isTrue => exact ⟨_, _, rfl⟩
  case isFalse =>
    split
    · exact ⟨_, _, rfl⟩
    · exact ⟨_, _, rfl⟩

/-- R41. A word without RS bits is left out of the shadow copy. -/
theorem State.writeRs_unless_no_bits (s : State) {b o : Nat} (mode : WriteMode) (v rs : Word) (hattr : ¬ isRegionAttr b o) :
    ∃ tt sel, (if rs = 0 then s else s.writeRs b o mode v rs) = { s with
      tt := tt
      regs := { s.regs with
        shadow := if rs = 0 then s.regs.shadow else s.regs.shadow.set (regKey b o) (mode.merge (s.shdW b o) v rs)
        selWritten := sel } } := by
  split
  · exact ⟨_, _, rfl⟩
  · exact s.writeRs_eq_of_not_attr mode v rs hattr

theorem State.setW_unless (s : State) (b o : Nat) (w : Word) (c : Prop) [Decidable c] :
    (if c then s else s.setW b o w) = { s with
      regs := { s.regs with active := if c then s.regs.active else s.regs.active.set (regKey b o) w } } := by
  split
  · rfl
  · rfl

/-- R41. The tables of a write of one word: the shadow word takes the RS bits, the active word the RI bits. -/
theorem State.writeWord_eq_of_writable (s : State) {b o : Nat} (mode : WriteMode) (v : Word)
    (hw : s.regWritable b o = true) (hattr : ¬ isRegionAttr b o) :
    ∃ tt sel, s.writeWord b mode o v = { s with
      tt := tt
      regs := { s.regs with
        active := if (regSpec (blkType b) o).ri = 0 then s.regs.active
          else s.regs.active.set (regKey b o) (mode.merge (s.actW b o) v (regSpec (blkType b) o).ri)
        shadow := if (regSpec (blkType b) o).rs = 0 then s.regs.shadow
          else s.regs.shadow.set (regKey b o) (mode.merge (s.shdW b o) v (regSpec (blkType b) o).rs)
        selWritten := sel } } := by
  obtain ⟨tt, sel, hrs⟩ := s.writeRs_unless_no_bits mode v (regSpec (blkType b) o).rs hattr
  refine ⟨tt, sel, ?_⟩
  simp only [State.writeWord, hw, if_true, bne_iff_ne, ne_eq, ite_not, hrs, State.setW_unless]
  rfl

/-- R10, R41. From `s` to `t` the word at `o` of block `b` was written under a mode: its RS bits in the shadow copy, its RI bits
in the active copy, and no other register, no data, no table and no power state with it. -/
def WordWritten (s t : State) (b o : Nat) (mode : WriteMode) (v : Word) : Prop :=
  let sp := regSpec (blkType b) o
  (sp.rs ≠ 0 → t.shdW b o = mode.merge (s.shdW b o) v sp.rs)
    ∧ t.actW b o = mode.merge (s.actW b o) v sp.ri
    ∧ (∀ b' o', regKey b' o' ≠ regKey b o → t.actW b' o' = s.actW b' o' ∧ t.shdW b' o' = s.shdW b' o')
    ∧ DataKept s t ∧ t.xl = s.xl ∧ t.sec = s.sec ∧ t.fry = s.fry ∧ t.pwr = s.pwr

theorem DataKept.of_fields_eq {s t : State} (hmedia : t.media = s.media) (hdram : t.dram = s.dram) (hstore : t.store = s.store)
    (hfw : t.fwStore = s.fwStore) (hcache : t.cache = s.cache) : DataKept s t := by
  simp [DataKept, State.way, State.entry, hmedia, hdram, hstore, hfw, hcache]

theorem State.writeWord_written (s : State) {b o : Nat} (mode : WriteMode) (v : Word)
    (hw : s.regWritable b o = true) (hattr : ¬ isRegionAttr b o) : WordWritten s (s.writeWord b mode o v) b o mode v := by
  obtain ⟨tt, sel, ht⟩ := s.writeWord_eq_of_writable mode v hw hattr
  rw [ht]
  refine ⟨fun hrs => ?shadow, ?active, fun b' o' hne => ?others, .of_fields_eq rfl rfl rfl rfl rfl, rfl, rfl, rfl, rfl⟩
  case shadow => simp only [State.shdW, if_neg hrs, Kv.getD_set_self]
  case active =>
    by_cases hri : (regSpec (blkType b) o).ri = 0
    · simp only [State.actW, State.resetW, hri, if_true, BitVec.ofNat_eq_ofNat, WriteMode.merge_no_bits]
    · simp only [State.actW, if_neg hri, Kv.getD_set_self]
  case others =>
    have hset : ∀ (m : Kv Word) (w d : Word) (c : Prop) [Decidable c],
        Kv.getD (if c then m else m.set (regKey b o) w) (regKey b' o') d = m.getD (regKey b' o') d := by
      intro m w d c _
      split
      · rfl
      · exact Kv.getD_set_ne m w d hne
    simp [State.actW, State.shdW, State.resetW, hset]

/-! ### What a write triggers -/

@[simp] theorem State.gate_false (s : State) (f : State → State) : s.gate false f = s := rfl

@[simp] theorem hasBit_nil (o i : Nat) : hasBit [] o i = false := rfl

/-- R10. A word without WS bits triggers no action. -/
theorem strobes_eq_nil_of_ws_zero {b o : Nat} (mode : WriteMode) (w : Word) (hws : (regSpec (blkType b) o).ws = 0) :
    strobes b mode [(o, w)] = [] := by
  cases mode <;> simp [strobes, hws]

/-- R33. XL is the one block of its type. -/
theorem eq_bXl_of_blkType {b : Nat} (h : blkType b = 6) : b = bXl := by
  unfold blkType at h
  unfold bXl
  repeat' split at h
  all_goals omega

/-- R33. BRG is the one block of its type. -/
theorem eq_bBrg_of_blkType {b : Nat} (h : blkType b = 12) : b = bBrg := by
  unfold blkType at h
  unfold bBrg
  repeat' split at h
  all_goals omega

/-- R489. Without WS bits, a write of BRG outside the channel registers does nothing more. -/
theorem State.actBrg_of_no_doorbell (s : State) {o : Nat} (w : Word) (ho : ¬ (0x040 ≤ o ∧ o < 0x0c0)) :
    s.actBrg [(o, w)] [] = s := by
  have hbell : ∀ n < 4, (o == 0x040 + 0x20 * n) = false := by
    intro n hn
    rw [beq_eq_false_iff_ne]
    omega
  simp [State.actBrg, List.range_succ, hbell 0, hbell 1, hbell 2, hbell 3]

/-- R39. A write that sets no WS bit, and is no doorbell of BRG and no probe of XL, does nothing beyond the stored fields. -/
theorem State.act_of_no_action (s : State) (m : Master) {b o : Nat} (w : Word)
    (hprobe : ¬ (b = bXl ∧ (o = 0x040 ∨ o = 0x044))) (hbell : ¬ (b = bBrg ∧ 0x040 ≤ o ∧ o < 0x0c0)) :
    s.act m b [(o, w)] [] = s := by
  unfold State.act
  split
  case h_1 => simp [State.actTop]
  case h_4 hty =>
    have ho : (o == 0x040 || o == 0x044) = false := by
      simpa using fun h => hprobe ⟨eq_bXl_of_blkType hty, h⟩
    simp only [List.any_cons, List.any_nil, ho, Bool.or_false, State.gate_false]
  case h_7 hty => exact s.actBrg_of_no_doorbell w fun h => hbell ⟨eq_bBrg_of_blkType hty, h⟩
  all_goals simp

/-! ### A whole-word write -/

/-- R33–R38. Master `m` reaches the aligned word at `o` of block `b`, `back` above its base offset: the block is live, BAR2 is
there, and the Square lets the transfer through. -/
structure ReachesWord (s : State) (m : Master) (b o back : Nat) : Prop where
  block : b < 54
  offset : o < 0x1000
  aligned : o % 4 = 0
  above : back ≤ 0x3000
  there : s.bar2There m = true
  unblocked : secBlocked m b (o + back) = false
  live : s.live b = true

/-- R35, R41. A whole-word write of a register without RP bits writes the word, and answers it as the word to act on. -/
theorem State.regWrite_word {s : State} {m : Master} {b o back : Nat} (h : ReachesWord s m b o back) (v : BitVec 512)
    (mode : WriteMode) (hrp : (regSpec (blkType b) o).rp = 0) :
    s.regWrite m (regKey b o + back) 4 0xf v mode back
      = (s.writeWord b mode o (v.setWidth 32), some (b, [(o, v.setWidth 32)])) := by
  obtain ⟨hb, ho, hal, hback, hthere, hopen, hlive⟩ := h
  have hin : o + back < 0x10000 := by omega
  have hkey : keyBlocked m b (o + back) = false := by
    have : ¬ 0x8000 ≤ o + back := by omega
    simp [keyBlocked, this]
  have hword : ¬ 0x1000 ≤ o := by omega
  have hnorp : ∀ t : State, t.rpWords b [(o, v.setWidth 32)] = [] := by simp [State.rpWords, hrp]
  have hwords : accessWords (o + back - back) 4 0xf v = [(o, 4, v.setWidth 32)] := by
    rw [Nat.add_sub_cancel, accessWords_aligned_word hal]
  simp only [State.regWrite, regKey_add_div hin, regKey_add_mod hin, blkAt_blkPage hb, hwords]
  simp [hword, hthere, hopen, hkey, hlive, partialWrite, State.rpDropped, State.postWords, hnorp]

/-- R10, R41. Where the word has no RP and no WS bits and is no doorbell and no probe, that is all a whole-word write does. -/
theorem State.writeAct_word {s : State} {m : Master} {b o back : Nat} (h : ReachesWord s m b o back) (v : BitVec 512)
    (mode : WriteMode) (hrp : (regSpec (blkType b) o).rp = 0) (hws : (regSpec (blkType b) o).ws = 0)
    (hprobe : ¬ (b = bXl ∧ (o = 0x040 ∨ o = 0x044))) (hbell : ¬ (b = bBrg ∧ 0x040 ≤ o ∧ o < 0x0c0)) :
    s.writeAct m (regKey b o + back) 4 0xf v mode back = s.writeWord b mode o (v.setWidth 32) := by
  simp only [State.writeAct, State.regWrite_word h v mode hrp, strobes_eq_nil_of_ws_zero mode _ hws,
    State.act_of_no_action _ m _ hprobe hbell]

/-- R33. A write at a base offset is a plain write of registers. -/
theorem State.busWrite_base (s : State) (m : Master) {b o : Nat} (hb : b < 54) (ho : o < 0x1000) (size : Nat) (be : BitVec 64)
    (v : BitVec 512) : s.busWrite m (regKey b o) size be v = s.writeAct m (regKey b o + 0) size be v .plain 0 := by
  have hin : o + 0 < 0x10000 := by omega
  have hdiv := regKey_add_div (b := b) hin
  have hmod := regKey_add_mod (b := b) hin
  simp only [Nat.add_zero] at hdiv hmod
  simp [State.busWrite, hdiv, hmod, blkAt_blkPage hb, ho]

/-- R586. That a command begins, and that TOP counts its access, changes outputs and telemetry only. -/
theorem State.begin_bar2Count_eq (s : State) (m : Master) (write : Bool) :
    ∃ tele, s.begin.bar2Count m write = { s with out := [], tele := tele } := by
  unfold State.bar2Count State.gate
  split
  · exact ⟨_, rfl⟩
  · exact ⟨_, rfl⟩

/-- A whole-word write under any mode, from the state in which the command was given. -/
theorem State.writeAct_begun_written {s : State} {m : Master} {b o back : Nat} (h : ReachesWord s m b o back) (v : BitVec 512)
    (mode : WriteMode) (hw : s.regWritable b o = true) (hrp : (regSpec (blkType b) o).rp = 0)
    (hws : (regSpec (blkType b) o).ws = 0) (hattr : ¬ isRegionAttr b o)
    (hprobe : ¬ (b = bXl ∧ (o = 0x040 ∨ o = 0x044))) (hbell : ¬ (b = bBrg ∧ 0x040 ≤ o ∧ o < 0x0c0)) :
    WordWritten s ((s.begin.bar2Count m true).writeAct m (regKey b o + back) 4 0xf v mode back) b o mode (v.setWidth 32) := by
  obtain ⟨tele, hu⟩ := s.begin_bar2Count_eq m true
  have hreach : ReachesWord { s with out := [], tele := tele } m b o back :=
    ⟨h.block, h.offset, h.aligned, h.above, h.there, h.unblocked, h.live⟩
  rw [hu, State.writeAct_word hreach v mode hrp hws hprobe hbell]
  exact State.writeWord_written { s with out := [], tele := tele } mode _ hw hattr

/-- Settles O5: all four commands come to a write of the one word under their mode. -/
theorem registerWritesFollowTheAccessTypes : Obligations.RegisterWritesFollowTheAccessTypes := by
  intro m b o v s hb ho hal off sp written hthere hlive hw hrp hws hattr hprobe hbell
  have hwritten (mode : WriteMode) (back : Nat) (hback : back ≤ 0x3000) (hopen : secBlocked m b (o + back) = false) :
      written mode ((s.begin.bar2Count m true).writeAct m (off + back) 4 0xf v mode back) :=
    State.writeAct_begun_written ⟨hb, ho, hal, hback, hthere, hopen, hlive⟩ v mode hw hrp hws hattr hprobe hbell
  refine ⟨fun hopen => ⟨_, rfl, ?_⟩, fun hopen => ⟨_, rfl, hwritten .set 0x1000 (by decide) hopen⟩,
    fun hopen => ⟨_, rfl, hwritten .clear 0x2000 (by decide) hopen⟩,
    fun hopen => ⟨_, rfl, hwritten .toggle 0x3000 (by decide) hopen⟩⟩
  change written .plain (State.busWrite _ m (regKey b o) 4 0xf v)
  rw [State.busWrite_base _ m hb ho]
  exact hwritten .plain 0 (by decide) hopen

end Sys2Proof.Machine
end
